-- ==== Sys2Proof/Word.lean ====
section
/-! DEFINITION. The word types of the module's two serial lines. -/

namespace Sys2Proof

/-- One byte of a kiln bus frame, a service frame or a charge record encoding. -/
abbrev Byte := BitVec 8

/-- A 16-bit value that the manual treats as bits: the CRC register and the record check (R42, R91). -/
abbrev Word16 := BitVec 16

end Sys2Proof
end

