-- ==== Sys2Proof/Syntax.lean ====
section
/-! DEFINITION. The commands of the DS-8: one constructor of `Instr` per row of spec/opcode_table.json. -/

namespace Sys2Proof

/-- The role strap (R141). -/
inductive Role where
  | probe
  | zone
deriving DecidableEq, Repr

/-- The two sensors of the sensor converter (1.6). -/
inductive Sensor where
  | dryBulb
  | wetBulb
deriving DecidableEq, Repr

/-- A byte as the kiln bus receiver samples it (R38): its data bits, its parity bit and its stop bit.
A bit is `true` when the line was recessive (a 1). -/
structure LineByte where
  data : Byte
  parity : Bool
  stop : Bool
deriving DecidableEq, Repr

/-- The commands, in the table's order. Each stands for one event of the module, at the moment it falls. -/
inductive Instr where
  /-- POWER_ON (R18): the settings of the straps and the levels of the two inputs that power-on reads. -/
  | powerOn (station kiln : Nat) (role : Role) (emergency fan : Bool)
  /-- MEASUREMENT_WINDOW_END (R2): the grade of the source's resistance, before the converter saturates. -/
  | measurementWindowEnd (grade : Nat)
  | calibrationSweepComplete
  | probeSweepComplete
  | sweepIntervalExpiry
  | calibrationTimerExpiry
  /-- CONTROL_PERIOD (R14): the values at the dry-bulb and wet-bulb inputs. -/
  | controlPeriod (dryBulb wetBulb : Int)
  | holdTimerExpiry (sensor : Sensor)
  | deviationLimit
  | settleTimerExpiry
  /-- FRAME_DISCARDED (R43, R44): the run of bytes heard on the line. -/
  | frameDiscarded (run : List LineByte)
  /-- REPORT_RECEIVED (R63) and the eight rows after it: the run of bytes heard on the line. -/
  | reportReceived (run : List LineByte)
  | offerReceived (run : List LineByte)
  | safeFrameReceived (run : List LineByte)
  | startDirectiveReceived (run : List LineByte)
  | holdDirectiveReceived (run : List LineByte)
  | resumeDirectiveReceived (run : List LineByte)
  | skipDirectiveReceived (run : List LineByte)
  | abortDirectiveReceived (run : List LineByte)
  | resetSafeDirectiveReceived (run : List LineByte)
  | attemptBegin
  | attemptFail
  | attemptComplete
  | spacingTimerExpiry
  | quietGap
  | lineBlockedTimerExpiry
  | reportTimerExpiry
  /-- PEER_ENTRY_STALE (R64): the entry's station number, 1..32. -/
  | peerEntryStale (station : Nat)
  /-- PEER_ENTRY_EMPTIED (R64): the entry's station number, 1..32. -/
  | peerEntryEmptied (station : Nat)
  | reofferHoldoffExpiry
  | minuteTick
  | stepTimerExpiry
  | overtimeLimit
  | conditionTimerExpiry
  | gatherTimerExpiry
  | snapshotTimerExpiry
  | fanReversal
  | emergencyAssertion
  | emergencyRelease
  /-- LOAD_CHARGE (R95): the payload of the request. -/
  | loadCharge (payload : List Byte)
  | clearStaged
  /-- DIRECTIVE_START (R133) and the five rows after it: the charge number and the charge code. -/
  | directiveStart (charge code : Word16)
  | directiveHold (charge code : Word16)
  | directiveResume (charge code : Word16)
  /-- DIRECTIVE_SKIP (R133): also the target phase byte and the target step byte. -/
  | directiveSkip (charge code : Word16) (phase step : Byte)
  | directiveAbort (charge code : Word16)
  | directiveResetSafe (charge code : Word16)
  | calibrate
  | readPicture
  | readReadings
  /-- READ_PEER (R71): the station byte of the request. -/
  | readPeer (station : Byte)
  | readClimate
  | readState
  | readConditions
  /-- CLEAR_CONDITIONS (R164): the class set byte of the request. -/
  | clearConditions (classes : Byte)
  /-- SET_ATTENTION_MASK (R161): the class set byte of the request. -/
  | setAttentionMask (classes : Byte)
  | readTrace
  /-- UNKNOWN_REQUEST (R175): the kind byte of the malformed request. -/
  | unknownRequest (kind : Byte)
  | gapTimerExpiry
  | responseEnd
  /-- SERVICE_BYTE_RECEIVED (R172): the byte, and whether its stop bit was found. -/
  | serviceByteReceived (byte : Byte) (stopFound : Bool)
  | startBitSeen
deriving DecidableEq, Repr

end Sys2Proof
end

