-- ==== Sys2Proof/Machine/State.lean ====
section
/-! DEFINITION. The state of one DS-8 station as plain data, block by block, its faults and refusals, and the state
right after power-on. Timers that run on the clock are held in bit times (1/19,200 s) until they reach 0; 0 is stopped or
expired (log entry 4). -/

namespace Sys2Proof.Machine

/-! ## Straps and input levels -/

/-- The straps as read at power-on (R40, R141). -/
structure Straps where
  station : Nat
  kiln : Nat
  role : Role
deriving DecidableEq, Repr

/-- The levels of the two inputs the station watches (R115, R135). -/
structure Pins where
  emergency : Bool
  fan : Bool
deriving DecidableEq, Repr

/-! ## Probe front end (01) -/

/-- The sweep states (1.2). -/
inductive SweepState where
  | idleFe
  | calSweep
  | probeSweep
deriving DecidableEq, Repr

/-- The probe front end (TABLE 1-5). The sample store holds the samples of the sweep in the order taken (R2). -/
structure FrontEnd where
  sweep : SweepState
  calRequest : Bool
  samples : List Nat
  mLo : Nat
  mHi : Nat
  refFault : Bool
  windowTimer : Nat
  intervalTimer : Nat
  calTimer : Nat
deriving DecidableEq, Repr

/-! ## Sensor converter (01) -/

/-- The states of a sensor (1.6). -/
inductive SensorState where
  | awaiting
  | valid
  | holding
  | lost
deriving DecidableEq, Repr

/-- One sensor: its state, its last valid value and its hold timer (R15). -/
structure SensorChannel where
  state : SensorState
  lastValid : Option Int
  holdTimer : Nat
deriving DecidableEq, Repr

/-- The sensor converter: the control period timer and the two sensors (R14). -/
structure Sensors where
  controlTimer : Nat
  dry : SensorChannel
  wet : SensorChannel
deriving DecidableEq, Repr

/-! ## Own readings table (02) -/

/-- The flags of a reading (R20, TABLE 4-3). -/
structure ReadingFlags where
  openCircuit : Bool
  shortCircuit : Bool
  unsteady : Bool
  wetLimit : Bool
  dryLimit : Bool
  invalid : Bool
deriving DecidableEq, Repr

/-- A reading of the own readings table (TABLE 2-1). -/
structure Reading where
  channel : Nat
  mc : Option Nat
  grade : Int
  spread : Nat
  flags : ReadingFlags
  dryBulb : Option Int
deriving DecidableEq, Repr

/-! ## Position, mode, conditions -/

/-- The progress positions (TABLE 7-1). -/
inductive Position where
  | idle
  | gather
  | warmup
  | drying (step : Nat)
  | equalize
  | condition
  | cool
  | complete
deriving DecidableEq, Repr

/-- The modes (R107). -/
inductive Mode where
  | run
  | held
  | safe
deriving DecidableEq, Repr

/-- The cause of an entry (R108). -/
inductive Cause where
  | own
  | followed
  | directed
deriving DecidableEq, Repr

/-- The 22 conditions, in the order of TABLE 10-1. -/
inductive Condition where
  | safe
  | addressClash
  | wetBulbFault
  | climateDeviation
  | heatCutoff
  | referenceFault
  | temperatureFault
  | peerStale
  | rosterShort
  | unlistedStation
  | recordClash
  | offerClash
  | badOffer
  | frameDropped
  | lineBlocked
  | stepAdvanced
  | phaseEntered
  | stepOvertime
  | pictureShort
  | chargeMissing
  | codeMismatch
  | traceOverrun
deriving DecidableEq, Repr

/-- The six classes of conditions, from highest to lowest (TABLE 10-1, R163). -/
inductive CondClass where
  | fatal
  | climate
  | probe
  | peer
  | schedule
  | trace
deriving DecidableEq, Repr

/-! ## Charge records (06) -/

/-- A breakpoint of a species curve (R29, TABLE 6-1 field 28). -/
structure Breakpoint where
  grade : Nat
  mc : Nat
deriving DecidableEq, Repr

/-- The hold basis of a step (TABLE 6-2). -/
inductive HoldBasis where
  | minutes
  | reversals
deriving DecidableEq, Repr

/-- A step of the schedule (TABLE 6-2). -/
structure ScheduleStep where
  advanceMc : Nat
  dryBulb : Int
  depression : Nat
  basis : HoldBasis
  hold : Nat
  maximum : Nat
deriving DecidableEq, Repr

/-- A charge record: the fields of TABLE 6-1. Station s is bit s - 1 of the roster and place s - 1 of the masks;
channel c is bit c - 1 of a mask. The curve count and the step count are the lengths of the two lists. -/
structure ChargeRecord where
  chargeNumber : Nat
  chargeCode : Nat
  roster : BitVec 32
  quorum : Nat
  masks : Vector Byte 32
  tempCoeff : Nat
  sweepInterval : Nat
  traceInterval : Nat
  warmBand : Nat
  rampRate : Nat
  kp : Nat
  ki : Nat
  kv : Nat
  ks : Nat
  deadBand : Nat
  deviationBand : Nat
  deviationTime : Nat
  settleWindow : Nat
  safeVent : Nat
  finalTarget : Nat
  equalizeOffset : Nat
  equalizeDepression : Nat
  equalizeMaximum : Nat
  conditionDepression : Nat
  conditionTime : Nat
  coolEnd : Int
  curve : List Breakpoint
  steps : List ScheduleStep
deriving DecidableEq, Repr

/-- A record in a rank, with its check (R91, R94). -/
structure RankedRecord where
  record : ChargeRecord
  check : Word16
deriving DecidableEq, Repr

/-- The two ranks of the charge record store (R94). -/
inductive Rank where
  | staged
  | current
deriving DecidableEq, Repr

/-- The charge record store: the two ranks and the re-offer holdoff timer (R94, R100). -/
structure Store where
  staged : Option RankedRecord
  current : Option RankedRecord
  holdoff : Nat
deriving DecidableEq, Repr

/-! ## Kiln bus controller (03) -/

/-- The two levels of the kiln bus line (R37). -/
inductive Level where
  | dominant
  | recessive
deriving DecidableEq, Repr

/-- The frame kinds (TABLE 3-3). -/
inductive FrameKind where
  | safe
  | directive
  | offer
  | report
deriving DecidableEq, Repr

/-- The directives (TABLE 8-1). -/
inductive DirectiveKind where
  | start
  | hold
  | resume
  | skip
  | abort
  | resetSafe
deriving DecidableEq, Repr

/-- The directive a set DIRECTIVE slot holds, with its transmissions remaining and its failed attempts (R46, R52). -/
structure DirectiveSlot where
  kind : DirectiveKind
  charge : Word16
  code : Word16
  targetPhase : Byte
  targetStep : Byte
  remaining : Nat
  failed : Nat
deriving DecidableEq, Repr

/-- A set OFFER slot: the rank to offer and the failed attempts (R46). -/
structure OfferSlot where
  rank : Rank
  failed : Nat
deriving DecidableEq, Repr

/-- The four transmit slots (TABLE 3-4). A set SAFE or REPORT slot holds its failed-attempt count. -/
structure Slots where
  safe : Option Nat
  directive : Option DirectiveSlot
  spacing : Nat
  offer : Option OfferSlot
  report : Option Nat
deriving DecidableEq, Repr

/-- An attempt in progress: the slot's kind, the bytes it drives, which do not change while it runs (R48), and whether a bit
has read back otherwise than sent, so that the line is released for the rest of the byte (R49). -/
structure Attempt where
  kind : FrameKind
  bytes : List Byte
  released : Bool
deriving DecidableEq, Repr

/-- The kiln bus controller (TABLE 3-5). `byteBits` is the bit times left of the byte, or the own frame, on the line;
while it is above 0 the line-quiet count `quiet` stands (R39). `levels` are the levels sampled of the byte on the line after
its start bit (R38), `lastLevel` the level at the bit time before. `runBytes` are the bytes of the receive run so far, none
where the row that ends the run brings them (R43; log entry 9). `ownSent` is the frame of the own attempt that completed
last, until its run is judged (R44). -/
structure Bus where
  quiet : Nat
  byteBits : Nat
  levels : List Level
  lastLevel : Level
  runOpen : Bool
  runBytes : Option (List LineByte)
  ownSent : Option (List Byte)
  slots : Slots
  attempt : Option Attempt
  blockedTimer : Nat
  lineBlocked : Bool
  clash : Bool
deriving DecidableEq, Repr

/-! ## Peer table (04) -/

/-- A reading entry of a report (TABLE 4-2). -/
structure ReportedReading where
  channel : Nat
  mc : Option Nat
  flags : ReadingFlags
deriving DecidableEq, Repr

/-- What a report says: the header's charge number and the payload of TABLE 4-1. -/
structure ReportData where
  role : Role
  charge : Nat
  check : Word16
  position : Position
  mode : Mode
  basis : Nat
  controlling : Option Nat
  dryBulb : Option Int
  readings : List ReportedReading
deriving DecidableEq, Repr

/-- The states of an entry that is not EMPTY (R60). -/
inductive EntryState where
  | fresh
  | stale
deriving DecidableEq, Repr

/-- A peer table entry that is not EMPTY (TABLE 4-4). The age is in bit times (log entry 4). -/
structure HeldEntry where
  state : EntryState
  data : ReportData
  age : Nat
deriving DecidableEq, Repr

/-- The peer table: 32 entries, the entry of station n at place n - 1, `none` for EMPTY (R60), and the report timer (R56). -/
structure PeerTable where
  entries : Vector (Option HeldEntry) 32
  reportTimer : Nat
deriving DecidableEq, Repr

/-! ## Picture unit (05) -/

/-- A moisture value with the identity of its reading (R80). -/
structure Extreme where
  mc : Nat
  station : Nat
  channel : Nat
deriving DecidableEq, Repr

/-- The picture record (TABLE 5-1). -/
structure Picture where
  charge : Nat
  quorum : Nat
  basis : Nat
  sufficient : Bool
  wettest : Option Extreme
  driest : Option Extreme
  mean : Option Nat
  controlling : Option Nat
  wetCount : Option Nat
  dryCount : Option Nat
deriving DecidableEq, Repr

/-! ## Schedule controller (07, 08) -/

/-- The safe origin: the station and the cause byte of the event that brought the station into SAFE (R136). -/
structure SafeOrigin where
  station : Nat
  cause : Byte
deriving DecidableEq, Repr

/-- The schedule controller (TABLE 7-3). The step, overtime and condition timers are in their own units, the gather
timer and the minute tick in bit times. -/
structure Schedule where
  position : Position
  mode : Mode
  stepTimer : Nat
  overtime : Nat
  conditionTimer : Nat
  gatherTimer : Nat
  gatherArmed : Bool
  minute : Nat
  minuteTimer : Nat
  safeOrigin : Option SafeOrigin
deriving DecidableEq, Repr

/-! ## Climate controller (09) -/

/-- The output regimes (R146). -/
inductive Regime where
  | off
  | loops
  | cooling
  | safe
deriving DecidableEq, Repr

/-- The climate controller (TABLE 9-1). The settle timer is in bit times. -/
structure Climate where
  targetDry : Option Int
  targetDep : Option Nat
  spActive : Option Int
  activeDep : Option Nat
  regime : Regime
  integral : Int
  heat : Nat
  vent : Nat
  spray : Nat
  settleTimer : Nat
  deviation : Nat
deriving DecidableEq, Repr

/-! ## Attention unit (10) -/

/-- The attention unit: the stamp of each latched condition (condition n of TABLE 10-1 at place n - 1), the class
enable mask (FATAL is bit 0), the attention output and the attention level (R158, R161, R162, R163). -/
structure Attention where
  stamps : Vector (Option Nat) 22
  mask : BitVec 6
  output : Bool
  level : Option CondClass
deriving DecidableEq, Repr

/-! ## Trace ring (11) -/

/-- The kinds of trace record with the kind's own field (TABLE 11-2). -/
inductive TraceKind where
  | snapshot
  | step (cause : Cause)
  | phase (cause : Cause)
  | mode
  | condition (condition : Condition)
  | calibration (success : Bool) (mLo mHi : Nat)
  | abort
deriving DecidableEq, Repr

/-- A trace record (TABLE 11-1). -/
structure TraceRecord where
  kind : TraceKind
  minute : Nat
  position : Position
  mode : Mode
  basis : Nat
  controlling : Option Nat
  wettest : Option Extreme
  driest : Option Nat
  dryBulb : Option Int
  wetBulb : Option Int
deriving DecidableEq, Repr

/-- The trace ring, oldest record first, and the snapshot timer in minutes (R167, R170). -/
structure Trace where
  records : List TraceRecord
  snapshotTimer : Nat
deriving DecidableEq, Repr

/-! ## Service port (12) -/

/-- The service receiver (R172): in ASSEMBLING, the bytes taken after the start byte and whether one had a framing error. -/
inductive RxState where
  | hunt
  | assembling (bytes : List Byte) (error : Bool)
deriving DecidableEq, Repr

/-- A response being sent: its frame and the bit times left of it (R174). -/
structure Response where
  bytes : List Byte
  bitsLeft : Nat
deriving DecidableEq, Repr

/-- The service port (R179). `rxBits` are the bits sampled of the byte on the receive wire after its start bit, none between
bytes, and `rxLast` the bit at the bit time before (R172). -/
structure Port where
  rx : RxState
  gapTimer : Nat
  rxBits : Option (List Bool)
  rxLast : Bool
  sending : Option Response
  busy : List Byte
deriving DecidableEq, Repr

/-! ## The wires from outside -/

/-- What the outside world puts on the two serial lines at the coming bit times of the station's clock, nearest first: the
levels the other stations drive on the kiln bus, and the bits on the service port's receive wire. Past its end a list reads
as the idle line: recessive, and 1. The model's own field (log entry 28). -/
structure Wires where
  kiln : List Level
  service : List Bool
deriving DecidableEq, Repr

/-! ## The state -/

/-- The whole state of one station. `pending` is the queue of waiting commands, `wires` what the serial lines bring at the
coming bit times, and `freeIndex` the index of the next free value; the three are the model's own. -/
structure State where
  pending : List Instr
  wires : Wires
  straps : Straps
  pins : Pins
  frontEnd : FrontEnd
  sensors : Sensors
  readings : List Reading
  bus : Bus
  peers : PeerTable
  picture : Option Picture
  store : Store
  schedule : Schedule
  climate : Climate
  attention : Attention
  trace : Trace
  port : Port
  freeIndex : Nat
deriving DecidableEq, Repr

/-- The spec stops the module nowhere: no event of the manual is a fault of the machine. -/
inductive Fault where
deriving DecidableEq, Repr

/-- Why a command has no meaning. -/
inductive Refusal where
  /-- Raised by `exec` for a command without a meaning; no command of this model is left without one. Safe. -/
  | notModelled (mnemonic : String)
  /-- Raised by POWER_ON for a strap setting that the straps do not have (R40). Safe: no station has it. -/
  | noSuchSetting
  /-- Raised by PEER_ENTRY_STALE and PEER_ENTRY_EMPTIED for a station number without an entry (R60). Safe: no entry ages. -/
  | noSuchEntry
deriving DecidableEq, Repr

/-- The machine right after power-on (TABLE 1-5, TABLE 3-5, TABLE 7-3, TABLE 9-1, R18, R21, R56, R60, R74, R94, R135,
R158, R161 to R163, R167, R170, R179), with the straps and input levels of log entries 1 and 2: the power-on calibration
sweep has just started, as R18 lays down. -/
def State.reset : State where
  pending := []
  wires := { kiln := [], service := [] }
  straps := { station := 1, kiln := 0, role := .probe }
  pins := { emergency := false, fan := false }
  frontEnd :=
    { sweep := .calSweep, calRequest := false, samples := [], mLo := 700, mHi := 1000, refFault := false,
      windowTimer := 9600, intervalTimer := 0, calTimer := 0 }
  sensors :=
    { controlTimer := 4 * 19200
      dry := { state := .awaiting, lastValid := none, holdTimer := 0 }
      wet := { state := .awaiting, lastValid := none, holdTimer := 0 } }
  readings := []
  bus :=
    { quiet := 0, byteBits := 0, levels := [], lastLevel := .recessive, runOpen := false, runBytes := some []
      ownSent := none
      slots := { safe := none, directive := none, spacing := 0, offer := none, report := none }
      attempt := none, blockedTimer := 0, lineBlocked := false, clash := false }
  peers := { entries := Vector.replicate 32 none, reportTimer := 10 * 19200 }
  picture := none
  store := { staged := none, current := none, holdoff := 0 }
  schedule :=
    { position := .idle, mode := .run, stepTimer := 0, overtime := 0, conditionTimer := 0, gatherTimer := 0
      gatherArmed := false, minute := 0, minuteTimer := 60 * 19200, safeOrigin := none }
  climate :=
    { targetDry := none, targetDep := none, spActive := none, activeDep := none, regime := .off, integral := 0
      heat := 0, vent := 0, spray := 0, settleTimer := 0, deviation := 0 }
  attention := { stamps := Vector.replicate 22 none, mask := BitVec.allOnes 6, output := false, level := none }
  trace := { records := [], snapshotTimer := 0 }
  port := { rx := .hunt, gapTimer := 0, rxBits := none, rxLast := true, sending := none, busy := [] }
  freeIndex := 0

/-! ## One setter per block -/

/-- The state with another `pending`. -/
def State.setPending (s : State) (v : List Instr) : State := { s with pending := v }

/-- The state with another `wires`. -/
def State.setWires (s : State) (v : Wires) : State := { s with wires := v }

/-- The state with another `straps`. -/
def State.setStraps (s : State) (v : Straps) : State := { s with straps := v }

/-- The state with another `pins`. -/
def State.setPins (s : State) (v : Pins) : State := { s with pins := v }

/-- The state with another `frontEnd`. -/
def State.setFrontEnd (s : State) (v : FrontEnd) : State := { s with frontEnd := v }

/-- The state with another `sensors`. -/
def State.setSensors (s : State) (v : Sensors) : State := { s with sensors := v }

/-- The state with another `readings`. -/
def State.setReadings (s : State) (v : List Reading) : State := { s with readings := v }

/-- The state with another `bus`. -/
def State.setBus (s : State) (v : Bus) : State := { s with bus := v }

/-- The state with another `peers`. -/
def State.setPeers (s : State) (v : PeerTable) : State := { s with peers := v }

/-- The state with another `picture`. -/
def State.setPicture (s : State) (v : Option Picture) : State := { s with picture := v }

/-- The state with another `store`. -/
def State.setStore (s : State) (v : Store) : State := { s with store := v }

/-- The state with another `schedule`. -/
def State.setSchedule (s : State) (v : Schedule) : State := { s with schedule := v }

/-- The state with another `climate`. -/
def State.setClimate (s : State) (v : Climate) : State := { s with climate := v }

/-- The state with another `attention`. -/
def State.setAttention (s : State) (v : Attention) : State := { s with attention := v }

/-- The state with another `trace`. -/
def State.setTrace (s : State) (v : Trace) : State := { s with trace := v }

/-- The state with another `port`. -/
def State.setPort (s : State) (v : Port) : State := { s with port := v }

/-- The state with another `freeIndex`. -/
def State.setFreeIndex (s : State) (v : Nat) : State := { s with freeIndex := v }

end Sys2Proof.Machine
end

