-- ==== Sys2Proof/Machine/Ops.lean ====
section
/-! DEFINITION. The shared operations: rounding, time, the sensors' available values, writing a trace record and
latching a condition. -/

namespace Sys2Proof.Machine

/-! ## Rounding (0.7.2) -/

/-- a/b rounded half up, for quotients that cannot be negative. -/
def halfUp (a b : Nat) : Nat := (2 * a + b) / (2 * b)

/-- a/b rounded half away from zero, for quotients that may be negative. -/
def halfAway (a b : Int) : Int :=
  if decide (a < 0) = decide (b < 0) then (halfUp a.natAbs b.natAbs : Int) else -(halfUp a.natAbs b.natAbs : Int)

/-- A value clamped to lo..hi. -/
def clampInt (lo hi x : Int) : Int := max lo (min hi x)

/-- A demand of 0..1000 per mille. -/
def clampDemand (x : Int) : Nat := (clampInt 0 1000 x).toNat

/-! ## Time (0.7.1) -/

/-- Bit times in a number of seconds: one bit time is 1/19,200 s (R37, R172). -/
def seconds (n : Nat) : Nat := n * 19200

/-- The 500 ms of a measurement window and of the DIRECTIVE spacing (R2, R52), in bit times. -/
def halfSecond : Nat := 9600

/-- The 100 ms of the service port's gap timer (R172), in bit times. -/
def gapTime : Nat := 1920

/-- The seconds a running timer shows: it counts down in seconds, so a part of a second left counts whole (log entry 4). -/
def secondsLeft (t : Nat) : Nat := (t + 19199) / 19200

/-- The whole seconds of an age, rounded down (R64). -/
def secondsPassed (t : Nat) : Nat := t / 19200

/-! ## Sensors (1.6) -/

/-- The available value of a sensor: its last valid value in VALID and HOLDING, none in AWAITING and LOST. -/
def SensorChannel.available (c : SensorChannel) : Option Int :=
  match c.state with
  | .valid | .holding => c.lastValid
  | .awaiting | .lost => none

/-- The available dry-bulb temperature. -/
def State.dryBulb (s : State) : Option Int := s.sensors.dry.available

/-- The available wet-bulb temperature: absent on a PROBE station (R14, TABLE 11-1). -/
def State.wetBulb (s : State) : Option Int :=
  match s.straps.role with
  | .zone => s.sensors.wet.available
  | .probe => none

/-- The record in the current rank (R94). -/
def State.currentRecord (s : State) : Option ChargeRecord := s.store.current.map (·.record)

/-- The charge number of the current record, or 0 with the current rank empty (TABLE 3-3, R57). -/
def State.currentNumber (s : State) : Nat := (s.currentRecord.map (·.chargeNumber)).getD 0

/-- The check of the current record, or 0 with the current rank empty (R57). -/
def State.currentCheck (s : State) : Word16 := (s.store.current.map (·.check)).getD 0

/-- The basis of the standing picture, 0 in the "no picture yet" state (R74). -/
def State.pictureBasis (s : State) : Nat := (s.picture.map (·.basis)).getD 0

/-! ## Conditions (10.1) -/

/-- The place of a condition in TABLE 10-1, from 0; the service port's number is one more (R177). -/
def Condition.index : Condition → Fin 22
  | .safe => 0
  | .addressClash => 1
  | .wetBulbFault => 2
  | .climateDeviation => 3
  | .heatCutoff => 4
  | .referenceFault => 5
  | .temperatureFault => 6
  | .peerStale => 7
  | .rosterShort => 8
  | .unlistedStation => 9
  | .recordClash => 10
  | .offerClash => 11
  | .badOffer => 12
  | .frameDropped => 13
  | .lineBlocked => 14
  | .stepAdvanced => 15
  | .phaseEntered => 16
  | .stepOvertime => 17
  | .pictureShort => 18
  | .chargeMissing => 19
  | .codeMismatch => 20
  | .traceOverrun => 21

/-- All conditions in the order of TABLE 10-1. -/
def Condition.all : List Condition :=
  [.safe, .addressClash, .wetBulbFault, .climateDeviation, .heatCutoff, .referenceFault, .temperatureFault,
   .peerStale, .rosterShort, .unlistedStation, .recordClash, .offerClash, .badOffer, .frameDropped, .lineBlocked,
   .stepAdvanced, .phaseEntered, .stepOvertime, .pictureShort, .chargeMissing, .codeMismatch, .traceOverrun]

/-- The class of a condition (TABLE 10-1). -/
def Condition.cls : Condition → CondClass
  | .safe | .addressClash => .fatal
  | .wetBulbFault | .climateDeviation | .heatCutoff => .climate
  | .referenceFault | .temperatureFault => .probe
  | .peerStale | .rosterShort | .unlistedStation | .recordClash | .offerClash | .badOffer | .frameDropped
  | .lineBlocked => .peer
  | .stepAdvanced | .phaseEntered | .stepOvertime | .pictureShort | .chargeMissing | .codeMismatch => .schedule
  | .traceOverrun => .trace

/-- The bit of a class in a class set (R175). -/
def CondClass.bit : CondClass → Nat
  | .fatal => 0
  | .climate => 1
  | .probe => 2
  | .peer => 3
  | .schedule => 4
  | .trace => 5

/-- All classes, from highest to lowest (R163). -/
def CondClass.all : List CondClass := [.fatal, .climate, .probe, .peer, .schedule, .trace]

/-- The latch stamp of a condition, none when the condition is clear (R158). -/
def Attention.stamp (a : Attention) (c : Condition) : Option Nat := a.stamps[c.index]

/-- Whether a condition is latched. -/
def Attention.latched (a : Attention) (c : Condition) : Bool := (a.stamp c).isSome

/-- Whether a class is enabled: FATAL always is (R161). -/
def Attention.enabled (a : Attention) (k : CondClass) : Bool := k == .fatal || a.mask.getLsbD k.bit

/-- The attention output of R162: asserted exactly when a latched condition belongs to FATAL or to an enabled class. -/
def Attention.outputOf (a : Attention) : Bool := Condition.all.any fun c => a.latched c && a.enabled c.cls

/-- The attention level of R163: the highest class that holds a latched condition. -/
def Attention.levelOf (a : Attention) : Option CondClass :=
  CondClass.all.find? fun k => Condition.all.any fun c => a.latched c && c.cls == k

/-- The output and the level judged again (R162, R163). -/
def Attention.judged (a : Attention) : Attention := { a with output := a.outputOf, level := a.levelOf }

/-- A condition set to latched with a stamp, or to clear. -/
def Attention.setStamp (a : Attention) (c : Condition) (t : Option Nat) : Attention :=
  { a with stamps := a.stamps.set c.index t }

/-- A latching at the attention unit (R158): a clear condition takes the charge minute as its stamp and the output and
level are judged again; a latched one is left as it is. -/
def Attention.latch (a : Attention) (c : Condition) (minute : Nat) : Attention :=
  if a.latched c then a else (a.setStamp c (some minute)).judged

/-! ## Writing a trace record (11.1, 11.2) -/

/-- The trace record of a kind with every field as the blocks stand (R168). -/
def State.traceRecord (s : State) (k : TraceKind) : TraceRecord where
  kind := k
  minute := s.schedule.minute
  position := s.schedule.position
  mode := s.schedule.mode
  basis := s.pictureBasis
  controlling := s.picture.bind (·.controlling)
  wettest := s.picture.bind (·.wettest)
  driest := s.picture.bind fun p => p.driest.map (·.mc)
  dryBulb := s.dryBulb
  wetBulb := s.wetBulb

/-- The largest number of records the ring holds (R167). -/
def ringSize : Nat := 512

/-- One record write (R167): a full ring discards its oldest record and TRACE OVERRUN is latched, without a record. Its stamp
is the charge minute of this write, the one the record carries (log entry 30 for the ABORT record). -/
def writeRecord (r : TraceRecord) (s : State) : State :=
  if s.trace.records.length < ringSize then
    s.setTrace { s.trace with records := s.trace.records ++ [r] }
  else
    (s.setTrace { s.trace with records := s.trace.records.tail ++ [r] }).setAttention
      (s.attention.latch .traceOverrun r.minute)

/-- A record of a kind written from the blocks as they stand (R168). -/
def writeTrace (k : TraceKind) (s : State) : State := writeRecord (s.traceRecord k) s

/-! ## Latching a condition (10.1) -/

/-- A latching event (R158, R159): the attention unit takes it, and a condition that was clear writes its CONDITION record;
TRACE OVERRUN writes none. -/
def latch (c : Condition) (s : State) : State :=
  if s.attention.latched c then s
  else
    let s' := s.setAttention (s.attention.latch c s.schedule.minute)
    if c = .traceOverrun then s' else writeTrace (.condition c) s'

/-- The conditions that one event latches, taken in the order of TABLE 10-1 whatever order they are given in (R159). -/
def latchAll (cs : List Condition) (s : State) : State :=
  (Condition.all.filter (· ∈ cs)).foldl (fun s c => latch c s) s

end Sys2Proof.Machine
end

