-- ==== Sys2Proof/Machine/Flags.lean ====
section
/-! DEFINITION. The flag sets: the flags of a reading (TABLE 4-3) and the class sets of the service port (12.2). -/

namespace Sys2Proof.Machine

/-- No flag set. -/
def ReadingFlags.none : ReadingFlags := ⟨false, false, false, false, false, false⟩

/-- The flag byte: OPEN is bit 0, INVALID bit 5, bits 6 and 7 are 0 (TABLE 4-3). -/
def ReadingFlags.toByte (f : ReadingFlags) : Byte :=
  BitVec.ofNat 8
    (f.openCircuit.toNat + 2 * f.shortCircuit.toNat + 4 * f.unsteady.toNat + 8 * f.wetLimit.toNat
      + 16 * f.dryLimit.toNat + 32 * f.invalid.toNat)

/-- The flags of a flag byte (TABLE 4-3). -/
def ReadingFlags.ofByte (b : Byte) : ReadingFlags where
  openCircuit := b.getLsbD 0
  shortCircuit := b.getLsbD 1
  unsteady := b.getLsbD 2
  wetLimit := b.getLsbD 3
  dryLimit := b.getLsbD 4
  invalid := b.getLsbD 5

/-- Whether the flags deny the reading a moisture value: OPEN, SHORT or INVALID (R28). -/
def ReadingFlags.noValue (f : ReadingFlags) : Bool := f.openCircuit || f.shortCircuit || f.invalid

/-- The flags of stage 3 (R25, R26, R27), with no limit flag. -/
def classify (grade : Int) (spread : Nat) (invalid : Bool) : ReadingFlags where
  openCircuit := decide (grade > 1300)
  shortCircuit := decide (grade < 400)
  unsteady := decide (spread > 16)
  wetLimit := false
  dryLimit := false
  invalid := invalid

/-- Whether a class set byte has bits 6 and 7 clear, the port check of TABLE 12-3. -/
def classSetValid (b : Byte) : Bool := !b.getLsbD 6 && !b.getLsbD 7

/-- Whether a class set byte names a class (12.2). -/
def classSetHas (b : Byte) (k : CondClass) : Bool := b.getLsbD k.bit

/-- The mask that a SET ATTENTION MASK leaves: the five maskable enables carried, FATAL enabled (R161). -/
def maskOf (b : Byte) : BitVec 6 := b.setWidth 6 ||| 1#6

end Sys2Proof.Machine
end

