-- ==== Sys2Proof/Machine/Operands.lean ====
section
/-! DEFINITION. The operand forms: multi-byte fields, the CRC, the bytes of the bus line, the bus frame, and the codes of
TABLE 4-3 and TABLE 8-1. -/

namespace Sys2Proof.Machine

/-! ## Multi-byte fields (0.7.3) -/

/-- A one-byte field. -/
def byteOf (n : Nat) : Byte := BitVec.ofNat 8 n

/-- A two-byte field, upper byte first. -/
def be16 (n : Nat) : List Byte := [byteOf (n / 256), byteOf n]

/-- A signed two-byte field in two's complement, upper byte first. -/
def beS16 (x : Int) : List Byte := be16 (BitVec.ofInt 16 x).toNat

/-- The byte at a place of a byte string, as a number; 0 past its end. -/
def u8 (bs : List Byte) (i : Nat) : Nat := (bs.getD i 0).toNat

/-- The two-byte field at a place of a byte string. -/
def u16 (bs : List Byte) (i : Nat) : Nat := u8 bs i * 256 + u8 bs (i + 1)

/-- The signed two-byte field at a place of a byte string. -/
def s16 (bs : List Byte) (i : Nat) : Int := (BitVec.ofNat 16 (u16 bs i)).toInt

/-- An optional moisture value or count: 0xFFFF when absent (TABLE 4-1, R177). -/
def optMoisture (x : Option Nat) : List Byte := be16 (x.getD 0xFFFF)

/-- An optional temperature: 0x8000 when absent (TABLE 4-1, R177). -/
def optTemp (x : Option Int) : List Byte :=
  match x with
  | some t => beS16 t
  | none => be16 0x8000

/-! ## The CRC (R42) -/

/-- One shift of the CRC register toward its upper end. -/
def crcShift (r : Word16) : Word16 := if r.msb then (r <<< 1) ^^^ 0x1021#16 else r <<< 1

/-- One byte taken into the CRC register: combined into the upper eight bits, then eight shifts. -/
def crcByte (r : Word16) (b : Byte) : Word16 :=
  crcShift (crcShift (crcShift (crcShift (crcShift (crcShift (crcShift (crcShift (r ^^^ (b.setWidth 16 <<< 8)))))))))

/-- The CRC of a byte string: the register starts at 0xFFFF. -/
def crc (bs : List Byte) : Word16 := bs.foldl crcByte 0xFFFF#16

/-! ## Bytes on the kiln bus line (R38) -/

/-- The number of 1 bits of a byte. -/
def onesOf (b : Byte) : Nat := ((List.range 8).filter fun i => b.getLsbD i).length

/-- A byte as a station sends it: odd parity over the data bits, stop bit recessive. -/
def lineByte (b : Byte) : LineByte := { data := b, parity := decide (onesOf b % 2 = 0), stop := true }

/-- The byte error of R38: the parity bit does not make the count odd, or the stop bit is dominant. -/
def byteError (b : LineByte) : Bool := decide ((onesOf b.data + b.parity.toNat) % 2 = 0) || !b.stop

/-! ## The bus frame (R41) -/

/-- The kind codes of TABLE 3-3. -/
def FrameKind.code : FrameKind → Byte
  | .safe => 0x1E
  | .directive => 0x2D
  | .offer => 0x3C
  | .report => 0x4B

/-- The kind of a kind code, none for a code that TABLE 3-3 does not have. -/
def FrameKind.ofCode (b : Byte) : Option FrameKind :=
  [FrameKind.safe, .directive, .offer, .report].find? fun k => k.code == b

/-- What a well-formed frame carries (TABLE 3-2). -/
structure Frame where
  kind : Byte
  kiln : Nat
  station : Nat
  charge : Nat
  payload : List Byte
deriving DecidableEq, Repr

/-- The bytes the CRC covers: bytes 1 to 6 + L (R42). -/
def frameBody (f : Frame) : List Byte :=
  [f.kind, byteOf f.kiln, byteOf f.station] ++ be16 f.charge ++ [byteOf f.payload.length] ++ f.payload

/-- The bytes of a frame as sent (TABLE 3-2). -/
def frameBytes (f : Frame) : List Byte := 0xA5#8 :: frameBody f ++ be16 (crc (frameBody f)).toNat

/-- The receiver's judgement of a run that has ended (R43): the well-formed frame, or none for a discarded run. -/
def judgeRun (run : List LineByte) : Option Frame :=
  let bs := run.map (·.data)
  let len := u8 bs 6
  if run.any byteError then none
  else if bs.getD 0 0 ≠ 0xA5 then none
  else if bs.length < 7 ∨ u8 bs 2 > 15 ∨ u8 bs 3 = 0 ∨ u8 bs 3 > 32 ∨ len > 250 then none
  else if bs.length ≠ 9 + len then none
  else if (crc ((bs.drop 1).take (6 + len))).toNat ≠ u16 bs (7 + len) then none
  else some
    { kind := bs.getD 1 0, kiln := u8 bs 2, station := u8 bs 3, charge := u16 bs 4
      payload := (bs.drop 7).take len }

/-! ## Codes (TABLE 4-3, TABLE 8-1) -/

/-- The role code. -/
def roleCode : Role → Nat
  | .probe => 1
  | .zone => 2

/-- The role of a role code. -/
def roleOf (n : Nat) : Option Role :=
  if n = 1 then some .probe else if n = 2 then some .zone else none

/-- The phase code of a position. -/
def phaseCode : Position → Nat
  | .idle => 0
  | .gather => 1
  | .warmup => 2
  | .drying _ => 3
  | .equalize => 4
  | .condition => 5
  | .cool => 6
  | .complete => 7

/-- The step of a position: 0 outside DRYING. -/
def stepCode : Position → Nat
  | .drying k => k
  | _ => 0

/-- The position of a phase code and a step that agree: a step of 0 outside DRYING. In DRYING any step is taken here; its
range is the user's check (R61, R131). -/
def positionOf (phase step : Nat) : Option Position :=
  if phase = 3 then some (.drying step)
  else if step ≠ 0 then none
  else
    match phase with
    | 0 => some .idle
    | 1 => some .gather
    | 2 => some .warmup
    | 4 => some .equalize
    | 5 => some .condition
    | 6 => some .cool
    | 7 => some .complete
    | _ => none

/-- The mode code. -/
def modeCode : Mode → Nat
  | .run => 0
  | .held => 1
  | .safe => 2

/-- The mode of a mode code. -/
def modeOf (n : Nat) : Option Mode :=
  if n = 0 then some .run else if n = 1 then some .held else if n = 2 then some .safe else none

/-- The directive code (TABLE 8-1). -/
def DirectiveKind.code : DirectiveKind → Nat
  | .start => 1
  | .hold => 2
  | .resume => 3
  | .skip => 4
  | .abort => 5
  | .resetSafe => 6

/-- The directive of a directive code. -/
def directiveOf (n : Nat) : Option DirectiveKind :=
  match n with
  | 1 => some .start
  | 2 => some .hold
  | 3 => some .resume
  | 4 => some .skip
  | 5 => some .abort
  | 6 => some .resetSafe
  | _ => none

end Sys2Proof.Machine
end

