-- ==== Sys2Proof/Machine/Line.lean ====
section
/-! DEFINITION. The levels of the two serial lines, bit time by bit time: a byte as it is sent, a byte as it is sampled
(R37, R38, R172). -/

namespace Sys2Proof.Machine

/-! ## Bits and levels -/

/-- The level a bit is sent as: 0 dominant, 1 recessive (R37). -/
def Level.ofBit (b : Bool) : Level := if b then .recessive else .dominant

/-- The bit a level stands for (R37). -/
def Level.bit : Level → Bool
  | .dominant => false
  | .recessive => true

/-- The level of the line when two stations, or the station and all the others, drive it: dominant when either drives it
dominant (R37). -/
def Level.wired : Level → Level → Level
  | .dominant, _ => .dominant
  | .recessive, l => l

/-- The eight bits of a byte, least significant first (TABLE 3-1, R172). -/
def bitsOf (b : Byte) : List Bool := (List.range 8).map b.getLsbD

/-- The byte of eight bits, least significant first. -/
def byteOfBits (bits : List Bool) : Byte := byteOf (bits.foldr (fun b n => b.toNat + 2 * n) 0)

/-! ## Bytes on the kiln bus (R38) -/

/-- The levels of a byte as a station sends it, in the order of TABLE 3-1: start bit, data bits, parity, stop bit. -/
def byteLevels (b : Byte) : List Level :=
  .dominant :: (bitsOf b ++ [(lineByte b).parity, (lineByte b).stop]).map Level.ofBit

/-- The levels of a frame: its bytes back to back. -/
def frameLevels (bytes : List Byte) : List Level := bytes.flatMap byteLevels

/-- The byte of the ten levels sampled after a start bit. -/
def sampledByte (levels : List Level) : LineByte where
  data := byteOfBits ((levels.take 8).map Level.bit)
  parity := (levels.getD 8 .recessive).bit
  stop := (levels.getD 9 .recessive).bit

/-- The bit times of a byte on the kiln bus. -/
def byteTime : Nat := 11

/-- The bit times of a frame on the kiln bus (R41). -/
def busBits (bytes : List Byte) : Nat := byteTime * bytes.length

/-! ## Bytes on the service port (R172) -/

/-- The bits of a byte on the service port: a start bit, the data bits, and a stop bit (log entry 29). -/
def serviceByteBits (b : Byte) : List Bool := false :: bitsOf b ++ [true]

/-- The bits of a frame on the service port: its bytes back to back (R173). -/
def serviceFrameBits (bytes : List Byte) : List Bool := bytes.flatMap serviceByteBits

/-- The bit times of a frame on the service port: 10 to the byte (R172, R173). -/
def serviceBits (bytes : List Byte) : Nat := 10 * bytes.length

end Sys2Proof.Machine
end

