-- ==== Sys2Proof/Machine/Bus.lean ====
section
/-! DEFINITION. The kiln bus controller's slots and latches (chapter 3): settings, eligibility, the required quiet time,
the line-blocked timer's rule and the address clash. -/

namespace Sys2Proof.Machine

/-- The class bases of TABLE 3-3, in bit times. -/
def FrameKind.classBase : FrameKind → Nat
  | .safe => 0
  | .directive => 70
  | .offer => 140
  | .report => 210

/-- The attempt limits of TABLE 3-3. -/
def FrameKind.attemptLimit : FrameKind → Nat
  | .safe => 32
  | .directive | .offer | .report => 8

/-- The four frame kinds. -/
def FrameKind.all : List FrameKind := [.safe, .directive, .offer, .report]

/-- All four slots empty, the spacing timer stopped (TABLE 3-5, R45). -/
def Slots.empty : Slots := { safe := none, directive := none, spacing := 0, offer := none, report := none }

/-- The failed-attempt count of a set slot, none for an empty one. -/
def Slots.failedOf (sl : Slots) : FrameKind → Option Nat
  | .safe => sl.safe
  | .directive => sl.directive.map (·.failed)
  | .offer => sl.offer.map (·.failed)
  | .report => sl.report

/-- Whether a slot is eligible for the line: set and, for the DIRECTIVE slot, its spacing timer at 0 (R46). -/
def Slots.eligible (sl : Slots) : FrameKind → Bool
  | .directive => sl.directive.isSome && sl.spacing == 0
  | k => (sl.failedOf k).isSome

/-- Whether at least one slot is eligible (R54). -/
def Slots.anyEligible (sl : Slots) : Bool := FrameKind.all.any sl.eligible

/-- The 2 s of the line-blocked timer (R54). -/
def blockedTime : Nat := seconds 2

/-- A change of the slots, with the line-blocked timer's rule (R54): loaded when a slot becomes eligible while none was,
stopped when none is. -/
def Bus.withSlots (b : Bus) (sl : Slots) : Bus :=
  { b with
    slots := sl
    blockedTimer :=
      if !sl.anyEligible then 0 else if b.slots.anyEligible then b.blockedTimer else blockedTime }

/-- A setting of the SAFE slot (R46); discarded while the address-clash latch is set (R45). -/
def Bus.setSafeSlot (b : Bus) : Bus :=
  if b.clash || b.slots.safe.isSome then b else b.withSlots { b.slots with safe := some 0 }

/-- A setting of the REPORT slot (R46); discarded while the address-clash latch is set (R45). -/
def Bus.setReportSlot (b : Bus) : Bus :=
  if b.clash || b.slots.report.isSome then b else b.withSlots { b.slots with report := some 0 }

/-- What a setting of the OFFER slot that names a rank leaves in it (R46). -/
def offerSetting (slot : Option OfferSlot) (rank : Rank) : Option OfferSlot :=
  match slot, rank with
  | some ⟨.current, _⟩, .staged => some { rank := .staged, failed := 0 }
  | some o, _ => some o
  | none, r => some { rank := r, failed := 0 }

/-- A setting of the OFFER slot (R46); discarded while the address-clash latch is set (R45). -/
def Bus.setOfferSlot (b : Bus) (rank : Rank) : Bus :=
  if b.clash then b else b.withSlots { b.slots with offer := offerSetting b.slots.offer rank }

/-- A setting of an empty DIRECTIVE slot (R46, R52); discarded while the address-clash latch is set (R45), and a set slot
keeps its directive. -/
def Bus.setDirectiveSlot (b : Bus) (d : DirectiveSlot) : Bus :=
  if b.clash || b.slots.directive.isSome then b else b.withSlots { b.slots with directive := some d }

/-- An OFFER slot that names a rank is emptied; its count goes with it (R96, R97). -/
def Bus.emptyOffer (b : Bus) (rank : Rank) : Bus :=
  match b.slots.offer with
  | some o => if o.rank = rank then b.withSlots { b.slots with offer := none } else b
  | none => b

/-- At promotion an OFFER slot that names the staged rank is turned to name the current rank, its count unchanged (R97). -/
def Bus.turnOffer (b : Bus) : Bus :=
  { b with slots := { b.slots with offer := b.slots.offer.map fun o => { o with rank := .current } } }

/-- The address-clash latch set (R45): the slots emptied, the line-blocked timer stopped, the line not driven. -/
def Bus.clashed (b : Bus) : Bus :=
  { b with clash := true, slots := Slots.empty, attempt := none, blockedTimer := 0 }

/-- The required quiet time of a slot with a failed-attempt count (R47). -/
def requiredQuiet (station : Nat) (k : FrameKind) (failed : Nat) : Nat :=
  40 + k.classBase + 2 * station + 8 * failed

/-- The required quiet time of an eligible slot. -/
def Slots.quietOf (sl : Slots) (station : Nat) (k : FrameKind) : Option Nat :=
  if sl.eligible k then (sl.failedOf k).map (requiredQuiet station k) else none

/-- Of two slots with their required quiet times, the one of the smaller. -/
def earlier (a b : Option (FrameKind × Nat)) : Option (FrameKind × Nat) :=
  match a, b with
  | some x, some y => if y.2 < x.2 then some y else some x
  | some x, none => some x
  | none, y => y

/-- The eligible slot of the smallest required quiet time, with that time (R47). -/
def Slots.next (sl : Slots) (station : Nat) : Option (FrameKind × Nat) :=
  FrameKind.all.foldl (fun best k => earlier best ((sl.quietOf station k).map fun q => (k, q))) none

/-! ## The line (R37 to R39, R49) -/

/-- The level the station drives in an attempt with bit times left: the bit of its frame whose turn it is, and nothing once it
has released the line (R37, R48, R49). -/
def Attempt.drives (a : Attempt) (bitsLeft : Nat) : Level :=
  if a.released then .recessive else (frameLevels a.bytes).getD (busBits a.bytes - bitsLeft) .recessive

/-- The level the station drives at the coming bit time: recessive, which is undriven, outside an attempt (R37). -/
def Bus.drives (b : Bus) : Level :=
  match b.attempt with
  | some a => a.drives b.byteBits
  | none => .recessive

/-- An attempt after a bit it drove has been read back: at a level that differs from its own it releases the line (R49). -/
def Attempt.readBack (a : Attempt) (sent read : Level) : Attempt := { a with released := a.released || decide (sent ≠ read) }

/-- The count that a run's end and a run's start must have passed (R39, R43). -/
def runGap : Nat := 20

/-- The count at which a receive run is judged: it has passed 20 (R39, R43). -/
def runEndCount : Nat := runGap + 1

/-- A start bit on the line, with the bit times left of its byte (R39, R43): the count stops at 0, and a receive run begins if
the count had passed 20. -/
def Bus.startBit (b : Bus) (bitsLeft : Nat) : Bus :=
  { b with
    quiet := 0
    byteBits := bitsLeft
    levels := []
    runOpen := b.runOpen || decide (runGap < b.quiet)
    runBytes := if runGap < b.quiet then some [] else b.runBytes
    ownSent := if runGap < b.quiet then none else b.ownSent }

/-- The receive run after one more byte. -/
def Bus.takeByte (b : Bus) : Bus :=
  { b with
    levels := []
    runBytes := if b.runOpen then b.runBytes.map (· ++ [sampledByte b.levels]) else b.runBytes }

/-- A level sampled in a byte (R38): the start bit's own bit time carries no bit, and the tenth level after it ends the byte. -/
def Bus.sampled (b : Bus) (l : Level) : Bus :=
  let c := { b with byteBits := b.byteBits - 1, lastLevel := l }
  if b.byteBits % byteTime = 0 then c
  else if b.byteBits % byteTime = 1 then { c with levels := b.levels ++ [l] }.takeByte
  else { c with levels := b.levels ++ [l] }

/-- A level between bytes (R38, R39): a dominant level after a recessive one is a start bit; the count rises at a recessive
one, and stands while a stop bit that was dominant is held. -/
def Bus.between (b : Bus) (l : Level) : Bus :=
  match l, b.lastLevel with
  | .recessive, _ => { b with quiet := b.quiet + 1, lastLevel := l }
  | .dominant, .recessive => { b.startBit (byteTime - 1) with lastLevel := l }
  | .dominant, .dominant => b

/-- The line one bit time later, from the level that the other stations drive: the receiver samples what all of them and the
station itself make of it, and a running attempt reads its own bit back (R37, R39, R49). -/
def Bus.lineTick (b : Bus) (others : Level) : Bus :=
  let l := b.drives.wired others
  if b.byteBits = 0 then b.between l
  else { b.sampled l with attempt := b.attempt.map fun a => a.readBack b.drives l }

/-- Whether the run on the line can end (R43): one is in progress and it is not the own frame still being sent. -/
def Bus.runEnds (b : Bus) : Bool := b.runOpen && b.attempt.isNone

/-- The bytes of the run in progress where the line has shown them. -/
def Bus.heardRun (b : Bus) : Option (List LineByte) := if b.runOpen then b.runBytes else none

/-- The receive side once a run is over (R39, R43, R44): the line has been quiet for more than 20 bit times, no byte and no run
is in progress, and an own transmission waits no longer for its run. -/
def Bus.runOver (b : Bus) : Bus :=
  { b with
    quiet := max b.quiet runEndCount
    byteBits := 0
    levels := []
    lastLevel := .recessive
    runOpen := false
    runBytes := some []
    ownSent := none }

/-- A quiet gap (R54): the line-blocked timer is loaded again where a slot is eligible, and the flag is cleared. -/
def Bus.gap (b : Bus) : Bus :=
  { b with
    blockedTimer := if b.slots.anyEligible then blockedTime else 0
    lineBlocked := false }

end Sys2Proof.Machine
end

