-- ==== Sys2Proof/Machine/Records.lean ====
section
/-! DEFINITION. Charge records: the roster and the masks, the encoding of TABLE 6-1, its validation (R92, R93) and the
record check (R91). -/

namespace Sys2Proof.Machine

/-! ## Reading a record -/

/-- Whether the roster names a station, 1..32 (TABLE 6-1 field 3). -/
def ChargeRecord.onRoster (r : ChargeRecord) (station : Nat) : Bool :=
  decide (1 ≤ station) && r.roster.getLsbD (station - 1)

/-- The probe mask of a station (TABLE 6-1 field 5). -/
def ChargeRecord.mask (r : ChargeRecord) (station : Nat) : Byte := r.masks.toList.getD (station - 1) 0

/-- Whether a station's probe mask names a channel, 1..8. -/
def ChargeRecord.maskHas (r : ChargeRecord) (station channel : Nat) : Bool :=
  decide (1 ≤ channel) && (r.mask station).getLsbD (channel - 1)

/-- The step count S (TABLE 7-1). -/
def ChargeRecord.stepCount (r : ChargeRecord) : Nat := r.steps.length

/-- Step k of the schedule, numbered from 1. -/
def ChargeRecord.stepAt (r : ChargeRecord) (k : Nat) : Option ScheduleStep := if k = 0 then none else r.steps[k - 1]?

/-- The equalize-start level, formed as a signed number (R83, R117). -/
def ChargeRecord.equalizeStart (r : ChargeRecord) : Int := (r.finalTarget : Int) - r.equalizeOffset

/-! ## The encoding (R89, R90) -/

/-- The code of a hold basis (TABLE 6-2). -/
def basisCode : HoldBasis → Nat
  | .minutes => 0
  | .reversals => 1

/-- The encoding of a step (TABLE 6-2). -/
def encodeStep (st : ScheduleStep) : List Byte :=
  be16 st.advanceMc ++ beS16 st.dryBulb ++ be16 st.depression ++ [byteOf (basisCode st.basis)] ++ be16 st.hold
    ++ be16 st.maximum

/-- The encoding of a breakpoint (TABLE 6-1 field 28). -/
def encodeBreakpoint (p : Breakpoint) : List Byte := be16 p.grade ++ be16 p.mc

/-- The four bytes of a roster: byte 0 bit 0 is station 1 (TABLE 6-1 field 3). -/
def encodeRoster (r : BitVec 32) : List Byte :=
  [r.extractLsb' 0 8, r.extractLsb' 8 8, r.extractLsb' 16 8, r.extractLsb' 24 8]

/-- The encoding of a record: the byte string of TABLE 6-1 (R90). -/
def encodeRecord (r : ChargeRecord) : List Byte :=
  be16 r.chargeNumber ++ be16 r.chargeCode ++ encodeRoster r.roster ++ be16 r.quorum ++ r.masks.toList
    ++ [byteOf r.tempCoeff] ++ be16 r.sweepInterval ++ [byteOf r.traceInterval, byteOf r.warmBand, byteOf r.rampRate]
    ++ be16 r.kp ++ [byteOf r.ki] ++ be16 r.kv ++ be16 r.ks
    ++ [byteOf r.deadBand, byteOf r.deviationBand, byteOf r.deviationTime] ++ be16 r.settleWindow ++ be16 r.safeVent
    ++ be16 r.finalTarget ++ [byteOf r.equalizeOffset] ++ be16 r.equalizeDepression ++ be16 r.equalizeMaximum
    ++ be16 r.conditionDepression ++ be16 r.conditionTime ++ beS16 r.coolEnd
    ++ [byteOf r.curve.length] ++ r.curve.flatMap encodeBreakpoint
    ++ [byteOf r.steps.length] ++ r.steps.flatMap encodeStep

/-! ## The fields of an encoding -/

/-- The roster of an encoding. -/
def rosterAt (bs : List Byte) : BitVec 32 := bs.getD 7 0 ++ bs.getD 6 0 ++ bs.getD 5 0 ++ bs.getD 4 0

/-- The breakpoints of an encoding with curve count n. -/
def curveAt (bs : List Byte) (n : Nat) : List Breakpoint :=
  (List.range n).map fun i => { grade := u16 bs (76 + 4 * i), mc := u16 bs (78 + 4 * i) }

/-- The hold basis of a step's basis byte; a byte that is neither code is refused by `stepValid`. -/
def basisOf (n : Nat) : HoldBasis := if n = 1 then .reversals else .minutes

/-- The steps of an encoding whose first step starts at a place. -/
def stepsAt (bs : List Byte) (start count : Nat) : List ScheduleStep :=
  (List.range count).map fun i =>
    let at' := start + 11 * i
    { advanceMc := u16 bs at', dryBulb := s16 bs (at' + 2), depression := u16 bs (at' + 4)
      basis := basisOf (u8 bs (at' + 6)), hold := u16 bs (at' + 7), maximum := u16 bs (at' + 9) }

/-- The record whose fields stand in an encoding (TABLE 6-1). -/
def recordOf (bs : List Byte) : ChargeRecord :=
  let n := u8 bs 75
  { chargeNumber := u16 bs 0, chargeCode := u16 bs 2, roster := rosterAt bs, quorum := u16 bs 8
    masks := Vector.ofFn fun i => bs.getD (10 + i.val) 0
    tempCoeff := u8 bs 42, sweepInterval := u16 bs 43, traceInterval := u8 bs 45, warmBand := u8 bs 46
    rampRate := u8 bs 47, kp := u16 bs 48, ki := u8 bs 50, kv := u16 bs 51, ks := u16 bs 53, deadBand := u8 bs 55
    deviationBand := u8 bs 56, deviationTime := u8 bs 57, settleWindow := u16 bs 58, safeVent := u16 bs 60
    finalTarget := u16 bs 62, equalizeOffset := u8 bs 64, equalizeDepression := u16 bs 65
    equalizeMaximum := u16 bs 67, conditionDepression := u16 bs 69, conditionTime := u16 bs 71, coolEnd := s16 bs 73
    curve := curveAt bs n, steps := stepsAt bs (77 + 4 * n) (u8 bs (76 + 4 * n)) }

/-! ## Validation (R92, R93) -/

/-- Whether a number lies in lo..hi. -/
def inRange (lo hi n : Nat) : Bool := decide (lo ≤ n) && decide (n ≤ hi)

/-- Whether a signed number lies in lo..hi. -/
def inRangeInt (lo hi x : Int) : Bool := decide (lo ≤ x) && decide (x ≤ hi)

/-- Field 28: G_i strictly ascending in 400..1300, MC_i non-increasing in 0..800. -/
def curveValid : List Breakpoint → Bool
  | [] => true
  | [p] => inRange 400 1300 p.grade && inRange 0 800 p.mc
  | p :: q :: rest =>
    inRange 400 1300 p.grade && inRange 0 800 p.mc && decide (p.grade < q.grade) && decide (q.mc ≤ p.mc)
      && curveValid (q :: rest)

/-- The ranges of one step (TABLE 6-2), its basis code apart. -/
def stepValid (st : ScheduleStep) : Bool :=
  inRange 0 800 st.advanceMc && inRangeInt 200 1100 st.dryBulb && inRange 0 400 st.depression
    && inRange 0 (match st.basis with | .minutes => 1440 | .reversals => 255) st.hold && inRange 0 10080 st.maximum

/-- Field 30 over all steps: each in range, no advance MC above that of the step before. -/
def stepsValid : List ScheduleStep → Bool
  | [] => true
  | [st] => stepValid st
  | st :: st' :: rest => stepValid st && decide (st'.advanceMc ≤ st.advanceMc) && stepsValid (st' :: rest)

/-- Field 5: the mask of a station off the roster names no channel. -/
def masksValid (r : ChargeRecord) : Bool :=
  (List.range 32).all fun i => r.onRoster (i + 1) || r.mask (i + 1) == 0

/-- The checks of the field stage on a record's fields, with the field's number, in the order of R93. Field 2 has no
value out of range; fields 27 and 29 are the structural stage's. -/
def fieldChecks (r : ChargeRecord) : List (Nat × Bool) :=
  [(1, inRange 1 65535 r.chargeNumber), (2, inRange 0 65535 r.chargeCode), (3, r.roster != 0),
   (4, inRange 1 256 r.quorum), (5, masksValid r), (6, inRange 0 200 r.tempCoeff), (7, inRange 30 600 r.sweepInterval),
   (8, inRange 5 120 r.traceInterval), (9, inRange 5 100 r.warmBand), (10, inRange 1 50 r.rampRate),
   (11, inRange 0 500 r.kp), (12, inRange 0 100 r.ki), (13, inRange 0 500 r.kv), (14, inRange 0 500 r.ks),
   (15, inRange 0 50 r.deadBand), (16, inRange 5 200 r.deviationBand), (17, inRange 1 60 r.deviationTime),
   (18, inRange 0 300 r.settleWindow), (19, inRange 0 1000 r.safeVent), (20, inRange 0 800 r.finalTarget),
   (21, inRange 0 100 r.equalizeOffset), (22, inRange 0 400 r.equalizeDepression),
   (23, inRange 0 10080 r.equalizeMaximum), (24, inRange 0 400 r.conditionDepression),
   (25, inRange 0 1440 r.conditionTime), (26, inRangeInt 200 1100 r.coolEnd), (27, inRange 2 10 r.curve.length),
   (28, curveValid r.curve), (29, inRange 1 12 r.steps.length), (30, stepsValid r.steps)]

/-- The number of the first field that fails. -/
def firstFailing (checks : List (Nat × Bool)) : Option Nat := (checks.find? fun c => !c.2).map (·.1)

/-- A record whose every field is as TABLE 6-1 and TABLE 6-2 allow (R93). -/
def ChargeRecord.valid (r : ChargeRecord) : Bool := (fieldChecks r).all (·.2)

/-- The judgement of an encoding (R92, R93). -/
inductive Verdict where
  | malformed
  | range (field : Nat)
  | valid (record : ChargeRecord)
deriving DecidableEq, Repr

/-- Whether every step's basis byte is one of the two codes (TABLE 6-2). -/
def basisBytesValid (bs : List Byte) (start count : Nat) : Bool :=
  (List.range count).all fun i => decide (u8 bs (start + 11 * i + 6) ≤ 1)

/-- The field stage (R93): the first field that fails, or the record. A basis byte that is neither code fails field 30. -/
def fieldStage (bs : List Byte) : Verdict :=
  let n := u8 bs 75
  match firstFailing
      (fieldChecks (recordOf bs) ++ [(30, basisBytesValid bs (77 + 4 * n) (u8 bs (76 + 4 * n)))]) with
  | some k => .range k
  | none => .valid (recordOf bs)

/-- The judgement of an encoding: the structural stage of R92, in its order, then the field stage. -/
def validateEncoding (bs : List Byte) : Verdict :=
  let n := u8 bs 75
  let count := u8 bs (76 + 4 * n)
  if bs.length < 76 then .malformed
  else if !inRange 2 10 n then .range 27
  else if bs.length < 77 + 4 * n then .malformed
  else if !inRange 1 12 count then .range 29
  else if bs.length ≠ 77 + 4 * n + 11 * count then .malformed
  else fieldStage bs

/-- The record check: the CRC over the whole encoding (R91). -/
def recordCheck (r : ChargeRecord) : Word16 := crc (encodeRecord r)

/-- A record as it is taken into a rank, with its check (R91). -/
def ranked (r : ChargeRecord) : RankedRecord := { record := r, check := recordCheck r }

end Sys2Proof.Machine
end

