-- ==== Sys2Proof/Machine/ClimateUnit.lean ====
section
/-! DEFINITION. The climate controller (chapter 9): targets, regimes, the heat and humidity loops, the deviation count. -/

namespace Sys2Proof.Machine

/-- The loop positions (R143). -/
def Position.isLoop : Position → Bool
  | .warmup | .drying _ | .equalize | .condition => true
  | .idle | .gather | .cool | .complete => false

/-- The dry-bulb and depression of a step, or the dry-bulb of a step with a depression of the record. -/
def stepTarget (r : ChargeRecord) (k : Nat) (depression : Option Nat) : Option (Int × Nat) :=
  (r.stepAt k).map fun st => (st.dryBulb, depression.getD st.depression)

/-- The target pair of a position under a record (TABLE 9-2). -/
def targetsOf (r : ChargeRecord) : Position → Option (Int × Nat)
  | .warmup => stepTarget r 1 none
  | .drying k => stepTarget r k none
  | .equalize => stepTarget r r.stepCount (some r.equalizeDepression)
  | .condition => stepTarget r r.stepCount (some r.conditionDepression)
  | .idle | .gather | .cool | .complete => none

/-- The output regime of a mode and position (TABLE 9-3). -/
def regimeOf (m : Mode) (p : Position) : Regime :=
  match m, p with
  | .safe, _ => .safe
  | _, .idle | _, .gather | _, .complete => .off
  | _, .cool => .cooling
  | _, .warmup | _, .drying _ | _, .equalize | _, .condition => .loops

/-- The vent output of a regime without loops on a ZONE station (TABLE 9-3). -/
def regimeVent (record : Option ChargeRecord) : Regime → Nat
  | .safe => (record.map (·.safeVent)).getD 1000
  | .cooling => 1000
  | .off | .loops => 0

/-- The regime judged again (R146): LOOPS keeps the outputs; another regime sets its outputs at once and I to 0. On a
PROBE station the outputs stand at 0 (R141). -/
def judgeRegime (s : State) : State :=
  let regime := regimeOf s.schedule.mode s.schedule.position
  match regime with
  | .loops => s.setClimate { s.climate with regime := regime }
  | _ =>
    s.setClimate
      { s.climate with
        regime := regime, integral := 0, heat := 0, spray := 0
        vent := match s.straps.role with | .zone => regimeVent s.currentRecord regime | .probe => 0 }

/-- The climate controller's part of an entry to the position that now stands, from the position left (R143, R144, R146). -/
def climateEntry (left : Position) (s : State) : State :=
  let target := s.currentRecord.bind fun r => targetsOf r s.schedule.position
  let c := s.climate
  let c :=
    { c with targetDry := target.map (·.1), targetDep := target.map (·.2), activeDep := target.map (·.2), deviation := 0 }
  let c :=
    if s.schedule.position.isLoop then
      if left.isLoop then c else { c with spActive := some (s.dryBulb.getD 200), integral := 0 }
    else { c with spActive := none, integral := 0 }
  judgeRegime (s.setClimate c)

/-- The climate controller's part of an ABORT (R156): no targets, I and the deviation count 0, the regime judged. -/
def climateAbort (s : State) : State :=
  judgeRegime
    (s.setClimate
      { s.climate with
        targetDry := none, targetDep := none, spActive := none, activeDep := none, integral := 0, deviation := 0 })

/-- The climate controller's part of a change of mode (R146, R155): the regime judged, the deviation count 0 (log entry 17). -/
def climateMode (s : State) : State := judgeRegime (s.setClimate { s.climate with deviation := 0 })

/-! ## The ramp (R145) -/

/-- SP_active moved toward its target by at most the ramp rate. -/
def rampToward (sp target rate : Int) : Int :=
  if sp ≤ target then (if target - sp ≤ rate then target else sp + rate)
  else (if sp - target ≤ rate then target else sp - rate)

/-- The setpoint ramp at a minute tick (R145). -/
def setpointRamp (s : State) : State :=
  match s.currentRecord, s.climate.spActive, s.climate.targetDry with
  | some r, some sp, some t =>
    if s.schedule.position.isLoop ∧ s.schedule.mode = .run then
      s.setClimate { s.climate with spActive := some (rampToward sp t r.rampRate) }
    else s
  | _, _, _ => s

/-! ## The loops (R148 to R150) -/

/-- Whether the integral change is withheld (R149). -/
def integralWithheld (heatBefore : Nat) (e : Int) : Bool :=
  (decide (heatBefore = 1000) && decide (e > 0)) || (decide (heatBefore = 0) && decide (e < 0))

/-- The heat integral after a period (R148, R149). -/
def nextIntegral (r : ChargeRecord) (heatBefore : Nat) (i e : Int) : Int :=
  clampInt (-1000) 1000 (if integralWithheld heatBefore e then i else i + halfAway (r.ki * e) 10)

/-- The heat output of an error and an integral (R148). -/
def heatOutput (r : ChargeRecord) (e i : Int) : Nat := clampDemand (halfAway (r.kp * e) 10 + i)

/-- The heat loop of a period (R147 step 2, R148): with no dry-bulb available, heat and I are 0. -/
def heatLoop (r : ChargeRecord) (dryBulb : Option Int) (c : Climate) : Climate :=
  match dryBulb, c.spActive with
  | some db, some sp =>
    { c with
      integral := nextIntegral r c.heat c.integral (sp - db)
      heat := heatOutput r (sp - db) (nextIntegral r c.heat c.integral (sp - db)) }
  | _, _ => { c with integral := 0, heat := 0 }

/-- The vent output of a wet-bulb error (R150 step 3). -/
def ventOutput (r : ChargeRecord) (ew : Int) : Nat :=
  if ew > r.deadBand then clampDemand (halfAway (r.kv * (ew - r.deadBand)) 10) else 0

/-- The spray output of a wet-bulb error (R150 step 4). -/
def sprayOutput (r : ChargeRecord) (ew : Int) : Nat :=
  if ew < -(r.deadBand : Int) then clampDemand (halfAway (r.ks * (-ew - r.deadBand)) 10) else 0

/-- The humidity loop of a period (R147 step 3, R150). -/
def humidityLoop (r : ChargeRecord) (wet : SensorChannel) (c : Climate) : Climate :=
  match wet.state with
  | .holding => c
  | .awaiting | .lost => { c with vent := 0, spray := 0 }
  | .valid =>
    match wet.lastValid, c.spActive, c.activeDep with
    | some wb, some sp, some dep =>
      { c with vent := ventOutput r (wb - (sp - dep)), spray := sprayOutput r (wb - (sp - dep)) }
    | _, _, _ => { c with vent := 0, spray := 0 }

/-- The loops of a control period (R147 steps 1 to 3): on a ZONE station in LOOPS with the settle timer at 0. -/
def climatePeriod (s : State) : State :=
  match s.straps.role, s.climate.regime, s.currentRecord with
  | .zone, .loops, some r =>
    if s.climate.settleTimer = 0 then
      s.setClimate (humidityLoop r s.sensors.wet (heatLoop r s.dryBulb s.climate))
    else s
  | _, _, _ => s

/-! ## The deviation count (R155) -/

/-- The positions in which the deviation is judged (R155). -/
def Position.judgesDeviation : Position → Bool
  | .drying _ | .equalize | .condition => true
  | _ => false

/-- Whether the deviation count is in force (R155). -/
def State.deviationInForce (s : State) : Bool :=
  s.straps.role == .zone && s.schedule.position.judgesDeviation && s.schedule.mode == .run
    && s.sensors.dry.state == .valid

/-- The limit of the deviation count: 15 control periods to the minute (R155). -/
def deviationLimitOf (r : ChargeRecord) : Nat := 15 * r.deviationTime

/-- Whether the dry-bulb stands outside the deviation band about SP_active (R155). -/
def State.outsideBand (s : State) (r : ChargeRecord) : Bool :=
  match s.dryBulb, s.climate.spActive with
  | some db, some sp => decide ((r.deviationBand : Int) < (db - sp).natAbs)
  | _, _ => false

/-- The deviation judgement of a control period (R155). -/
def judgeDeviation (s : State) : State :=
  match s.currentRecord with
  | some r =>
    if s.deviationInForce ∧ s.outsideBand r then
      let count := min (deviationLimitOf r) (s.climate.deviation + 1)
      let s' := s.setClimate { s.climate with deviation := count }
      if count = deviationLimitOf r ∧ s.climate.deviation ≠ count then latch .climateDeviation s' else s'
    else s.setClimate { s.climate with deviation := 0 }
  | none => s.setClimate { s.climate with deviation := 0 }

end Sys2Proof.Machine
end

