-- ==== Sys2Proof/Machine/Moisture.lean ====
section
/-! DEFINITION. The moisture arithmetic of chapter 2: from the four samples of a channel to one reading, and the
re-marking of the own readings table. -/

namespace Sys2Proof.Machine

/-- The sum of samples. -/
def sumOf (xs : List Nat) : Nat := xs.foldl (· + ·) 0

/-- The largest sample less the smallest (R10, R22). -/
def spreadOf (xs : List Nat) : Nat := xs.foldl max 0 - xs.foldl min (xs.headD 0)

/-- The mean of four samples, rounding half up (R10, R22). -/
def meanOfFour (xs : List Nat) : Nat := halfUp (sumOf xs) 4

/-- The corrected grade of R23, from the raw grade and the reference pair. -/
def correctedGrade (mLo mHi gRaw : Nat) : Int :=
  700 + halfAway (((gRaw : Int) - mLo) * 300) ((mHi : Int) - mLo)

/-- The default species curve (TABLE 2-3). -/
def defaultCurve : List Breakpoint :=
  [⟨560, 600⟩, ⟨620, 400⟩, ⟨680, 300⟩, ⟨740, 240⟩, ⟨800, 200⟩, ⟨860, 165⟩, ⟨920, 135⟩, ⟨980, 110⟩, ⟨1060, 85⟩,
   ⟨1160, 60⟩]

/-- The default temperature coefficient (R19). -/
def defaultCoeff : Nat := 80

/-- MC_raw between breakpoints (R30), on a curve whose first breakpoint is not above the grade; past the last breakpoint
its MC. -/
def curveBetween : List Breakpoint → Int → Int
  | [], _ => 0
  | [p], _ => p.mc
  | p :: q :: rest, g =>
    if g = p.grade then p.mc
    else if g < q.grade then
      (p.mc : Int) + halfAway (((q.mc : Int) - p.mc) * (g - p.grade)) ((q.grade : Int) - p.grade)
    else curveBetween (q :: rest) g

/-- Whether a grade lies below the first breakpoint (R31). -/
def belowCurve (curve : List Breakpoint) (g : Int) : Bool :=
  match curve.head? with
  | some p => decide (g < p.grade)
  | none => false

/-- Whether a grade lies above the last breakpoint (R31). -/
def aboveCurve (curve : List Breakpoint) (g : Int) : Bool :=
  match curve.getLast? with
  | some p => decide (g > p.grade)
  | none => false

/-- MC_raw of a grade (R30, R31): clamped to the first breakpoint's MC below the curve and the last one's above it. -/
def curveMc (curve : List Breakpoint) (g : Int) : Int :=
  if belowCurve curve g then (curve.head?.map fun p => (p.mc : Int)).getD 0 else curveBetween curve g

/-- The temperature factor F of R32, clamped. -/
def tempFactor (coeff : Nat) (t : Int) : Int :=
  clampInt 2500 15000 (10000 - halfAway ((coeff : Int) * (t - 200)) 10)

/-- The moisture value of R33. -/
def moistureOf (mcRaw f : Int) : Nat := min 800 (halfUp (mcRaw * f).toNat 10000)

/-- The inputs that all eight channels of a sweep share (R19). -/
structure ConversionInputs where
  mLo : Nat
  mHi : Nat
  refFault : Bool
  dryBulb : Option Int
  curve : List Breakpoint
  coeff : Nat
deriving DecidableEq, Repr

/-- The shared inputs as the blocks stand (R12, R19). -/
def State.conversionInputs (s : State) : ConversionInputs where
  mLo := s.frontEnd.mLo
  mHi := s.frontEnd.mHi
  refFault := s.frontEnd.refFault
  dryBulb := s.dryBulb
  curve := (s.currentRecord.map (·.curve)).getD defaultCurve
  coeff := (s.currentRecord.map (·.tempCoeff)).getD defaultCoeff

/-- One channel converted from its four samples (R22 to R33). -/
def convertChannel (inp : ConversionInputs) (channel : Nat) (samples : List Nat) : Reading :=
  let grade := correctedGrade inp.mLo inp.mHi (meanOfFour samples)
  let spread := spreadOf samples
  let flags := classify grade spread (inp.refFault || inp.dryBulb.isNone)
  match flags.noValue, inp.dryBulb with
  | false, some t =>
    { channel := channel, grade := grade, spread := spread, dryBulb := inp.dryBulb
      mc := some (moistureOf (curveMc inp.curve grade) (tempFactor inp.coeff t))
      flags := { flags with wetLimit := belowCurve inp.curve grade, dryLimit := aboveCurve inp.curve grade } }
  | _, _ =>
    { channel := channel, mc := none, grade := grade, spread := spread, flags := flags, dryBulb := inp.dryBulb }

/-- The eight channels converted in channel order, four samples each in the order taken (R4, R19). -/
def convertSweep (inp : ConversionInputs) (samples : List Nat) : List Reading :=
  (List.range 8).map fun i => convertChannel inp (i + 1) ((samples.drop (4 * i)).take 4)

/-- A reading re-marked between sweeps (R34): no moisture value, INVALID, every other field kept. -/
def Reading.remarked (r : Reading) : Reading := { r with mc := none, flags := { r.flags with invalid := true } }

/-- The own readings table re-marked (R11, R17, R34). -/
def remarkReadings (s : State) : State := s.setReadings (s.readings.map Reading.remarked)

end Sys2Proof.Machine
end

