-- ==== Sys2Proof/Machine/Peers.lean ====
section
/-! DEFINITION. Station reports and the peer table (chapter 4): building a report, its payload, checking a received one,
the entries and their standing. -/

namespace Sys2Proof.Machine

/-! ## The table (R60) -/

/-- The entry of a station, none for EMPTY. -/
def PeerTable.entry (p : PeerTable) (station : Nat) : Option HeldEntry :=
  if h : 1 ≤ station ∧ station ≤ 32 then p.entries[station - 1]'(by omega) else none

/-- The table with another entry for a station. -/
def PeerTable.setEntry (p : PeerTable) (station : Nat) (e : Option HeldEntry) : PeerTable :=
  if h : 1 ≤ station ∧ station ≤ 32 then { p with entries := p.entries.set (station - 1) e (by omega) } else p

/-- The age at which a FRESH entry goes STALE (R64). -/
def staleAge : Nat := seconds 30

/-- The age at which a STALE entry goes EMPTY (R64). -/
def emptyAge : Nat := seconds 100

/-- The standing of an entry against a current rank (R67). -/
inductive Standing where
  | matched
  | foreign
  | unlisted
deriving DecidableEq, Repr

/-- The standing of an entry's contents (R67). -/
def standing (current : Option RankedRecord) (station : Nat) (d : ReportData) : Standing :=
  match current with
  | none => .foreign
  | some r =>
    if !r.record.onRoster station then .unlisted
    else if d.charge = r.record.chargeNumber ∧ d.check = r.check then .matched
    else .foreign

/-- Whether a station has an entry that is FRESH and stands MATCHED (R77, R111). -/
def State.freshMatched (s : State) (station : Nat) : Bool :=
  match s.peers.entry station with
  | some e => e.state == .fresh && standing s.store.current station e.data == .matched
  | none => false

/-! ## The report a station builds (R57 to R59) -/

/-- Whether the own readings table denies the report its picture figures: it is empty or all INVALID (R58). -/
def State.cannotMeasure (s : State) : Bool := s.readings.all (·.flags.invalid)

/-- The channels in use: those the own mask names, or all with the current rank empty (R59). -/
def State.channelInUse (s : State) (channel : Nat) : Bool :=
  match s.currentRecord with
  | some r => r.maskHas s.straps.station channel
  | none => true

/-- The reading list of a report (R59). -/
def State.reportedReadings (s : State) : List ReportedReading :=
  (s.readings.filter fun r => s.channelInUse r.channel).map fun r => { channel := r.channel, mc := r.mc, flags := r.flags }

/-- The report's fields from the blocks as they stand (R57). -/
def State.reportData (s : State) : ReportData where
  role := s.straps.role
  charge := s.currentNumber
  check := s.currentCheck
  position := s.schedule.position
  mode := s.schedule.mode
  basis := if s.cannotMeasure then 0 else s.pictureBasis
  controlling := if s.cannotMeasure then none else s.picture.bind (·.controlling)
  dryBulb := s.dryBulb
  readings := s.reportedReadings

/-- A reading entry of a report or of READ PEER (TABLE 4-2). -/
def encodeReported (r : ReportedReading) : List Byte := [byteOf r.channel] ++ optMoisture r.mc ++ [r.flags.toByte]

/-- The payload of a report (TABLE 4-1). -/
def reportPayload (d : ReportData) : List Byte :=
  [byteOf (roleCode d.role), byteOf (phaseCode d.position), byteOf (stepCode d.position), byteOf (modeCode d.mode)]
    ++ be16 d.basis ++ optMoisture d.controlling ++ optTemp d.dryBulb ++ be16 d.check.toNat
    ++ [byteOf d.readings.length] ++ d.readings.flatMap encodeReported

/-! ## Checking a received report (R61) -/

/-- A moisture field: in 0..800, or absent as 0xFFFF; none for any other value. -/
def moistureField (n : Nat) : Option (Option Nat) :=
  if n = 0xFFFF then some none else if n ≤ 800 then some (some n) else none

/-- A temperature field: in -400..1300, or absent as 0x8000; none for any other value. -/
def tempField (bs : List Byte) (i : Nat) : Option (Option Int) :=
  if u16 bs i = 0x8000 then some none
  else if -400 ≤ s16 bs i ∧ s16 bs i ≤ 1300 then some (some (s16 bs i))
  else none

/-- The checks of one reading entry (R61). -/
def reportedValid (flagByte : Byte) (r : ReportedReading) : Bool :=
  inRange 1 8 r.channel && !flagByte.getLsbD 6 && !flagByte.getLsbD 7
    && !(r.flags.openCircuit && r.flags.shortCircuit) && !(r.flags.wetLimit && r.flags.dryLimit)
    && r.mc.isSome == !r.flags.noValue

/-- The reading entry at a place of a payload, when it passes its checks (TABLE 4-2, R61). -/
def reportedAt (p : List Byte) (i : Nat) : Option ReportedReading :=
  match moistureField (u16 p (i + 1)) with
  | none => none
  | some mc =>
    let r : ReportedReading := { channel := u8 p i, mc := mc, flags := ReadingFlags.ofByte (p.getD (i + 3) 0) }
    if reportedValid (p.getD (i + 3) 0) r then some r else none

/-- All the values of a list of optional ones, or none when one is absent. -/
def allPresent {α : Type} : List (Option α) → Option (List α)
  | [] => some []
  | none :: _ => none
  | some a :: rest => (allPresent rest).map (a :: ·)

/-- Whether channels are strictly ascending. -/
def ascending : List ReportedReading → Bool
  | [] => true
  | [_] => true
  | a :: b :: rest => decide (a.channel < b.channel) && ascending (b :: rest)

/-- The checks of a report's fields against one another (R61). -/
def reportConsistent (d : ReportData) : Bool :=
  (match d.position with | .drying k => inRange 1 12 k | _ => true)
    && (d.charge == 0) == (d.position == .idle) && (d.charge != 0 || d.check == 0)
    && decide (d.basis ≤ 256) && d.controlling.isSome == (d.basis != 0) && ascending d.readings

/-- A received report's contents, or none when R61 discards it. -/
def parseReport (charge : Nat) (p : List Byte) : Option ReportData :=
  let n := u8 p 12
  if p.length ≠ 13 + 4 * n ∨ n > 8 then none
  else
    match roleOf (u8 p 0), positionOf (u8 p 1) (u8 p 2), modeOf (u8 p 3), moistureField (u16 p 6), tempField p 8,
      allPresent ((List.range n).map fun i => reportedAt p (13 + 4 * i)) with
    | some role, some position, some mode, some controlling, some dryBulb, some readings =>
      let d : ReportData :=
        { role, charge, check := BitVec.ofNat 16 (u16 p 10), position, mode, basis := u16 p 4, controlling, dryBulb
          readings }
      if reportConsistent d then some d else none
    | _, _, _, _, _, _ => none

/-- The own entry written from the station's own state (R70). -/
def writeOwnEntry (s : State) : State :=
  s.setPeers (s.peers.setEntry s.straps.station (some { state := .fresh, data := s.reportData, age := 0 }))

end Sys2Proof.Machine
end

