-- ==== Sys2Proof/Machine/PictureUnit.lean ====
section
/-! DEFINITION. The moisture picture (chapter 5). -/

namespace Sys2Proof.Machine

/-- The value and mask tests of TABLE 5-2 on a reading: its accepted value under its identity, or none. With the current
rank empty there is no mask test (R78). -/
def acceptReading (record : Option ChargeRecord) (station channel : Nat) (mc : Option Nat) (flags : ReadingFlags) :
    Option Extreme :=
  match mc with
  | none => none
  | some m =>
    if !flags.unsteady && (match record with | some r => r.maskHas station channel | none => true) then
      some { mc := m, station := station, channel := channel }
    else none

/-- The accepted own readings (R76, R77, R78). -/
def State.acceptedOwn (s : State) : List Extreme :=
  s.readings.filterMap fun r => acceptReading s.currentRecord s.straps.station r.channel r.mc r.flags

/-- The accepted readings of one peer: those of a FRESH entry that stands MATCHED (R76, R77). -/
def State.acceptedPeer (s : State) (station : Nat) : List Extreme :=
  if station ≠ s.straps.station ∧ s.freshMatched station then
    match s.peers.entry station with
    | some e => e.data.readings.filterMap fun r => acceptReading s.currentRecord station r.channel r.mc r.flags
    | none => []
  else []

/-- All the accepted readings of a picture (R77, R78). -/
def State.accepted (s : State) : List Extreme :=
  s.acceptedOwn ++ (List.range 32).flatMap fun i => s.acceptedPeer (i + 1)

/-- Whether an identity comes before another: by station number, then by channel (0.7.4). -/
def Extreme.before (a b : Extreme) : Bool :=
  decide (a.station < b.station) || (decide (a.station = b.station) && decide (a.channel < b.channel))

/-- The wetter of two readings; of equal ones the one of the earlier identity (R80). -/
def wetter (best : Option Extreme) (x : Extreme) : Option Extreme :=
  match best with
  | none => some x
  | some b => if b.mc < x.mc ∨ (b.mc = x.mc ∧ x.before b) then some x else some b

/-- The drier of two readings; of equal ones the one of the earlier identity (R80). -/
def drier (best : Option Extreme) (x : Extreme) : Option Extreme :=
  match best with
  | none => some x
  | some b => if x.mc < b.mc ∨ (b.mc = x.mc ∧ x.before b) then some x else some b

/-- A value put in its place among values ordered from the largest to the smallest. -/
def insertDescending (x : Nat) : List Nat → List Nat
  | [] => [x]
  | y :: ys => if x ≥ y then x :: y :: ys else y :: insertDescending x ys

/-- Values ordered from the largest to the smallest (R82). -/
def sortDescending : List Nat → List Nat
  | [] => []
  | x :: xs => insertDescending x (sortDescending xs)

/-- The mean of the accepted values (R81). -/
def meanMc (values : List Nat) : Option Nat :=
  if values = [] then none else some (halfUp (sumOf values) values.length)

/-- The size of the wettest half (R82). -/
def halfCount (n : Nat) : Nat := (n + 1) / 2

/-- The controlling MC: the mean of the wettest half (R82). -/
def controllingMc (values : List Nat) : Option Nat :=
  if values = [] then none
  else some (halfUp (sumOf ((sortDescending values).take (halfCount values.length))) (halfCount values.length))

/-- The picture of a list of accepted readings under a current record, or under the empty rank (R78 to R85). -/
def pictureOf (record : Option ChargeRecord) (accepted : List Extreme) : Picture :=
  let values := accepted.map (·.mc)
  let quorum := (record.map (·.quorum)).getD 1
  { charge := (record.map (·.chargeNumber)).getD 0
    quorum := quorum
    basis := accepted.length
    sufficient := decide (quorum ≤ accepted.length)
    wettest := accepted.foldl wetter none
    driest := accepted.foldl drier none
    mean := meanMc values
    controlling := controllingMc values
    wetCount := record.map fun r => (values.filter fun v => decide (r.finalTarget < v)).length
    dryCount := record.map fun r => (values.filter fun v => decide ((v : Int) ≤ r.equalizeStart)).length }

/-- The new picture built from the blocks as they stand (R75 step 2). -/
def buildPicture (s : State) : State := s.setPicture (some (pictureOf s.currentRecord s.accepted))

/-- Whether PICTURE SHORT is judged in a position (R86). -/
def judgesShort : Position → Bool
  | .drying _ | .equalize => true
  | _ => false

/-- PICTURE SHORT at a picture just built (R86). -/
def latchPictureShort (s : State) : State :=
  match s.picture, s.currentRecord with
  | some p, some _ =>
    if !p.sufficient && judgesShort s.schedule.position then latch .pictureShort s else s
  | _, _ => s

end Sys2Proof.Machine
end

