-- ==== Sys2Proof/Machine/Progress.lean ====
section
/-! DEFINITION. The schedule controller (chapters 7 and 8) and what it shares with the charge record store: entries, exit
tests, changes of mode, promotion, ABORT, SAFE. An entry and a change of mode take the conditions that their event brings, so
that the event's own record is written first and its CONDITION records follow in the order of TABLE 10-1 (R159). -/

namespace Sys2Proof.Machine

/-! ## Positions in order (TABLE 7-1) -/

/-- The rank of a position under a step count; a DRYING step that the schedule does not have has none (R106). -/
def positionRank (steps : Nat) : Position → Option Nat
  | .idle => some 0
  | .gather => some 1
  | .warmup => some 2
  | .drying k => if 1 ≤ k ∧ k ≤ steps then some (2 + k) else none
  | .equalize => some (steps + 3)
  | .condition => some (steps + 4)
  | .cool => some (steps + 5)
  | .complete => some (steps + 6)

/-- Whether a position has a rank under a record and is beyond the position that stands (R106). -/
def State.isBeyond (s : State) (r : ChargeRecord) (p : Position) : Bool :=
  match positionRank r.stepCount p, positionRank r.stepCount s.schedule.position with
  | some a, some b => decide (b < a)
  | some _, none => true
  | none, _ => false

/-- The current step in DRYING (TABLE 6-2). -/
def State.currentStep (s : State) : Option ScheduleStep :=
  match s.schedule.position with
  | .drying k => s.currentRecord.bind fun r => r.stepAt k
  | _ => none

/-! ## Entries (R108) -/

/-- The hold value a position's entry loads into the step timer (TABLE 7-2, R114). -/
def entryHold (record : Option ChargeRecord) : Position → Nat
  | .drying k => ((record.bind fun r => r.stepAt k).map (·.hold)).getD 0
  | _ => 0

/-- The condition time the entry to CONDITION loads (TABLE 7-2). -/
def entryCondition (record : Option ChargeRecord) : Position → Nat
  | .condition => (record.map (·.conditionTime)).getD 0
  | _ => 0

/-- The 300 s of the gather timer (R112). -/
def gatherTime : Nat := seconds 300

/-- The schedule controller's state after the entry to a position (TABLE 7-2, R111). -/
def entrySchedule (record : Option ChargeRecord) (p : Position) (c : Schedule) : Schedule :=
  { c with
    position := p
    stepTimer := entryHold record p
    overtime := 0
    conditionTimer := entryCondition record p
    gatherTimer := if p = .gather then gatherTime else 0
    gatherArmed := decide (p = .gather) }

/-- Whether an entry stays within DRYING (R108). -/
def withinDrying : Position → Position → Bool
  | .drying _, .drying _ => true
  | _, _ => false

/-- One entry to a position (R108): the timers of TABLE 7-2, the climate controller's targets, the STEP or PHASE record,
then the conditions, STEP ADVANCED or PHASE ENTERED among them, which are latched with the position entered (log entry 33,
DESIGN CHOICE). The test at once of TABLE 7-2 is `exitsAtOnce`. -/
def enterPosition (p : Position) (cause : Cause) (conds : List Condition) (s : State) : State :=
  let within := withinDrying s.schedule.position p
  let s1 := climateEntry s.schedule.position (s.setSchedule (entrySchedule s.currentRecord p s.schedule))
  let s2 := writeTrace (if within then .step cause else .phase cause) s1
  latchAll (conds ++ [if within then .stepAdvanced else .phaseEntered]) s2

/-! ## Exits that wait for no picture and no report (R111, R113, R119, R120) -/

/-- Whether the gather watch is met (R111): every roster station but the own one has a FRESH entry that stands MATCHED. -/
def State.gatherMet (s : State) : Bool :=
  match s.currentRecord with
  | some r =>
    (List.range 32).all fun i =>
      !r.onRoster (i + 1) || decide (i + 1 = s.straps.station) || s.freshMatched (i + 1)
  | none => false

/-- Whether the warm-up exit is met (R113). -/
def State.warmupMet (s : State) : Bool :=
  match s.currentRecord.bind fun r => (r.stepAt 1).map fun st => st.dryBulb - (r.warmBand : Int), s.dryBulb with
  | some level, some db => decide (level ≤ db)
  | _, _ => false

/-- Whether the cool exit is met (R120). -/
def State.coolMet (s : State) : Bool :=
  match s.currentRecord, s.dryBulb with
  | some r, some db => decide (db ≤ r.coolEnd)
  | _, _ => false

/-- Whether the mode is RUN and the position is the one given: the exits are taken there alone (R107). -/
def State.runningAt (s : State) (p : Position) : Bool := s.schedule.mode == .run && s.schedule.position == p

/-- The warm-up exit test (R113). -/
def testWarmup (s : State) : State :=
  if s.runningAt .warmup && s.warmupMet then enterPosition (.drying 1) .own [] s else s

/-- The gather exit test (R111), with WARMUP's test at once. -/
def testGather (s : State) : State :=
  if s.runningAt .gather && s.schedule.gatherArmed && s.gatherMet then testWarmup (enterPosition .warmup .own [] s)
  else s

/-- The cool exit test (R120). -/
def testCool (s : State) : State :=
  if s.runningAt .cool && s.coolMet then enterPosition .complete .own [] s else s

/-- The condition exit test (R119), with COOL's test at once. -/
def testCondition (s : State) : State :=
  if s.runningAt .condition && s.schedule.conditionTimer == 0 then testCool (enterPosition .cool .own [] s) else s

/-- The tests made at once after an entry (TABLE 7-2), and at a change of the mode to RUN (R124): that of the position that
stands. An entry to DRYING, EQUALIZE or COMPLETE tests nothing. -/
def exitsAtOnce (s : State) : State :=
  match s.schedule.position with
  | .gather => testGather s
  | .warmup => testWarmup s
  | .condition => testCondition s
  | .cool => testCool s
  | .idle | .drying _ | .equalize | .complete => s

/-- An entry with its test at once (R108). -/
def enter (p : Position) (cause : Cause) (s : State) : State := exitsAtOnce (enterPosition p cause [] s)

/-! ## Changes of mode (R130, R136, R138) -/

/-- A change of mode (R130): the climate controller takes it, the MODE record is written, then the conditions, which are latched
in the new mode (log entry 33, DESIGN CHOICE). -/
def changeMode (m : Mode) (conds : List Condition) (s : State) : State :=
  latchAll conds (writeTrace .mode (climateMode (s.setSchedule { s.schedule with mode := m })))

/-- Entry to SAFE (R136): in RUN or HELD the mode becomes SAFE and the safe origin is set; in SAFE only the conditions that
the event brings are latched. -/
def enterSafe (origin : SafeOrigin) (conds : List Condition) (s : State) : State :=
  if s.schedule.mode = .safe then latchAll conds s
  else
    changeMode .safe (.safe :: conds) (s.setSchedule { s.schedule with safeOrigin := some origin })

/-! ## The calibrate-request flag (R3, R7) -/

/-- A calibration sweep starts (R5, R7): the samples of the previous sweep go, the flag is cleared. -/
def startCalSweep (s : State) : State :=
  s.setFrontEnd { s.frontEnd with sweep := .calSweep, calRequest := false, samples := [], windowTimer := halfSecond }

/-- The sweep interval in force: that of the current record, or 60 s (R6). -/
def State.sweepInterval (s : State) : Nat := (s.currentRecord.map (·.sweepInterval)).getD 60

/-- A probe sweep starts (R4, R6): the samples of the previous sweep go, the sweep-interval timer is loaded. -/
def startProbeSweep (s : State) : State :=
  s.setFrontEnd
    { s.frontEnd with
      sweep := .probeSweep, samples := [], windowTimer := halfSecond, intervalTimer := seconds s.sweepInterval }

/-- An event that sets the calibrate-request flag (R7): in IDLE_FE a calibration sweep starts at once. -/
def requestCalibration (s : State) : State :=
  match s.frontEnd.sweep with
  | .idleFe => startCalSweep s
  | .calSweep | .probeSweep => s.setFrontEnd { s.frontEnd with calRequest := true }

/-! ## Promotion and ABORT (R101, R132) -/

/-- The store's part of a promotion (R97, R101): the staged record becomes current, the OFFER slot is turned. -/
def promoteStore (s : State) : State :=
  (s.setStore { s.store with staged := none, current := s.store.staged }).setBus s.bus.turnOffer

/-- The timers a promotion sets apart from the entry's (R101, R109, R110, R170). -/
def promoteTimers (s : State) : State :=
  (s.setSchedule { s.schedule with minute := 0, minuteTimer := seconds 60 }).setTrace
    { s.trace with snapshotTimer := (s.currentRecord.map (·.traceInterval)).getD 0 }

/-- A promotion (R101): the store, the calibrate-request flag, the timers, then the entry to GATHER with its test. -/
def promote (cause : Cause) (s : State) : State :=
  enter .gather cause (promoteTimers (requestCalibration (promoteStore s)))

/-- The schedule controller's state after an ABORT (R125, R132). -/
def abortSchedule (c : Schedule) : Schedule :=
  { c with
    position := .idle
    mode := if c.mode = .safe then .safe else .run
    stepTimer := 0
    overtime := 0
    conditionTimer := 0
    gatherTimer := 0
    gatherArmed := false
    minute := 0 }

/-- An ABORT (R104, R132, R156, R170): the ABORT record carries the position and the minute the charge was ended from. That
minute is also the stamp of a TRACE OVERRUN that this record's write latches (log entry 30). -/
def abortCharge (s : State) : State :=
  let s1 := s.setSchedule (abortSchedule s.schedule)
  let s2 := (s1.setStore { s1.store with current := none }).setBus (s1.bus.emptyOffer .current)
  let s3 := climateAbort (s2.setTrace { s2.trace with snapshotTimer := 0 })
  writeRecord { s3.traceRecord .abort with position := s.schedule.position, minute := s.schedule.minute } s3

/-! ## The picture at the schedule controller (R117, R119) -/

/-- The judgement of a SUFFICIENT picture in DRYING(step k), in RUN (R117). -/
def judgeDrying (r : ChargeRecord) (p : Picture) (k : Nat) (s : State) : State :=
  if p.driest.any fun x => decide ((x.mc : Int) ≤ r.equalizeStart) then enter .equalize .own s
  else
    match p.controlling, r.stepAt k with
    | some c, some st =>
      if c ≤ st.advanceMc ∧ s.schedule.stepTimer = 0 then
        enter (if k = r.stepCount then .equalize else .drying (k + 1)) .own s
      else s
    | _, _ => s

/-- The picture handed to the schedule controller is judged once (R117, R119). -/
def judgePicture (s : State) : State :=
  match s.picture, s.currentRecord with
  | some p, some r =>
    if s.schedule.mode = .run ∧ p.sufficient then
      match s.schedule.position with
      | .drying k => judgeDrying r p k s
      | .equalize =>
        if p.wettest.any fun x => decide (x.mc ≤ r.finalTarget) then enter .condition .own s else s
      | _ => s
    else s
  | _, _ => s

/-! ## The follow rule (R121) -/

/-- Whether a report is followed (R121). -/
def State.follows (s : State) (station : Nat) (d : ReportData) : Bool :=
  match s.currentRecord with
  | some r =>
    standing s.store.current station d == .matched && s.isBeyond r d.position && d.mode == .run
      && s.schedule.mode == .run && decide (r.quorum ≤ d.basis)
  | none => false

/-- The follow rule on the entry just written (R121). -/
def followReport (station : Nat) (d : ReportData) (s : State) : State :=
  if s.follows station d then enter d.position .followed s else s

/-- An accepted report at the schedule controller (R122): the gather watch, then the follow rule. -/
def showSchedule (station : Nat) (d : ReportData) (s : State) : State := followReport station d (testGather s)

end Sys2Proof.Machine
end

