-- ==== Sys2Proof/Machine/StoreUnit.lean ====
section
/-! DEFINITION. What the station does with the frames it hears: the receiver's taking of a run (R43 to R45), reports at the
peer table, the charge record store and the schedule controller (R61 to R69, R100, R103), offers (R98, R99), SAFE frames (R137). -/

namespace Sys2Proof.Machine

/-! ## Taking a run (R43, R44, R45) -/

/-- A run that has ended (R43, R44). -/
def endRun (s : State) : State := s.setBus s.bus.runOver

/-- Whether a run's bytes are the station's own transmission (R44 step 3; log entry 10). -/
def State.isOwnRun (s : State) (run : List LineByte) : Bool := s.bus.ownSent == some (run.map (·.data))

/-- The frame of a run that is handed to the owner of a kind (R43, R44 steps 1 to 3): well-formed, of the own kiln, of that
kind, and not the station's own transmission. -/
def State.heardFrame (s : State) (k : FrameKind) (run : List LineByte) : Option Frame :=
  (judgeRun run).bind fun f =>
    if f.kiln = s.straps.kiln ∧ f.kind = k.code ∧ s.isOwnRun run = false then some f else none

/-- Whether a heard frame sets the address-clash latch (R45): it carries the own number and the latch is clear. -/
def State.clashes (s : State) (f : Frame) : Bool := decide (f.station = s.straps.station) && !s.bus.clash

/-- The address-clash latch set, with ADDRESS CLASH latched (R45), before the frame goes to its owner (R44; log entry 18). -/
def setClash (s : State) : State := latch .addressClash (s.setBus s.bus.clashed)

/-- A frame taken at the moment an own attempt ends, and before that end (R105; log entry 32): another station's frame goes to
its owner, and the line stays the attempt's. One under the own number cannot come then (R45). -/
def takeMeanwhile (k : FrameKind) (owner : Frame → State → State) (run : List LineByte) (s : State) : State :=
  match s.heardFrame k run with
  | none => s
  | some f => if f.station = s.straps.station then s else owner f s

/-- A run taken for the owner of a kind (R44), where a run can end: one that never began is none (R43; log entry 9). While an
own attempt runs it is taken without ending the attempt's own run. -/
def takeRun (k : FrameKind) (owner : Frame → State → State) (run : List LineByte) (s : State) : State :=
  if s.bus.runEnds then
    match s.heardFrame k run with
    | none => endRun s
    | some f => owner f (if s.clashes f then setClash (endRun s) else endRun s)
  else if s.bus.runOpen then takeMeanwhile k owner run s
  else s

/-- A run that is discarded (R43), where a run can end. -/
def discardRun (s : State) : State := if s.bus.runEnds then endRun s else s

/-! ## Reports (R61 to R69, R100, R103) -/

/-- The conditions of an accepted report (R68, R69). -/
def reportConditions (current : Option RankedRecord) (station : Nat) (d : ReportData) : List Condition :=
  match current with
  | none => []
  | some r =>
    if d.charge = r.record.chargeNumber then
      (if r.record.onRoster station then [] else [.unlistedStation])
        ++ (if d.check = r.check then [] else [.recordClash])
    else []

/-- The phases in which a station offers its current record again (R100). -/
def Position.reoffers : Position → Bool
  | .gather | .warmup | .drying _ | .equalize | .condition | .cool => true
  | .idle | .complete => false

/-- Whether an accepted report sets the OFFER slot (R100). -/
def State.drawsOffer (s : State) (station : Nat) (d : ReportData) : Bool :=
  match s.currentRecord with
  | some r =>
    s.schedule.position.reoffers && r.onRoster station && d.charge != r.chargeNumber && s.store.holdoff == 0
  | none => false

/-- The re-offer rule (R100). -/
def reoffer (station : Nat) (d : ReportData) (s : State) : State :=
  if s.drawsOffer station d then s.setBus (s.bus.setOfferSlot .current) else s

/-- Whether an accepted report makes the station join late (R103). -/
def State.joinsLate (s : State) (station : Nat) (d : ReportData) : Bool :=
  match s.store.staged with
  | some r =>
    (s.schedule.position == .idle || s.schedule.position == .complete) && s.schedule.mode != .safe
      && decide (d.charge = r.record.chargeNumber) && decide (d.check = r.check) && d.position != .idle
      && r.record.onRoster station
  | none => false

/-- The late join rule (R103). -/
def lateJoin (station : Nat) (d : ReportData) (s : State) : State :=
  if s.joinsLate station d then promote .followed s else s

/-- The entry of a sender written whole from its report (R63 step 1). -/
def writeEntry (station : Nat) (d : ReportData) (s : State) : State :=
  s.setPeers (s.peers.setEntry station (some { state := .fresh, data := d, age := 0 }))

/-- An accepted report, in the order of R63: the entry, the conditions, the charge record store, the schedule controller. -/
def acceptReport (station : Nat) (d : ReportData) (s : State) : State :=
  showSchedule station d
    (lateJoin station d
      (reoffer station d (latchAll (reportConditions s.store.current station d) (writeEntry station d s))))

/-- A REPORT at the peer table (R61, R62): one under the own number, or one that fails a check, goes no further. -/
def ownReport (f : Frame) (s : State) : State :=
  if f.station = s.straps.station then s
  else
    match parseReport f.charge f.payload with
    | some d => acceptReport f.station d s
    | none => s

/-! ## Offers (R98, R99) -/

/-- The record in a rank. -/
def Store.inRank (st : Store) : Rank → Option RankedRecord
  | .staged => st.staged
  | .current => st.current

/-- Whether an attempt of a kind is running. -/
def Bus.attempting (b : Bus) (k : FrameKind) : Bool := b.attempt.any fun a => a.kind == k

/-- Whether a heard offer cancels the waiting OFFER slot (R99): no attempt of the slot is running, and the record the slot
would send has the heard charge number and check. -/
def State.cancels (s : State) (f : Frame) : Bool :=
  match s.bus.slots.offer with
  | some o =>
    !s.bus.attempting .offer
      && (s.store.inRank o.rank).any fun r => decide (r.record.chargeNumber = f.charge) && decide (r.check = crc f.payload)
  | none => false

/-- The cancel on hearing (R99). -/
def cancelOnHearing (f : Frame) (s : State) : State :=
  if s.cancels f then s.setBus (s.bus.withSlots { s.bus.slots with offer := none }) else s

/-- What a valid offer does at the store (R98 steps 3 to 6). -/
def stageOffer (r : ChargeRecord) (s : State) : State :=
  if s.currentRecord.any fun c => decide (c.chargeNumber = r.chargeNumber) then s
  else
    match s.store.staged with
    | none => s.setStore { s.store with staged := some (ranked r) }
    | some st => if st.record.chargeNumber = r.chargeNumber ∧ st.check = recordCheck r then s else latch .offerClash s

/-- An OFFER at the charge record store, in the order of R98. -/
def ownOffer (f : Frame) (s : State) : State :=
  let s1 := cancelOnHearing f s
  match validateEncoding f.payload with
  | .valid r => if r.chargeNumber = f.charge then stageOffer r s1 else latch .badOffer s1
  | .malformed | .range _ => latch .badOffer s1

/-! ## SAFE frames (R137) -/

/-- A SAFE frame at the schedule controller (R137): entry to SAFE, with the sender and payload byte 0 as the safe origin. -/
def ownSafeFrame (f : Frame) (s : State) : State :=
  enterSafe { station := f.station, cause := f.payload.headD 0 } [] s

/-! ## Ageing (R64, R66) -/

/-- Whether a peer entry that goes STALE latches PEER STALE (R66). -/
def State.staleLatches (s : State) (station : Nat) : Bool := s.currentRecord.any fun r => r.onRoster station

/-- A FRESH peer entry reaches age 30 s (R64, R66). The own entry does not age (R70). -/
def peerEntryStale (station : Nat) (s : State) : State :=
  match s.peers.entry station with
  | some e =>
    if e.state = .fresh ∧ station ≠ s.straps.station then
      let s' := s.setPeers (s.peers.setEntry station (some { e with state := .stale, age := max e.age staleAge }))
      if s.staleLatches station then latch .peerStale s' else s'
    else s
  | none => s

/-- A STALE peer entry reaches age 100 s (R64). -/
def peerEntryEmptied (station : Nat) (s : State) : State :=
  match s.peers.entry station with
  | some e =>
    if e.state = .stale ∧ station ≠ s.straps.station then s.setPeers (s.peers.setEntry station none) else s
  | none => s

/-- The re-offer holdoff timer reaches 0 and stays there (R100). -/
def reofferHoldoffExpiry (s : State) : State := s.setStore { s.store with holdoff := 0 }

/-! ## The commands -/

/-- FRAME_DISCARDED (R43): no block changes; the run is over. -/
def execFrameDiscarded (_run : List LineByte) (s : State) : Host.Outcome State Fault Refusal := .next (discardRun s)

/-- REPORT_RECEIVED (R63). -/
def execReportReceived (run : List LineByte) (s : State) : Host.Outcome State Fault Refusal :=
  .next (takeRun .report ownReport run s)

/-- OFFER_RECEIVED (R98). -/
def execOfferReceived (run : List LineByte) (s : State) : Host.Outcome State Fault Refusal :=
  .next (takeRun .offer ownOffer run s)

/-- SAFE_FRAME_RECEIVED (R137). -/
def execSafeFrameReceived (run : List LineByte) (s : State) : Host.Outcome State Fault Refusal :=
  .next (takeRun .safe ownSafeFrame run s)

/-- PEER_ENTRY_STALE (R64). -/
def execPeerEntryStale (station : Nat) (s : State) : Host.Outcome State Fault Refusal :=
  if 1 ≤ station ∧ station ≤ 32 then .next (peerEntryStale station s) else .refused .noSuchEntry

/-- PEER_ENTRY_EMPTIED (R64). -/
def execPeerEntryEmptied (station : Nat) (s : State) : Host.Outcome State Fault Refusal :=
  if 1 ≤ station ∧ station ≤ 32 then .next (peerEntryEmptied station s) else .refused .noSuchEntry

/-- REOFFER_HOLDOFF_EXPIRY (R100). -/
def execReofferHoldoffExpiry (s : State) : Host.Outcome State Fault Refusal := .next (reofferHoldoffExpiry s)

end Sys2Proof.Machine
end

