-- ==== Sys2Proof/Machine/DirectiveUnit.lean ====
section
/-! DEFINITION. The directives (chapter 8): at a receiver, at the originating station, and the emergency input. -/

namespace Sys2Proof.Machine

/-- The answers of a service request (TABLE 12-2); DONE carries the data of the request. -/
inductive Answer where
  | done (data : List Byte)
  | malformed
  | range (field : Nat)
  | stateRefused
  | codeRefused
  | busy
deriving DecidableEq, Repr

/-! ## Effects of a directive whose checks have passed (TABLE 8-2) -/

/-- Whether a START can be taken (R129): in IDLE or COMPLETE and outside SAFE. -/
def State.startOpen (s : State) : Bool :=
  (s.schedule.position == .idle || s.schedule.position == .complete) && s.schedule.mode != .safe

/-- A START at the charge record store (R102). -/
def storeStart (charge code : Nat) (s : State) : State :=
  if s.currentRecord.any fun c => decide (c.chargeNumber = charge) then s
  else
    match s.store.staged with
    | some r =>
      if r.record.chargeNumber = charge then
        if r.record.chargeCode = code then promote .directed s else latch .codeMismatch s
      else latch .chargeMissing s
    | none => latch .chargeMissing s

/-- A HOLD (R130). -/
def applyHold (s : State) : State := if s.schedule.mode = .run then changeMode .held [] s else s

/-- A RESUME (R130), with the tests of R124. -/
def applyResume (s : State) : State :=
  if s.schedule.mode = .held then exitsAtOnce (changeMode .run [] s) else s

/-- A SKIP to a target (R131): a target with no rank, or one not beyond the own position, is ignored; so is every SKIP in
SAFE. -/
def applySkip (target : Option Position) (s : State) : State :=
  match target, s.currentRecord with
  | some p, some r => if s.schedule.mode ≠ .safe ∧ s.isBeyond r p then enter p .directed s else s
  | _, _ => s

/-- A RESET SAFE (R138). -/
def applyResetSafe (s : State) : State :=
  if s.schedule.mode = .safe ∧ s.pins.emergency = false then changeMode .held [] s else s

/-- The effect of a directive other than START whose checks have passed. -/
def applyDirective (k : DirectiveKind) (target : Option Position) (s : State) : State :=
  match k with
  | .start => s
  | .hold => applyHold s
  | .resume => applyResume s
  | .skip => applySkip target s
  | .abort => abortCharge s
  | .resetSafe => applyResetSafe s

/-! ## At a receiver (R127, R128) -/

/-- Whether a DIRECTIVE payload passes the form checks of R127 as a given directive. -/
def directiveForm (k : DirectiveKind) (payload : List Byte) : Bool :=
  decide (payload.length = 5) && directiveOf (u8 payload 0) == some k && (k != .skip || decide (u8 payload 3 ≤ 7))

/-- The target position of a SKIP: none for a phase other than DRYING with a step other than 0 (R131). -/
def skipTarget (phase step : Byte) : Option Position := positionOf phase.toNat step.toNat

/-- The judgement of a received directive against the ranks and the state (R128, R129). -/
def judgeDirective (k : DirectiveKind) (charge code : Nat) (target : Option Position) (s : State) : State :=
  if k = .start then
    if s.startOpen && charge != 0 then storeStart charge code s else s
  else if k = .resetSafe ∧ charge = 0 then
    if s.schedule.position = .idle then applyDirective k target s else s
  else
    match s.currentRecord with
    | some r =>
      if r.chargeNumber = charge then
        if r.chargeCode = code then applyDirective k target s else latch .codeMismatch s
      else s
    | none => s

/-- A DIRECTIVE frame at the schedule controller (R127, R128), for the row of one directive. -/
def ownDirective (k : DirectiveKind) (f : Frame) (s : State) : State :=
  if directiveForm k f.payload then
    judgeDirective k f.charge (u16 f.payload 1) (skipTarget (f.payload.getD 3 0) (f.payload.getD 4 0)) s
  else s

/-- A DIRECTIVE frame whatever directive it carries (R127): one with no code of TABLE 8-1 is ignored. -/
def ownAnyDirective (f : Frame) (s : State) : State :=
  match directiveOf (u8 f.payload 0) with
  | some k => ownDirective k f s
  | none => s

/-- A run that the line itself has shown, taken for the owner of its frame's kind (R43, R44); a run that is discarded, and a
frame of no kind of TABLE 3-3, ends and does nothing else. -/
def takeHeardRun (run : List LineByte) (s : State) : State :=
  match (judgeRun run).bind fun f => FrameKind.ofCode f.kind with
  | some .report => takeRun .report ownReport run s
  | some .offer => takeRun .offer ownOffer run s
  | some .safe => takeRun .safe ownSafeFrame run s
  | some .directive => takeRun .directive ownAnyDirective run s
  | none => discardRun s

/-! ## At the originating station (R133, R134) -/

/-- The origin check for the current rank and the code that HOLD, RESUME, ABORT, SKIP and RESET SAFE share (TABLE 8-3): the
refusal with the condition it latches, or none. -/
def rankRefusal (charge code : Nat) (s : State) : Option (Answer × List Condition) :=
  match s.currentRecord with
  | some r =>
    if r.chargeNumber = charge then
      if r.chargeCode = code then none else some (.codeRefused, [.codeMismatch])
    else some (.stateRefused, [])
  | none => some (.stateRefused, [])

/-- The origin checks for START (TABLE 8-3). -/
def startRefusal (charge code : Nat) (s : State) : Option (Answer × List Condition) :=
  if !s.startOpen || charge == 0 || s.currentRecord.any (fun c => decide (c.chargeNumber = charge)) then
    some (.stateRefused, [])
  else
    match s.store.staged with
    | some r =>
      if r.record.chargeNumber = charge then
        if r.record.chargeCode = code then none else some (.codeRefused, [.codeMismatch])
      else some (.stateRefused, [.chargeMissing])
    | none => some (.stateRefused, [.chargeMissing])

/-- Whether a SKIP is refused once the rank and the code agree (TABLE 8-3). -/
def State.skipRefused (s : State) (target : Option Position) : Bool :=
  s.schedule.mode == .safe
    || !((s.currentRecord.bind fun r => target.map fun p => s.isBeyond r p).getD false)

/-- The origin checks of TABLE 8-3, in their order: the first that fails, with the condition it latches. -/
def originRefusal (k : DirectiveKind) (charge code : Nat) (target : Option Position) (s : State) :
    Option (Answer × List Condition) :=
  match k with
  | .start => startRefusal charge code s
  | .hold | .resume | .abort => rankRefusal charge code s
  | .skip => rankRefusal charge code s <|> if s.skipRefused target then some (.stateRefused, []) else none
  | .resetSafe =>
    (if charge = 0 then if s.schedule.position = .idle then none else some (.stateRefused, [])
      else rankRefusal charge code s)
      <|> if s.pins.emergency then some (.stateRefused, []) else none

/-- What the DIRECTIVE slot is set with (R127, R134): 3 transmissions, and a target for SKIP alone. -/
def directiveSetting (k : DirectiveKind) (charge code : Word16) (phase step : Byte) : DirectiveSlot where
  kind := k
  charge := charge
  code := code
  targetPhase := if k = .skip then phase else 0
  targetStep := if k = .skip then step else 0
  remaining := 3
  failed := 0

/-- The directive applied at the originating station (R134). -/
def applyAtOrigin (k : DirectiveKind) (charge code : Nat) (target : Option Position) (s : State) : State :=
  match k with
  | .start => storeStart charge code s
  | _ => applyDirective k target s

/-- A DIRECTIVE request at the originating station, in the order of R133, then R134. -/
def originate (k : DirectiveKind) (charge code : Word16) (phase step : Byte) (s : State) : State × Answer :=
  if s.bus.slots.directive.isSome then (s, .busy)
  else if k = .skip ∧ 7 < phase.toNat then (s, .malformed)
  else
    match originRefusal k charge.toNat code.toNat (skipTarget phase step) s with
    | some (answer, conds) => (latchAll conds s, answer)
    | none =>
      let s1 := applyAtOrigin k charge.toNat code.toNat (skipTarget phase step) s
      (s1.setBus (s1.bus.setDirectiveSlot (directiveSetting k charge code phase step)), .done [])

/-! ## The emergency input (R135) -/

/-- The code of the cause EMERGENCY INPUT (TABLE 8-4). -/
def emergencyCause : Byte := 0x01

/-- An assertion (R135): the SAFE slot is set, the station enters SAFE, SAFE is latched. An input already asserted makes none. -/
def emergencyAssertion (s : State) : State :=
  if s.pins.emergency then s
  else
    let s1 := s.setPins { s.pins with emergency := true }
    enterSafe { station := s.straps.station, cause := emergencyCause } [.safe] (s1.setBus s1.bus.setSafeSlot)

/-- A change of the emergency input to released (R135): the level, and nothing else. -/
def emergencyRelease (s : State) : State := s.setPins { s.pins with emergency := false }

/-! ## The commands -/

/-- START_DIRECTIVE_RECEIVED (R129). -/
def execStartDirectiveReceived (run : List LineByte) (s : State) : Host.Outcome State Fault Refusal :=
  .next (takeRun .directive (ownDirective .start) run s)

/-- HOLD_DIRECTIVE_RECEIVED (R130). -/
def execHoldDirectiveReceived (run : List LineByte) (s : State) : Host.Outcome State Fault Refusal :=
  .next (takeRun .directive (ownDirective .hold) run s)

/-- RESUME_DIRECTIVE_RECEIVED (R130). -/
def execResumeDirectiveReceived (run : List LineByte) (s : State) : Host.Outcome State Fault Refusal :=
  .next (takeRun .directive (ownDirective .resume) run s)

/-- SKIP_DIRECTIVE_RECEIVED (R131). -/
def execSkipDirectiveReceived (run : List LineByte) (s : State) : Host.Outcome State Fault Refusal :=
  .next (takeRun .directive (ownDirective .skip) run s)

/-- ABORT_DIRECTIVE_RECEIVED (R132). -/
def execAbortDirectiveReceived (run : List LineByte) (s : State) : Host.Outcome State Fault Refusal :=
  .next (takeRun .directive (ownDirective .abort) run s)

/-- RESET_SAFE_DIRECTIVE_RECEIVED (R138). -/
def execResetSafeDirectiveReceived (run : List LineByte) (s : State) : Host.Outcome State Fault Refusal :=
  .next (takeRun .directive (ownDirective .resetSafe) run s)

/-- EMERGENCY_ASSERTION (R135). -/
def execEmergencyAssertion (s : State) : Host.Outcome State Fault Refusal := .next (emergencyAssertion s)

/-- EMERGENCY_RELEASE (R135). -/
def execEmergencyRelease (s : State) : Host.Outcome State Fault Refusal := .next (emergencyRelease s)

end Sys2Proof.Machine
end

