-- ==== Sys2Proof/Machine/BusUnit.lean ====
section
/-! DEFINITION. The kiln bus controller's transmit side and its line (chapter 3): building a frame, attempts, the spacing
and line-blocked timers, quiet gaps, start bits, and the report timer. -/

namespace Sys2Proof.Machine

/-! ## Building a frame (R41, R48) -/

/-- A frame of a kind from the station, with a header charge number and a payload (TABLE 3-2). -/
def State.frameOf (s : State) (k : FrameKind) (charge : Nat) (payload : List Byte) : Frame :=
  { kind := k.code, kiln := s.straps.kiln, station := s.straps.station, charge := charge, payload := payload }

/-- The payload of a DIRECTIVE frame (TABLE 8-1). -/
def directivePayload (d : DirectiveSlot) : List Byte :=
  [byteOf d.kind.code] ++ be16 d.code.toNat ++ [d.targetPhase, d.targetStep]

/-- The frame that a slot's attempt carries, built from the blocks as they stand (R48); none for an empty slot. -/
def State.slotFrame (s : State) (k : FrameKind) : Option Frame :=
  match k with
  | .safe => s.bus.slots.safe.map fun _ => s.frameOf .safe s.currentNumber [emergencyCause]
  | .directive => s.bus.slots.directive.map fun d => s.frameOf .directive d.charge.toNat (directivePayload d)
  | .offer =>
    s.bus.slots.offer.bind fun o =>
      (s.store.inRank o.rank).map fun r => s.frameOf .offer r.record.chargeNumber (encodeRecord r.record)
  | .report => s.bus.slots.report.map fun _ => s.frameOf .report s.currentNumber (reportPayload s.reportData)

/-! ## Attempts (R48 to R52) -/

/-- An attempt begins (R47, R48): the eligible slot of the smallest required quiet time drives its frame, whose first start
bit stops the line-quiet count at 0 and begins a receive run. With no slot eligible, an attempt running, or the
address-clash latch set, none begins. -/
def attemptBegin (s : State) : State :=
  if s.bus.clash || s.bus.attempt.isSome then s
  else
    match s.bus.slots.next s.straps.station with
    | none => s
    | some (k, _) =>
      match s.slotFrame k with
      | none => s
      | some f =>
        s.setBus
          { s.bus with
            attempt := some { kind := k, bytes := frameBytes f, released := false }
            quiet := 0
            byteBits := busBits (frameBytes f)
            levels := []
            runOpen := true
            runBytes := some [] }

/-- The time between two transmissions of a directive (R52). -/
def spacingTime : Nat := halfSecond

/-- The DIRECTIVE slot after a transmission, completed or dropped (R52): the remaining count falls by one, and at 0 the slot is
emptied. -/
def afterTransmission (sl : Slots) : Slots :=
  match sl.directive with
  | none => sl
  | some d =>
    if d.remaining ≤ 1 then { sl with directive := none, spacing := 0 }
    else { sl with directive := some { d with remaining := d.remaining - 1, failed := 0 }, spacing := spacingTime }

/-- The slots after a frame of a kind is done with, sent or dropped (R50, R51, R52). -/
def Slots.finished (sl : Slots) : FrameKind → Slots
  | .safe => { sl with safe := none }
  | .directive => afterTransmission sl
  | .offer => { sl with offer := none }
  | .report => { sl with report := none }

/-- The slots with a failed-attempt count of a set slot. -/
def Slots.setFailed (sl : Slots) (n : Nat) : FrameKind → Slots
  | .safe => { sl with safe := sl.safe.map fun _ => n }
  | .directive => { sl with directive := sl.directive.map fun d => { d with failed := n } }
  | .offer => { sl with offer := sl.offer.map fun o => { o with failed := n } }
  | .report => { sl with report := sl.report.map fun _ => n }

/-- The line at the end of an own byte: no attempt runs, and the line-quiet count begins from 0 (R39, R49). -/
def Bus.lineReleased (b : Bus) : Bus := { b with attempt := none, quiet := 0, byteBits := 0, levels := [] }

/-- The 60 s of the re-offer holdoff timer (R97, R100). -/
def holdoffTime : Nat := seconds 60

/-- An attempt completes (R50): its slot is dealt with, and an own OFFER loads the re-offer holdoff timer. An OFFER slot that
was emptied and set again while the attempt ran is emptied by the completion (log entry 11). -/
def attemptComplete (s : State) : State :=
  match s.bus.attempt with
  | none => s
  | some a =>
    let b := { s.bus.lineReleased with ownSent := some a.bytes }
    let s1 := s.setBus (b.withSlots (b.slots.finished a.kind))
    if a.kind = .offer then s1.setStore { s1.store with holdoff := holdoffTime } else s1

/-- An attempt fails at the end of its byte (R49, R51): the slot's failed-attempt count rises, and at the attempt limit the
frame is dropped with FRAME DROPPED. A slot emptied while the attempt ran has no count to raise, and one set again since has
its new count raised (log entry 11). -/
def attemptFail (s : State) : State :=
  match s.bus.attempt with
  | none => s
  | some a =>
    let b := s.bus.lineReleased
    match b.slots.failedOf a.kind with
    | none => s.setBus b
    | some n =>
      if n + 1 < a.kind.attemptLimit then s.setBus (b.withSlots (b.slots.setFailed (n + 1) a.kind))
      else latch .frameDropped (s.setBus (b.withSlots (b.slots.finished a.kind)))

/-! ## Timers and the line (R39, R52, R54, R56) -/

/-- The DIRECTIVE spacing timer expires (R52). -/
def spacingTimerExpiry (s : State) : State := s.setBus (s.bus.withSlots { s.bus.slots with spacing := 0 })

/-- The count at which a quiet gap falls (R39). -/
def gapCount : Nat := 40

/-- A quiet gap (R39, R54): the line-quiet count has reached 40. While an own attempt drives the line there is none. -/
def quietGap (s : State) : State :=
  if s.bus.attempt.isSome then s
  else s.setBus { s.bus.runOver.gap with quiet := max s.bus.quiet gapCount }

/-- The line-blocked timer expires (R54), when it is running. -/
def lineBlockedTimerExpiry (s : State) : State :=
  if s.bus.blockedTimer = 0 then s
  else latch .lineBlocked (s.setBus { s.bus with blockedTimer := 0, lineBlocked := true })

/-- The 10 s of the report timer (R56). -/
def reportTime : Nat := seconds 10

/-- The report timer expires (R56): it is loaded again and the REPORT slot is set. -/
def reportTimerExpiry (s : State) : State :=
  (s.setPeers { s.peers with reportTimer := reportTime }).setBus s.bus.setReportSlot

/-- A start bit that its row brings (R39, R43), its 11 bit times still to come. The slots are not touched (R47). The bytes of
the run come with the row that ends it (log entry 12); a start bit of the station's own attempt leaves its byte as it is. -/
def startBitSeen (s : State) : State :=
  if s.bus.attempt.isSome then s.setBus { s.bus.startBit s.bus.byteBits with levels := s.bus.levels }
  else s.setBus { s.bus.startBit byteTime with runBytes := none }

/-- An attempt that its row fails: what other stations drove is told by the row that ends the run (log entry 12). -/
def attemptFailTold (s : State) : State :=
  if s.bus.attempt.isSome then (attemptFail s).setBus { (attemptFail s).bus with runBytes := none } else s

/-! ## The commands -/

/-- ATTEMPT_BEGIN (R48). -/
def execAttemptBegin (s : State) : Host.Outcome State Fault Refusal := .next (attemptBegin s)

/-- ATTEMPT_FAIL (R51). -/
def execAttemptFail (s : State) : Host.Outcome State Fault Refusal := .next (attemptFailTold s)

/-- ATTEMPT_COMPLETE (R50). -/
def execAttemptComplete (s : State) : Host.Outcome State Fault Refusal := .next (attemptComplete s)

/-- SPACING_TIMER_EXPIRY (R52). -/
def execSpacingTimerExpiry (s : State) : Host.Outcome State Fault Refusal := .next (spacingTimerExpiry s)

/-- QUIET_GAP (R54). -/
def execQuietGap (s : State) : Host.Outcome State Fault Refusal := .next (quietGap s)

/-- LINE_BLOCKED_TIMER_EXPIRY (R54). -/
def execLineBlockedTimerExpiry (s : State) : Host.Outcome State Fault Refusal := .next (lineBlockedTimerExpiry s)

/-- REPORT_TIMER_EXPIRY (R56). -/
def execReportTimerExpiry (s : State) : Host.Outcome State Fault Refusal := .next (reportTimerExpiry s)

/-- START_BIT_SEEN (R39). -/
def execStartBitSeen (s : State) : Host.Outcome State Fault Refusal := .next (startBitSeen s)

end Sys2Proof.Machine
end

