-- ==== Sys2Proof/Machine/FrontEndUnit.lean ====
section
/-! DEFINITION. The probe front end's events (chapter 1): windows, sweep completions, the sweep-interval and calibration
timers. -/

namespace Sys2Proof.Machine

/-! ## Windows (R2, R4, R5) -/

/-- The source the multiplexer selects in a window (1.1). -/
inductive Source where
  | lowReference
  | highReference
  | channel (c : Nat)
deriving DecidableEq, Repr

/-- The windows of a sweep: 8 of a calibration sweep, 32 of a probe sweep (R4, R5). -/
def SweepState.windows : SweepState → Nat
  | .idleFe => 0
  | .calSweep => 8
  | .probeSweep => 32

/-- The source connected to the converter and excited, four windows to a source; none in IDLE_FE and once the last window
has ended (R1, R2, TABLE 1-2). -/
def FrontEnd.excitedSource (f : FrontEnd) : Option Source :=
  let w := f.samples.length
  if w < f.sweep.windows then
    match f.sweep with
    | .idleFe => none
    | .calSweep => some (if w < 4 then .lowReference else .highReference)
    | .probeSweep => some (.channel (w / 4 + 1))
  else none

/-- Whether the excitation of the window that runs is positive: the polarities of a source are +, -, +, - (R4, R5). -/
def FrontEnd.excitedPositive (f : FrontEnd) : Bool := decide (f.samples.length % 2 = 0)

/-- The sample the converter reports for a grade: it saturates at 300 and 1400 (R2). -/
def saturate (grade : Nat) : Nat := max 300 (min 1400 grade)

/-- Whether the sweep in progress has a window that has not ended. -/
def FrontEnd.windowRuns (f : FrontEnd) : Bool := decide (f.samples.length < f.sweep.windows)

/-- Whether the last window of the sweep in progress has ended, so that the sweep completes. -/
def FrontEnd.sweepDone (f : FrontEnd) (k : SweepState) : Bool :=
  f.sweep == k && decide (f.samples.length = k.windows)

/-- The front end after the end of a window (R2): the sample is stored, and the next window, if any, begins. -/
def FrontEnd.windowEnd (f : FrontEnd) (grade : Nat) : FrontEnd :=
  let samples := f.samples ++ [saturate grade]
  { f with samples := samples, windowTimer := if samples.length < f.sweep.windows then halfSecond else 0 }

/-- The end of a measurement window (R2); with no window running there is none to end. -/
def measurementWindowEnd (grade : Nat) (s : State) : State :=
  if s.frontEnd.windowRuns then s.setFrontEnd (s.frontEnd.windowEnd grade) else s

/-! ## Calibration (R10, R11) -/

/-- The low-reference and the high-reference samples of a calibration sweep (R5). -/
def lowSamples (samples : List Nat) : List Nat := samples.take 4

/-- The high-reference samples of a calibration sweep (R5). -/
def highSamples (samples : List Nat) : List Nat := samples.drop 4

/-- Whether a calibration sweep succeeds (R10). -/
def calibrationOk (samples : List Nat) : Bool :=
  inRange 675 725 (meanOfFour (lowSamples samples)) && inRange 975 1025 (meanOfFour (highSamples samples))
    && decide (spreadOf (lowSamples samples) ≤ 16) && decide (spreadOf (highSamples samples) ≤ 16)

/-- The 60 minutes of the calibration timer (R8). -/
def calibrationInterval : Nat := seconds 3600

/-- The reference pair, the latch and the calibration timer after a calibration sweep (R8, R10, R11). -/
def FrontEnd.calibrated (f : FrontEnd) : FrontEnd :=
  if calibrationOk f.samples then
    { f with
      mLo := meanOfFour (lowSamples f.samples), mHi := meanOfFour (highSamples f.samples), refFault := false
      calTimer := calibrationInterval }
  else { f with refFault := true, calTimer := calibrationInterval }

/-- The completion of a calibration sweep (R10, R11): the judgement, the re-marking of a failure, the CALIBRATION record,
REFERENCE FAULT, and the probe sweep that follows at once. -/
def calibrationSweepComplete (s : State) : State :=
  if s.frontEnd.sweepDone .calSweep then
    let ok := calibrationOk s.frontEnd.samples
    let s1 := s.setFrontEnd s.frontEnd.calibrated
    let s2 := if ok then s1 else remarkReadings s1
    let s3 :=
      writeTrace
        (.calibration ok (meanOfFour (lowSamples s.frontEnd.samples)) (meanOfFour (highSamples s.frontEnd.samples))) s2
    startProbeSweep (if ok then s3 else latch .referenceFault s3)
  else s

/-! ## Completion of a probe sweep (R12, R75) -/

/-- The conversion of the sweep's samples into the own readings table (R19). -/
def convertReadings (s : State) : State := s.setReadings (convertSweep s.conversionInputs s.frontEnd.samples)

/-- The front end leaves PROBE_SWEEP (R3). -/
def leaveProbeSweep (s : State) : State :=
  if s.frontEnd.calRequest then startCalSweep s
  else s.setFrontEnd { s.frontEnd with sweep := .idleFe, windowTimer := 0 }

/-- The completion of a probe sweep, in the order of R75. -/
def probeSweepComplete (s : State) : State :=
  if s.frontEnd.sweepDone .probeSweep then
    leaveProbeSweep (writeOwnEntry (judgePicture (latchPictureShort (buildPicture (convertReadings s)))))
  else s

/-! ## Timers (R6, R8) -/

/-- The sweep-interval timer reaches 0 (R6): in IDLE_FE a probe sweep starts; within PROBE_SWEEP no expiry falls. -/
def sweepIntervalExpiry (s : State) : State :=
  match s.frontEnd.sweep with
  | .idleFe => startProbeSweep s
  | .calSweep => s.setFrontEnd { s.frontEnd with intervalTimer := 0 }
  | .probeSweep => s

/-- The calibration timer reaches 0 (R8). -/
def calibrationTimerExpiry (s : State) : State :=
  requestCalibration (s.setFrontEnd { s.frontEnd with calTimer := 0 })

/-! ## The commands -/

/-- MEASUREMENT_WINDOW_END (R2). -/
def execMeasurementWindowEnd (grade : Nat) (s : State) : Host.Outcome State Fault Refusal :=
  .next (measurementWindowEnd grade s)

/-- CALIBRATION_SWEEP_COMPLETE (R10). -/
def execCalibrationSweepComplete (s : State) : Host.Outcome State Fault Refusal := .next (calibrationSweepComplete s)

/-- PROBE_SWEEP_COMPLETE (R12). -/
def execProbeSweepComplete (s : State) : Host.Outcome State Fault Refusal := .next (probeSweepComplete s)

/-- SWEEP_INTERVAL_EXPIRY (R6). -/
def execSweepIntervalExpiry (s : State) : Host.Outcome State Fault Refusal := .next (sweepIntervalExpiry s)

/-- CALIBRATION_TIMER_EXPIRY (R8). -/
def execCalibrationTimerExpiry (s : State) : Host.Outcome State Fault Refusal := .next (calibrationTimerExpiry s)

end Sys2Proof.Machine
end

