-- ==== Sys2Proof/Machine/SensorUnit.lean ====
section
/-! DEFINITION. The sensor converter's events (1.6), the control period with the climate run and the exit tests, and the
fan-direction input. -/

namespace Sys2Proof.Machine

/-! ## Samples (R14, R15) -/

/-- Whether a sample is valid (R14). -/
def sampleValid (v : Int) : Bool := decide (-400 ≤ v) && decide (v ≤ 1300)

/-- The 600 s of a hold timer (R15). -/
def holdTime : Nat := seconds 600

/-- A sensor after a sample (TABLE 1-4). -/
def SensorChannel.sampled (c : SensorChannel) (v : Int) : SensorChannel :=
  if sampleValid v then { state := .valid, lastValid := some v, holdTimer := 0 }
  else
    match c.state with
    | .awaiting => { c with state := .lost }
    | .valid => { c with state := .holding, holdTimer := holdTime }
    | .holding | .lost => c

/-- Whether a sample latches the sensor's fault condition: a faulty one from AWAITING or VALID (TABLE 1-4). -/
def SensorChannel.faults (c : SensorChannel) (v : Int) : Bool :=
  !sampleValid v && (c.state == .awaiting || c.state == .valid)

/-- Whether a sample takes the sensor into LOST: a faulty first one (TABLE 1-4). -/
def SensorChannel.loses (c : SensorChannel) (v : Int) : Bool := !sampleValid v && c.state == .awaiting

/-! ## Loss (R17, R153, R154) -/

/-- The dry-bulb's loss apart from HEAT CUTOFF's latching (R17, R153, R155): the table is re-marked, the deviation count is
0, and on a ZONE station heat and I are 0. -/
def dryBulbLoss (s : State) : State :=
  let s1 := remarkReadings s
  match s.straps.role with
  | .zone => s1.setClimate { s1.climate with heat := 0, integral := 0, deviation := 0 }
  | .probe => s1.setClimate { s1.climate with deviation := 0 }

/-- The conditions of a dry-bulb loss (R17): HEAT CUTOFF on a ZONE station. -/
def dryBulbLossConditions (s : State) : List Condition :=
  match s.straps.role with
  | .zone => [.heatCutoff]
  | .probe => []

/-- The wet-bulb's loss (R17, R154): in LOOPS on a ZONE station vent and spray are 0. -/
def wetBulbLoss (s : State) : State :=
  match s.straps.role, s.climate.regime with
  | .zone, .loops => s.setClimate { s.climate with vent := 0, spray := 0 }
  | _, _ => s

/-! ## The control period (R14, R147) -/

/-- The dry-bulb's sample (R14, R15), with the loss of R17. -/
def sampleDry (v : Int) (s : State) : State :=
  let s1 := s.setSensors { s.sensors with dry := s.sensors.dry.sampled v }
  if s.sensors.dry.loses v then dryBulbLoss s1 else s1

/-- The conditions that the dry-bulb's sample latches (R15, R17). -/
def dryConditions (v : Int) (s : State) : List Condition :=
  (if s.sensors.dry.faults v then [.temperatureFault] else [])
    ++ (if s.sensors.dry.loses v then dryBulbLossConditions s else [])

/-- The wet-bulb's sample on a ZONE station (R14, R15), with the loss of R17. -/
def sampleWet (v : Int) (s : State) : State :=
  match s.straps.role with
  | .zone =>
    let s1 := s.setSensors { s.sensors with wet := s.sensors.wet.sampled v }
    if s.sensors.wet.loses v then wetBulbLoss s1 else s1
  | .probe => s

/-- The conditions that the wet-bulb's sample latches (R15). -/
def wetConditions (v : Int) (s : State) : List Condition :=
  match s.straps.role with
  | .zone => if s.sensors.wet.faults v then [.wetBulbFault] else []
  | .probe => []

/-- The sampling of a control period: both sensors, then the conditions in the order of TABLE 10-1 (R14, R15, R159). -/
def samplePeriod (dry wet : Int) (s : State) : State :=
  latchAll (dryConditions dry s ++ wetConditions wet s) (sampleWet wet (sampleDry dry s))

/-- The 4 s of the control period (R14). -/
def controlTime : Nat := seconds 4

/-- The exits that a control period tests: warm-up and cool (R113, R120). -/
def periodExits (s : State) : State :=
  match s.schedule.position with
  | .warmup => testWarmup s
  | .cool => testCool s
  | _ => s

/-- One control period (R14, R147): the timer is loaded again, the sensors are sampled, the climate loops run, the deviation
is judged, and the warm-up or cool exit is tested (log entry 14). -/
def controlPeriod (dry wet : Int) (s : State) : State :=
  periodExits
    (judgeDeviation
      (climatePeriod (samplePeriod dry wet (s.setSensors { s.sensors with controlTimer := controlTime }))))

/-- A hold timer's expiry (R15, R16): the sensor goes from HOLDING to LOST; in another state there is none. HEAT CUTOFF is latched
after that, so that its CONDITION record carries no dry-bulb (log entry 33, DESIGN CHOICE). -/
def holdTimerExpiry (sensor : Sensor) (s : State) : State :=
  match sensor with
  | .dryBulb =>
    if s.sensors.dry.state = .holding then
      latchAll (dryBulbLossConditions s)
        (dryBulbLoss
          (s.setSensors { s.sensors with dry := { s.sensors.dry with state := .lost, holdTimer := 0 } }))
    else s
  | .wetBulb =>
    if s.sensors.wet.state = .holding then
      wetBulbLoss (s.setSensors { s.sensors with wet := { s.sensors.wet with state := .lost, holdTimer := 0 } })
    else s

/-- The deviation count reaches its limit (R155) while it is in force; at the limit already, the excursion has latched. The row
names the moment at which the limit is reached, so the band is not tested here against the dry-bulb that stands: the row
itself tells that the period's sample lay outside it (log entry 7, DESIGN CHOICE). -/
def deviationLimit (s : State) : State :=
  match s.currentRecord with
  | some r =>
    if s.deviationInForce ∧ s.climate.deviation < deviationLimitOf r then
      latch .climateDeviation (s.setClimate { s.climate with deviation := deviationLimitOf r })
    else s
  | none => s

/-- The settle timer's expiry (R152). -/
def settleTimerExpiry (s : State) : State := s.setClimate { s.climate with settleTimer := 0 }

/-! ## Fan reversals (R115, R151) -/

/-- A fan reversal at the schedule controller (R115): in DRYING on a step of REVERSALS basis, in RUN, the step timer falls. -/
def countReversal (s : State) : State :=
  match s.currentStep with
  | some st =>
    if st.basis = .reversals ∧ s.schedule.mode = .run then
      s.setSchedule { s.schedule with stepTimer := s.schedule.stepTimer - 1 }
    else s
  | none => s

/-- A fan reversal at the climate controller (R151): on a ZONE station the settle timer is loaded. -/
def startSettle (s : State) : State :=
  match s.straps.role with
  | .zone =>
    s.setClimate { s.climate with settleTimer := seconds ((s.currentRecord.map (·.settleWindow)).getD 0) }
  | .probe => s

/-- A change of the fan-direction input (R115, R151). -/
def fanReversal (s : State) : State := startSettle (countReversal (s.setPins { s.pins with fan := !s.pins.fan }))

/-! ## The commands -/

/-- CONTROL_PERIOD (R14). -/
def execControlPeriod (dry wet : Int) (s : State) : Host.Outcome State Fault Refusal := .next (controlPeriod dry wet s)

/-- HOLD_TIMER_EXPIRY (R16). -/
def execHoldTimerExpiry (sensor : Sensor) (s : State) : Host.Outcome State Fault Refusal :=
  .next (holdTimerExpiry sensor s)

/-- DEVIATION_LIMIT (R155). -/
def execDeviationLimit (s : State) : Host.Outcome State Fault Refusal := .next (deviationLimit s)

/-- SETTLE_TIMER_EXPIRY (R152). -/
def execSettleTimerExpiry (s : State) : Host.Outcome State Fault Refusal := .next (settleTimerExpiry s)

/-- FAN_REVERSAL (R115). -/
def execFanReversal (s : State) : Host.Outcome State Fault Refusal := .next (fanReversal s)

end Sys2Proof.Machine
end

