-- ==== Sys2Proof/Machine/Service.lean ====
section
/-! DEFINITION. The service port (chapter 12): frames, the request slot, every request's owner, and the bytes of every
response (TABLE 12-4). -/

namespace Sys2Proof.Machine

/-! ## Frames and answers (R173) -/

/-- The bytes of a service frame (TABLE 12-1). -/
def serviceFrame (kind : Byte) (payload : List Byte) : List Byte :=
  [0x5A#8, kind, byteOf payload.length] ++ payload ++ be16 (crc ([kind, byteOf payload.length] ++ payload)).toNat

/-- The payload of a response: the status of TABLE 12-2, and what follows it. -/
def Answer.payload : Answer → List Byte
  | .done data => byteOf 0 :: data
  | .malformed => [byteOf 1]
  | .range field => [byteOf 2, byteOf field]
  | .stateRefused => [byteOf 3]
  | .codeRefused => [byteOf 4]
  | .busy => [byteOf 5]

/-- The kind of a response: its request's with the top bit set (R173). -/
def responseKind (kind : Byte) : Byte := kind ||| 0x80#8

/-- A response that begins. -/
def responseOf (kind : Byte) (a : Answer) : Response where
  bytes := serviceFrame (responseKind kind) a.payload
  bitsLeft := serviceBits (serviceFrame (responseKind kind) a.payload)

/-- The bit on the transmit wire at the coming bit time (R172, R174): that of the response whose turn it is, 1 when the
transmitter is silent. -/
def Port.sends (p : Port) : Bool :=
  match p.sending with
  | some r => (serviceFrameBits r.bytes).getD (serviceBits r.bytes - r.bitsLeft) true
  | none => true

/-- A response begun at the transmitter (R174). -/
def beginResponse (kind : Byte) (a : Answer) (s : State) : State :=
  s.setPort { s.port with sending := some (responseOf kind a) }

/-! ## The request slot (R174) -/

/-- Whether the transmitter is idle: no response is being sent and no BUSY answer waits (R174). -/
def Port.idle (p : Port) : Bool := p.sending.isNone && p.busy.isEmpty

/-- The largest number of kinds in the BUSY list (R174). -/
def busyMost : Nat := 4

/-- A request that completes (R174): with the transmitter idle its owner executes it and its response begins; occupied, its
kind joins a BUSY list that has room, and the request is not executed. -/
def request (kind : Byte) (owner : State → State × Answer) (s : State) : State :=
  if s.port.idle then beginResponse kind (owner s).2 (owner s).1
  else if s.port.busy.length < busyMost then s.setPort { s.port with busy := s.port.busy ++ [kind] }
  else s

/-- A response ends (R174): the next BUSY answer owed begins, or the transmitter becomes idle. -/
def responseEnd (s : State) : State :=
  match s.port.sending, s.port.busy with
  | none, _ => s
  | some _, [] => s.setPort { s.port with sending := none }
  | some _, k :: rest => s.setPort { s.port with sending := some (responseOf k .busy), busy := rest }

/-! ## Response data (TABLE 12-4) -/

/-- A truth value as one byte. -/
def boolByte (b : Bool) : Byte := byteOf b.toNat

/-- An optional reading with its identity: absent as 0xFFFF, station 0, channel 0 (R177). -/
def extremeData (x : Option Extreme) : List Byte :=
  optMoisture (x.map (·.mc)) ++ [byteOf ((x.map (·.station)).getD 0), byteOf ((x.map (·.channel)).getD 0)]

/-- READ PICTURE (R87, R177). -/
def pictureData (p : Option Picture) : List Byte :=
  match p with
  | none =>
    [byteOf 0] ++ be16 0 ++ be16 0 ++ be16 0 ++ [byteOf 0] ++ extremeData none ++ extremeData none
      ++ optMoisture none ++ optMoisture none ++ optMoisture none ++ optMoisture none
  | some p =>
    [byteOf 1] ++ be16 p.charge ++ be16 p.quorum ++ be16 p.basis ++ [boolByte p.sufficient] ++ extremeData p.wettest
      ++ extremeData p.driest ++ optMoisture p.mean ++ optMoisture p.controlling ++ optMoisture p.wetCount
      ++ optMoisture p.dryCount

/-- One reading of READ READINGS. -/
def readingData (r : Reading) : List Byte :=
  [byteOf r.channel] ++ optMoisture r.mc ++ beS16 r.grade ++ be16 r.spread ++ [r.flags.toByte] ++ optTemp r.dryBulb

/-- READ READINGS (R36). -/
def readingsData (rs : List Reading) : List Byte := byteOf rs.length :: rs.flatMap readingData

/-- The standing code (TABLE 12-4). -/
def standingCode : Standing → Nat
  | .matched => 1
  | .foreign => 2
  | .unlisted => 3

/-- The state code of an entry (TABLE 12-4). -/
def entryStateCode : EntryState → Nat
  | .fresh => 1
  | .stale => 2

/-- READ PEER (R71, R177): one entry with its age and standing, OWN for the own entry. -/
def peerData (s : State) (station : Nat) : List Byte :=
  match s.peers.entry station with
  | none => [byteOf station, byteOf 0]
  | some e =>
    [byteOf station, byteOf (entryStateCode e.state)] ++ be16 (min 65535 (secondsPassed e.age))
      ++ [byteOf (if station = s.straps.station then 4 else standingCode (standing s.store.current station e.data)),
          byteOf (roleCode e.data.role)]
      ++ be16 e.data.charge ++ be16 e.data.check.toNat
      ++ [byteOf (phaseCode e.data.position), byteOf (stepCode e.data.position), byteOf (modeCode e.data.mode)]
      ++ be16 e.data.basis ++ optMoisture e.data.controlling ++ optTemp e.data.dryBulb
      ++ [byteOf e.data.readings.length] ++ e.data.readings.flatMap encodeReported

/-- The regime code (TABLE 12-4). -/
def regimeCode : Regime → Nat
  | .off => 0
  | .loops => 1
  | .cooling => 2
  | .safe => 3

/-- The sensor state code (TABLE 12-4). -/
def sensorCode : SensorState → Nat
  | .awaiting => 0
  | .valid => 1
  | .holding => 2
  | .lost => 3

/-- READ CLIMATE (R157): an absent depression is 0xFFFF (R177). -/
def climateData (s : State) : List Byte :=
  [byteOf (roleCode s.straps.role), byteOf (regimeCode s.climate.regime)] ++ optTemp s.climate.targetDry
    ++ optMoisture s.climate.targetDep ++ optTemp s.climate.spActive ++ optMoisture s.climate.activeDep
    ++ beS16 s.climate.integral ++ be16 s.climate.heat ++ be16 s.climate.vent ++ be16 s.climate.spray
    ++ be16 (secondsLeft s.climate.settleTimer) ++ be16 s.climate.deviation
    ++ [byteOf (sensorCode s.sensors.dry.state)] ++ optTemp s.sensors.dry.lastValid
    ++ [byteOf (sensorCode s.sensors.wet.state)] ++ optTemp s.sensors.wet.lastValid

/-- The number and the check of a rank, 0 and 0 for an empty one (R176). -/
def rankData (r : Option RankedRecord) : List Byte :=
  be16 ((r.map (·.record.chargeNumber)).getD 0) ++ be16 ((r.map RankedRecord.check).getD 0).toNat

/-- The basis byte of the step timer: 0 outside DRYING (R177). -/
def State.basisByte (s : State) : Byte := byteOf ((s.currentStep.map fun st => basisCode st.basis).getD 0)

/-- READ STATE (R176). -/
def stateData (s : State) : List Byte :=
  [byteOf (roleCode s.straps.role), byteOf s.straps.station, byteOf s.straps.kiln,
   byteOf (phaseCode s.schedule.position), byteOf (stepCode s.schedule.position), byteOf (modeCode s.schedule.mode)]
    ++ be16 s.schedule.stepTimer ++ [s.basisByte] ++ be16 s.schedule.overtime ++ be16 s.schedule.conditionTimer
    ++ be16 (secondsLeft s.schedule.gatherTimer) ++ be16 s.schedule.minute ++ rankData s.store.staged
    ++ rankData s.store.current
    ++ [byteOf ((s.schedule.safeOrigin.map (·.station)).getD 0), (s.schedule.safeOrigin.map (·.cause)).getD 0,
        boolByte s.frontEnd.refFault, boolByte s.bus.clash, boolByte s.bus.lineBlocked]

/-- The level byte: 0 NONE, else the class bit plus 1 (TABLE 12-4). -/
def levelCode (l : Option CondClass) : Nat := (l.map fun k => k.bit + 1).getD 0

/-- The conditions latched, in the order of TABLE 10-1, with their stamps. -/
def Attention.latchedList (a : Attention) : List (Condition × Nat) :=
  Condition.all.filterMap fun c => (a.stamp c).map fun t => (c, t)

/-- The latched set: condition n is bit n - 1, the first byte holding conditions 1 to 8 (R177). -/
def latchedSet (a : Attention) : List Byte :=
  let bits := (Condition.all.map fun c => if a.latched c then 2 ^ c.index.val else 0).foldl (· + ·) 0
  [byteOf bits, byteOf (bits / 256), byteOf (bits / 65536)]

/-- READ CONDITIONS (R166). -/
def conditionsData (a : Attention) : List Byte :=
  [byteOf (levelCode a.level), a.mask.setWidth 8] ++ latchedSet a
    ++ a.latchedList.flatMap fun x => byteOf (x.1.index.val + 1) :: be16 x.2

/-- The cause code (R177). -/
def causeCode : Cause → Nat
  | .own => 0
  | .followed => 1
  | .directed => 2

/-- The kind byte and the extra bytes of a trace record (R177). -/
def traceKindData : TraceKind → Byte × List Byte
  | .snapshot => (byteOf 1, [0, 0, 0, 0, 0])
  | .step c => (byteOf 2, [byteOf (causeCode c), 0, 0, 0, 0])
  | .phase c => (byteOf 3, [byteOf (causeCode c), 0, 0, 0, 0])
  | .mode => (byteOf 4, [0, 0, 0, 0, 0])
  | .condition c => (byteOf 5, [byteOf (c.index.val + 1), 0, 0, 0, 0])
  | .calibration ok lo hi => (byteOf 6, [boolByte (!ok)] ++ be16 lo ++ be16 hi)
  | .abort => (byteOf 7, [0, 0, 0, 0, 0])

/-- One record of READ TRACE (TABLE 12-4). -/
def traceRecordData (r : TraceRecord) : List Byte :=
  [(traceKindData r.kind).1] ++ be16 r.minute
    ++ [byteOf (phaseCode r.position), byteOf (stepCode r.position), byteOf (modeCode r.mode)] ++ be16 r.basis
    ++ optMoisture r.controlling ++ extremeData r.wettest ++ optMoisture r.driest ++ optTemp r.dryBulb
    ++ optTemp r.wetBulb ++ (traceKindData r.kind).2

/-- The largest number of records a READ TRACE takes (R171). -/
def readMost : Nat := 6

/-- READ TRACE (R171): the records the response carries. -/
def traceData (rs : List TraceRecord) : List Byte :=
  byteOf (rs.take readMost).length :: (rs.take readMost).flatMap traceRecordData

/-! ## Owners -/

/-- LOAD CHARGE at the store, in the order of R95. -/
def ownerLoadCharge (payload : List Byte) (s : State) : State × Answer :=
  match validateEncoding payload with
  | .malformed => (s, .malformed)
  | .range k => (s, .range k)
  | .valid r =>
    if s.currentRecord.any fun c => decide (c.chargeNumber = r.chargeNumber) then (s, .stateRefused)
    else if s.store.staged.isSome then (s, .busy)
    else ((s.setStore { s.store with staged := some (ranked r) }).setBus (s.bus.setOfferSlot .staged), .done [])

/-- CLEAR STAGED at the store (R96). -/
def ownerClearStaged (s : State) : State × Answer :=
  ((s.setStore { s.store with staged := none }).setBus (s.bus.emptyOffer .staged), .done [])

/-- CALIBRATE at the front end (R9). -/
def ownerCalibrate (s : State) : State × Answer :=
  if s.frontEnd.calRequest then (s, .busy) else (requestCalibration s, .done [])

/-- READ PICTURE at the picture unit (R87). -/
def ownerReadPicture (s : State) : State × Answer := (s, .done (pictureData s.picture))

/-- READ READINGS at the own readings table (R36). -/
def ownerReadReadings (s : State) : State × Answer := (s, .done (readingsData s.readings))

/-- READ PEER at the peer table (R71), with the port check of TABLE 12-3. -/
def ownerReadPeer (station : Byte) (s : State) : State × Answer :=
  if inRange 1 32 station.toNat then (s, .done (peerData s station.toNat)) else (s, .range 1)

/-- READ CLIMATE at the climate controller (R157). -/
def ownerReadClimate (s : State) : State × Answer := (s, .done (climateData s))

/-- READ STATE (R176). -/
def ownerReadState (s : State) : State × Answer := (s, .done (stateData s))

/-- READ CONDITIONS at the attention unit (R166). -/
def ownerReadConditions (s : State) : State × Answer := (s, .done (conditionsData s.attention))

/-- Whether the cause of a persistent condition holds (R160); the other conditions have none. -/
def State.causeHolds (s : State) : Condition → Bool
  | .safe => s.schedule.mode == .safe
  | .addressClash => s.bus.clash
  | .wetBulbFault => s.sensors.wet.state == .holding || s.sensors.wet.state == .lost
  | .referenceFault => s.frontEnd.refFault
  | .temperatureFault => s.sensors.dry.state == .holding || s.sensors.dry.state == .lost
  | .lineBlocked => s.bus.lineBlocked
  | _ => false

/-- The conditions a CLEAR CONDITIONS request clears (R164). -/
def State.clearable (s : State) (classes : Byte) : List Condition :=
  Condition.all.filter fun c => s.attention.latched c && classSetHas classes c.cls && !s.causeHolds c

/-- CLEAR CONDITIONS at the attention unit (R162, R164): the clears, then the output and level judged once. -/
def clearedAttention (s : State) (classes : Byte) : Attention :=
  if s.clearable classes = [] then s.attention
  else ((s.clearable classes).foldl (fun a c => a.setStamp c none) s.attention).judged

/-- CLEAR CONDITIONS (R164), with the port check of TABLE 12-3. -/
def ownerClearConditions (classes : Byte) (s : State) : State × Answer :=
  if classSetValid classes then (s.setAttention (clearedAttention s classes), .done []) else (s, .range 1)

/-- The attention unit after a SET ATTENTION MASK (R161): the mask, and the output judged again. -/
def Attention.masked (a : Attention) (classes : Byte) : Attention :=
  { a with mask := maskOf classes, output := { a with mask := maskOf classes }.outputOf }

/-- SET ATTENTION MASK (R161), with the port check of TABLE 12-3. -/
def ownerSetAttentionMask (classes : Byte) (s : State) : State × Answer :=
  if classSetValid classes then (s.setAttention (s.attention.masked classes), .done []) else (s, .range 1)

/-- READ TRACE at the trace ring (R171): the records taken are removed. -/
def ownerReadTrace (s : State) : State × Answer :=
  (s.setTrace { s.trace with records := s.trace.records.drop readMost }, .done (traceData s.trace.records))

/-- A request that the port refuses (R175 steps 1 to 3). -/
def ownerMalformed (s : State) : State × Answer := (s, .malformed)

/-- A DIRECTIVE request by its payload (TABLE 12-3, R133). The slot is judged before the directive code. -/
def ownerDirective (payload : List Byte) (s : State) : State × Answer :=
  match directiveOf (u8 payload 0) with
  | some k =>
    originate k (BitVec.ofNat 16 (u16 payload 1)) (BitVec.ofNat 16 (u16 payload 3)) (payload.getD 5 0)
      (payload.getD 6 0) s
  | none => if s.bus.slots.directive.isSome then (s, .busy) else (s, .malformed)

/-- The owner of a completed request, judged by R175: the byte error, length and CRC (`bad`), the kind, the payload length,
and then the owner's own rule. -/
def ownerOf (kind : Byte) (payload : List Byte) (bad : Bool) : State → State × Answer :=
  if bad then ownerMalformed
  else
    match kind.toNat, payload with
    | 1, p => ownerLoadCharge p
    | 2, [] => ownerClearStaged
    | 3, [a, b, c, d, e, f, g] => ownerDirective [a, b, c, d, e, f, g]
    | 4, [] => ownerCalibrate
    | 5, [] => ownerReadPicture
    | 6, [] => ownerReadReadings
    | 7, [n] => ownerReadPeer n
    | 8, [] => ownerReadClimate
    | 9, [] => ownerReadState
    | 10, [] => ownerReadConditions
    | 11, [b] => ownerClearConditions b
    | 12, [b] => ownerSetAttentionMask b
    | 13, [] => ownerReadTrace
    | _, _ => ownerMalformed

/-! ## The receiver (R172) -/

/-- The receiver back in HUNT, the gap timer stopped. -/
def Port.toHunt (p : Port) : Port := { p with rx := .hunt, gapTimer := 0 }

/-- Whether the bytes taken after the start byte complete a request: a length above 250 does at once, otherwise the last CRC
byte does (R172). -/
def requestComplete (bytes : List Byte) : Bool :=
  decide (2 ≤ bytes.length) && (decide (250 < u8 bytes 1) || decide (bytes.length = 4 + u8 bytes 1))

/-- Whether a completed request is refused at R175 step 1: a byte error, a length above 250, or a CRC that differs. -/
def requestBad (bytes : List Byte) (error : Bool) : Bool :=
  error || decide (250 < u8 bytes 1)
    || decide ((crc (bytes.take (2 + u8 bytes 1))).toNat ≠ u16 bytes (2 + u8 bytes 1))

/-- A request completed by its last byte (R172, R174). -/
def completeRequest (bytes : List Byte) (error : Bool) (s : State) : State :=
  request (bytes.getD 0 0) (ownerOf (bytes.getD 0 0) ((bytes.drop 2).take (u8 bytes 1)) (requestBad bytes error)) s

/-- The receive wire one bit time later (R172): a start bit stops the gap timer, since the next byte has begun, and the nine bits
after it are sampled. That a start bit is a 0 is PRESUMED (log entry 29). That it must follow a 1, so that a line still at 0
after a byte whose stop bit was 0 begins no byte, is the model's choice (log entry 31, DESIGN CHOICE). -/
def Port.wireTick (p : Port) (bit : Bool) : Port :=
  match p.rxBits with
  | some bits => { p with rxBits := some (bits ++ [bit]), rxLast := bit }
  | none => if !bit && p.rxLast then { p with rxBits := some [], rxLast := bit, gapTimer := 0 } else { p with rxLast := bit }

/-- Whether the byte on the receive wire is at the end of its stop bit. -/
def Port.byteWhole (p : Port) : Bool := p.rxBits.any fun bits => decide (9 ≤ bits.length)

/-- A byte at the service port's receiver (R172). The gap timer runs from the start byte on (log entry 16), and the byte that
completes a request has it judged and executed (log entry 15). -/
def serviceByteReceived (byte : Byte) (stopFound : Bool) (s : State) : State :=
  match s.port.rx with
  | .hunt =>
    if stopFound && byte == 0x5A#8 then
      s.setPort { s.port with rx := .assembling [] false, gapTimer := gapTime }
    else s
  | .assembling bytes error =>
    if requestComplete (bytes ++ [byte]) then
      completeRequest (bytes ++ [byte]) (error || !stopFound) (s.setPort s.port.toHunt)
    else
      s.setPort { s.port with rx := .assembling (bytes ++ [byte]) (error || !stopFound), gapTimer := gapTime }

/-- The byte whose stop bit the receive wire has just shown, taken by the receiver (R172). -/
def wireByteReceived (s : State) : State :=
  match s.port.rxBits with
  | some bits =>
    serviceByteReceived (byteOfBits (bits.take 8)) (bits.getD 8 false) (s.setPort { s.port with rxBits := none })
  | none => s

/-- The gap timer expires (R172): a request being assembled is abandoned. -/
def gapTimerExpiry (s : State) : State :=
  match s.port.rx with
  | .hunt => s
  | .assembling _ _ => s.setPort s.port.toHunt

/-! ## The commands -/

/-- LOAD_CHARGE (R95). -/
def execLoadCharge (payload : List Byte) (s : State) : Host.Outcome State Fault Refusal :=
  .next (request 0x01 (ownerLoadCharge payload) s)

/-- CLEAR_STAGED (R96). -/
def execClearStaged (s : State) : Host.Outcome State Fault Refusal := .next (request 0x02 ownerClearStaged s)

/-- DIRECTIVE_START (R133). -/
def execDirectiveStart (charge code : Word16) (s : State) : Host.Outcome State Fault Refusal :=
  .next (request 0x03 (originate .start charge code 0 0) s)

/-- DIRECTIVE_HOLD (R133). -/
def execDirectiveHold (charge code : Word16) (s : State) : Host.Outcome State Fault Refusal :=
  .next (request 0x03 (originate .hold charge code 0 0) s)

/-- DIRECTIVE_RESUME (R133). -/
def execDirectiveResume (charge code : Word16) (s : State) : Host.Outcome State Fault Refusal :=
  .next (request 0x03 (originate .resume charge code 0 0) s)

/-- DIRECTIVE_SKIP (R133). -/
def execDirectiveSkip (charge code : Word16) (phase step : Byte) (s : State) : Host.Outcome State Fault Refusal :=
  .next (request 0x03 (originate .skip charge code phase step) s)

/-- DIRECTIVE_ABORT (R133). -/
def execDirectiveAbort (charge code : Word16) (s : State) : Host.Outcome State Fault Refusal :=
  .next (request 0x03 (originate .abort charge code 0 0) s)

/-- DIRECTIVE_RESET_SAFE (R133). -/
def execDirectiveResetSafe (charge code : Word16) (s : State) : Host.Outcome State Fault Refusal :=
  .next (request 0x03 (originate .resetSafe charge code 0 0) s)

/-- CALIBRATE (R9). -/
def execCalibrate (s : State) : Host.Outcome State Fault Refusal := .next (request 0x04 ownerCalibrate s)

/-- READ_PICTURE (R87). -/
def execReadPicture (s : State) : Host.Outcome State Fault Refusal := .next (request 0x05 ownerReadPicture s)

/-- READ_READINGS (R36). -/
def execReadReadings (s : State) : Host.Outcome State Fault Refusal := .next (request 0x06 ownerReadReadings s)

/-- READ_PEER (R71). -/
def execReadPeer (station : Byte) (s : State) : Host.Outcome State Fault Refusal :=
  .next (request 0x07 (ownerReadPeer station) s)

/-- READ_CLIMATE (R157). -/
def execReadClimate (s : State) : Host.Outcome State Fault Refusal := .next (request 0x08 ownerReadClimate s)

/-- READ_STATE (R176). -/
def execReadState (s : State) : Host.Outcome State Fault Refusal := .next (request 0x09 ownerReadState s)

/-- READ_CONDITIONS (R166). -/
def execReadConditions (s : State) : Host.Outcome State Fault Refusal := .next (request 0x0A ownerReadConditions s)

/-- CLEAR_CONDITIONS (R164). -/
def execClearConditions (classes : Byte) (s : State) : Host.Outcome State Fault Refusal :=
  .next (request 0x0B (ownerClearConditions classes) s)

/-- SET_ATTENTION_MASK (R161). -/
def execSetAttentionMask (classes : Byte) (s : State) : Host.Outcome State Fault Refusal :=
  .next (request 0x0C (ownerSetAttentionMask classes) s)

/-- READ_TRACE (R171). -/
def execReadTrace (s : State) : Host.Outcome State Fault Refusal := .next (request 0x0D ownerReadTrace s)

/-- UNKNOWN_REQUEST (R175). -/
def execUnknownRequest (kind : Byte) (s : State) : Host.Outcome State Fault Refusal :=
  .next (request kind ownerMalformed s)

/-- GAP_TIMER_EXPIRY (R172). -/
def execGapTimerExpiry (s : State) : Host.Outcome State Fault Refusal := .next (gapTimerExpiry s)

/-- RESPONSE_END (R174). -/
def execResponseEnd (s : State) : Host.Outcome State Fault Refusal := .next (responseEnd s)

/-- SERVICE_BYTE_RECEIVED (R172). -/
def execServiceByteReceived (byte : Byte) (stopFound : Bool) (s : State) : Host.Outcome State Fault Refusal :=
  .next (serviceByteReceived byte stopFound s)

end Sys2Proof.Machine
end

