-- ==== Sys2Proof/Machine/PowerOn.lean ====
section
/-! DEFINITION. Power-on (R18, R55, R60, R74, R94, R125, R135, R142, R158, R161, R167, R170, R179). -/

namespace Sys2Proof.Machine

/-- A sensor after power-on (TABLE 1-5). -/
def SensorChannel.atPowerOn : SensorChannel := { state := .awaiting, lastValid := none, holdTimer := 0 }

/-- The front end after power-on, in IDLE_FE with the calibrate-request flag set (TABLE 1-5): the state it at once leaves. -/
def FrontEnd.atPowerOn : FrontEnd :=
  { sweep := .idleFe, calRequest := true, samples := [], mLo := 700, mHi := 1000, refFault := false, windowTimer := 0
    intervalTimer := 0, calTimer := 0 }

/-- The kiln bus controller after power-on (TABLE 3-5). -/
def Bus.atPowerOn : Bus :=
  { quiet := 0, byteBits := 0, levels := [], lastLevel := .recessive, runOpen := false, runBytes := some []
    ownSent := none, slots := Slots.empty, attempt := none, blockedTimer := 0, lineBlocked := false, clash := false }

/-- The schedule controller after power-on (TABLE 7-3). -/
def Schedule.atPowerOn : Schedule :=
  { position := .idle, mode := .run, stepTimer := 0, overtime := 0, conditionTimer := 0, gatherTimer := 0
    gatherArmed := false, minute := 0, minuteTimer := seconds 60, safeOrigin := none }

/-- The climate controller after power-on (TABLE 9-1). -/
def Climate.atPowerOn : Climate :=
  { targetDry := none, targetDep := none, spActive := none, activeDep := none, regime := .off, integral := 0, heat := 0
    vent := 0, spray := 0, settleTimer := 0, deviation := 0 }

/-- The attention unit after power-on: every condition clear, all six classes enabled (R158, R161, R162, R163). -/
def Attention.atPowerOn : Attention :=
  { stamps := Vector.replicate 22 none, mask := BitVec.allOnes 6, output := false, level := none }

/-- Every block at its power-on values, the straps and the fan level as read, the emergency input not yet taken. -/
def powerOnValues (straps : Straps) (fan : Bool) (s : State) : State :=
  { s with
    straps := straps
    pins := { emergency := false, fan := fan }
    frontEnd := FrontEnd.atPowerOn
    sensors := { controlTimer := controlTime, dry := SensorChannel.atPowerOn, wet := SensorChannel.atPowerOn }
    readings := []
    bus := Bus.atPowerOn
    peers := { entries := Vector.replicate 32 none, reportTimer := reportTime }
    picture := none
    store := { staged := none, current := none, holdoff := 0 }
    schedule := Schedule.atPowerOn
    climate := Climate.atPowerOn
    attention := Attention.atPowerOn
    trace := { records := [], snapshotTimer := 0 }
    port := { rx := .hunt, gapTimer := 0, rxBits := none, rxLast := true, sending := none, busy := [] } }

/-- Power-on (R18, R135): every block's values, the calibration sweep that starts at once, and then an emergency input found
asserted as one assertion. -/
def powerOn (straps : Straps) (emergency fan : Bool) (s : State) : State :=
  let s1 := startCalSweep (powerOnValues straps fan s)
  if emergency then emergencyAssertion s1 else s1

/-- POWER_ON (R18); a strap setting that does not exist is refused (R40). -/
def execPowerOn (station kiln : Nat) (role : Role) (emergency fan : Bool) (s : State) :
    Host.Outcome State Fault Refusal :=
  if 1 ≤ station ∧ station ≤ 32 ∧ kiln ≤ 15 then
    .next (powerOn { station := station, kiln := kiln, role := role } emergency fan s)
  else .refused .noSuchSetting

end Sys2Proof.Machine
end

