-- ==== Sys2Proof/Machine/ScheduleUnit.lean ====
section
/-! DEFINITION. The schedule controller's timers (chapter 7) and the trace ring's snapshot timer (11.3). -/

namespace Sys2Proof.Machine

/-- The charge minute count at a minute tick (R110). -/
def countMinute (s : State) : State :=
  if s.schedule.position = .idle then s
  else s.setSchedule { s.schedule with minute := min 65535 (s.schedule.minute + 1) }

/-- A SNAPSHOT record, and the snapshot timer loaded again with the trace interval (R170). -/
def takeSnapshot (s : State) : State :=
  let s1 := writeTrace .snapshot s
  s1.setTrace { s1.trace with snapshotTimer := (s.currentRecord.map (·.traceInterval)).getD 0 }

/-- The snapshot timer at a minute tick (R170). -/
def tickSnapshot (s : State) : State :=
  if s.schedule.position = .idle ∨ s.trace.snapshotTimer = 0 then s
  else if s.trace.snapshotTimer = 1 then takeSnapshot s
  else s.setTrace { s.trace with snapshotTimer := s.trace.snapshotTimer - 1 }

/-- The step timer at a minute tick (R114): on a step of MINUTES basis, in RUN. -/
def tickStep (s : State) : State :=
  match s.currentStep with
  | some st =>
    if st.basis = .minutes ∧ s.schedule.mode = .run then
      s.setSchedule { s.schedule with stepTimer := s.schedule.stepTimer - 1 }
    else s
  | none => s

/-- The maximum that applies in a position, 0 for none; absent where the overtime timer stands (R116). -/
def State.overtimeMaximum (s : State) : Option Nat :=
  match s.schedule.position with
  | .drying _ => s.currentStep.map (·.maximum)
  | .equalize => s.currentRecord.map (·.equalizeMaximum)
  | _ => none

/-- The largest overtime count (R116). -/
def overtimeTop : Nat := 10080

/-- The overtime timer at a minute tick (R116). -/
def tickOvertime (s : State) : State :=
  match s.overtimeMaximum with
  | some most =>
    if s.schedule.mode = .run ∧ s.schedule.overtime < overtimeTop then
      let count := s.schedule.overtime + 1
      let s' := s.setSchedule { s.schedule with overtime := count }
      if most ≠ 0 ∧ count = most then latch .stepOvertime s' else s'
    else s
  | none => s

/-- The condition timer at a minute tick (R119), with the exit at the tick that brings it to 0. -/
def tickCondition (s : State) : State :=
  if s.runningAt .condition && decide (0 < s.schedule.conditionTimer) then
    testCondition (s.setSchedule { s.schedule with conditionTimer := s.schedule.conditionTimer - 1 })
  else s

/-- One minute tick (R109): the tick is loaded again and reaches its users, in one of the orders the spec allows (log
entry 14): the charge minute count, the snapshot timer, the step, overtime and condition timers, the setpoint ramp. -/
def minuteTick (s : State) : State :=
  setpointRamp
    (tickCondition
      (tickOvertime
        (tickStep
          (tickSnapshot (countMinute (s.setSchedule { s.schedule with minuteTimer := seconds 60 }))))))

/-- The step timer reaches 0 (R114), in DRYING in RUN, where alone it counts. -/
def stepTimerExpiry (s : State) : State :=
  match s.schedule.position, s.schedule.mode with
  | .drying _, .run => s.setSchedule { s.schedule with stepTimer := 0 }
  | _, _ => s

/-- The overtime count becomes equal to a maximum other than 0 (R116), in RUN; a count that has passed it does not again. -/
def overtimeLimit (s : State) : State :=
  match s.overtimeMaximum with
  | some most =>
    if s.schedule.mode = .run ∧ s.schedule.overtime < most then
      latch .stepOvertime (s.setSchedule { s.schedule with overtime := most })
    else s
  | none => s

/-- The condition timer reaches 0 in RUN, in CONDITION (R119). -/
def conditionTimerExpiry (s : State) : State :=
  if s.runningAt .condition then testCondition (s.setSchedule { s.schedule with conditionTimer := 0 }) else s

/-- The gather timer's expiry (R112): in GATHER and RUN, ROSTER SHORT is latched and WARMUP is entered. That the latching comes
after the entry, so that the CONDITION record of ROSTER SHORT carries WARMUP and not GATHER, is the model's choice (log entry
33, DESIGN CHOICE). -/
def gatherTimerExpiry (s : State) : State :=
  if s.runningAt .gather then testWarmup (enterPosition .warmup .own [.rosterShort] s) else s

/-- The snapshot timer reaches 0 (R170): in IDLE it stands. -/
def snapshotTimerExpiry (s : State) : State := if s.schedule.position = .idle then s else takeSnapshot s

/-! ## The commands -/

/-- MINUTE_TICK (R109). -/
def execMinuteTick (s : State) : Host.Outcome State Fault Refusal := .next (minuteTick s)

/-- STEP_TIMER_EXPIRY (R114). -/
def execStepTimerExpiry (s : State) : Host.Outcome State Fault Refusal := .next (stepTimerExpiry s)

/-- OVERTIME_LIMIT (R116). -/
def execOvertimeLimit (s : State) : Host.Outcome State Fault Refusal := .next (overtimeLimit s)

/-- CONDITION_TIMER_EXPIRY (R119). -/
def execConditionTimerExpiry (s : State) : Host.Outcome State Fault Refusal := .next (conditionTimerExpiry s)

/-- GATHER_TIMER_EXPIRY (R112). -/
def execGatherTimerExpiry (s : State) : Host.Outcome State Fault Refusal := .next (gatherTimerExpiry s)

/-- SNAPSHOT_TIMER_EXPIRY (R170). -/
def execSnapshotTimerExpiry (s : State) : Host.Outcome State Fault Refusal := .next (snapshotTimerExpiry s)

end Sys2Proof.Machine
end

