-- ==== Sys2Proof/Machine/Dispatch.lean ====
section
/-! DEFINITION. The meaning of every command: one arm per row of spec/opcode_table.json. -/

namespace Sys2Proof.Machine

def exec (i : Instr) (s : State) : Host.Outcome State Fault Refusal :=
  match i with
  | .powerOn station kiln role emergency fan => Sys2Proof.Machine.execPowerOn station kiln role emergency fan s
  | .measurementWindowEnd grade => Sys2Proof.Machine.execMeasurementWindowEnd grade s
  | .calibrationSweepComplete => Sys2Proof.Machine.execCalibrationSweepComplete s
  | .probeSweepComplete => Sys2Proof.Machine.execProbeSweepComplete s
  | .sweepIntervalExpiry => Sys2Proof.Machine.execSweepIntervalExpiry s
  | .calibrationTimerExpiry => Sys2Proof.Machine.execCalibrationTimerExpiry s
  | .controlPeriod dryBulb wetBulb => Sys2Proof.Machine.execControlPeriod dryBulb wetBulb s
  | .holdTimerExpiry sensor => Sys2Proof.Machine.execHoldTimerExpiry sensor s
  | .deviationLimit => Sys2Proof.Machine.execDeviationLimit s
  | .settleTimerExpiry => Sys2Proof.Machine.execSettleTimerExpiry s
  | .frameDiscarded run => Sys2Proof.Machine.execFrameDiscarded run s
  | .reportReceived run => Sys2Proof.Machine.execReportReceived run s
  | .offerReceived run => Sys2Proof.Machine.execOfferReceived run s
  | .safeFrameReceived run => Sys2Proof.Machine.execSafeFrameReceived run s
  | .startDirectiveReceived run => Sys2Proof.Machine.execStartDirectiveReceived run s
  | .holdDirectiveReceived run => Sys2Proof.Machine.execHoldDirectiveReceived run s
  | .resumeDirectiveReceived run => Sys2Proof.Machine.execResumeDirectiveReceived run s
  | .skipDirectiveReceived run => Sys2Proof.Machine.execSkipDirectiveReceived run s
  | .abortDirectiveReceived run => Sys2Proof.Machine.execAbortDirectiveReceived run s
  | .resetSafeDirectiveReceived run => Sys2Proof.Machine.execResetSafeDirectiveReceived run s
  | .attemptBegin => Sys2Proof.Machine.execAttemptBegin s
  | .attemptFail => Sys2Proof.Machine.execAttemptFail s
  | .attemptComplete => Sys2Proof.Machine.execAttemptComplete s
  | .spacingTimerExpiry => Sys2Proof.Machine.execSpacingTimerExpiry s
  | .quietGap => Sys2Proof.Machine.execQuietGap s
  | .lineBlockedTimerExpiry => Sys2Proof.Machine.execLineBlockedTimerExpiry s
  | .reportTimerExpiry => Sys2Proof.Machine.execReportTimerExpiry s
  | .peerEntryStale station => Sys2Proof.Machine.execPeerEntryStale station s
  | .peerEntryEmptied station => Sys2Proof.Machine.execPeerEntryEmptied station s
  | .reofferHoldoffExpiry => Sys2Proof.Machine.execReofferHoldoffExpiry s
  | .minuteTick => Sys2Proof.Machine.execMinuteTick s
  | .stepTimerExpiry => Sys2Proof.Machine.execStepTimerExpiry s
  | .overtimeLimit => Sys2Proof.Machine.execOvertimeLimit s
  | .conditionTimerExpiry => Sys2Proof.Machine.execConditionTimerExpiry s
  | .gatherTimerExpiry => Sys2Proof.Machine.execGatherTimerExpiry s
  | .snapshotTimerExpiry => Sys2Proof.Machine.execSnapshotTimerExpiry s
  | .fanReversal => Sys2Proof.Machine.execFanReversal s
  | .emergencyAssertion => Sys2Proof.Machine.execEmergencyAssertion s
  | .emergencyRelease => Sys2Proof.Machine.execEmergencyRelease s
  | .loadCharge payload => Sys2Proof.Machine.execLoadCharge payload s
  | .clearStaged => Sys2Proof.Machine.execClearStaged s
  | .directiveStart charge code => Sys2Proof.Machine.execDirectiveStart charge code s
  | .directiveHold charge code => Sys2Proof.Machine.execDirectiveHold charge code s
  | .directiveResume charge code => Sys2Proof.Machine.execDirectiveResume charge code s
  | .directiveSkip charge code phase step => Sys2Proof.Machine.execDirectiveSkip charge code phase step s
  | .directiveAbort charge code => Sys2Proof.Machine.execDirectiveAbort charge code s
  | .directiveResetSafe charge code => Sys2Proof.Machine.execDirectiveResetSafe charge code s
  | .calibrate => Sys2Proof.Machine.execCalibrate s
  | .readPicture => Sys2Proof.Machine.execReadPicture s
  | .readReadings => Sys2Proof.Machine.execReadReadings s
  | .readPeer station => Sys2Proof.Machine.execReadPeer station s
  | .readClimate => Sys2Proof.Machine.execReadClimate s
  | .readState => Sys2Proof.Machine.execReadState s
  | .readConditions => Sys2Proof.Machine.execReadConditions s
  | .clearConditions classes => Sys2Proof.Machine.execClearConditions classes s
  | .setAttentionMask classes => Sys2Proof.Machine.execSetAttentionMask classes s
  | .readTrace => Sys2Proof.Machine.execReadTrace s
  | .unknownRequest kind => Sys2Proof.Machine.execUnknownRequest kind s
  | .gapTimerExpiry => Sys2Proof.Machine.execGapTimerExpiry s
  | .responseEnd => Sys2Proof.Machine.execResponseEnd s
  | .serviceByteReceived byte stopFound => Sys2Proof.Machine.execServiceByteReceived byte stopFound s
  | .startBitSeen => Sys2Proof.Machine.execStartBitSeen s

end Sys2Proof.Machine
end

