-- ==== Sys2Proof/Config.lean ====
section
/-! DEFINITION. What the outside world decides and no command has said: the free values of the model.
They have no body, so every statement about the model holds for every value of them (log entries 5 and 6). -/

namespace Sys2Proof

/-- The grade the converter reports at the end of a measurement window that the idle clock reaches with no command
in the queue; the index is the state's `freeIndex` (log entry 6). -/
opaque Config.freeGrade : Nat → Nat

/-- The value at the dry-bulb input at a control period that the idle clock reaches (log entry 6). -/
opaque Config.freeDryBulb : Nat → Int

/-- The value at the wet-bulb input at a control period that the idle clock reaches (log entry 6). -/
opaque Config.freeWetBulb : Nat → Int

/-- Which of two orders is taken when several events fall at one bit time of the idle clock: the manual lets either of
two such events be taken first (0.7.7; log entry 5). -/
opaque Config.freeOrder : Nat → Bool

end Sys2Proof
end

