-- ==== Sys2Proof/Machine/Tick.lean ====
section
/-! DEFINITION. The station's own clock: what one bit time with no command waiting does (log entries 3, 5 and 6). Every
running timer counts, and the events that fall at that bit time are taken one after another. -/

namespace Sys2Proof.Machine

/-! ## Counting (0.7.7) -/

/-- A timer one bit time later. A timer at its last bit time is left there for its expiry, which takes it to 0 or loads it
again. -/
def countDown (t : Nat) : Nat := if 1 < t then t - 1 else t

/-- The kiln bus controller one bit time later: the line, and the two timers (R37 to R39, R52, R54). -/
def Bus.tick (others : Level) (b : Bus) : Bus :=
  let b := b.lineTick others
  { b with slots := { b.slots with spacing := countDown b.slots.spacing }, blockedTimer := countDown b.blockedTimer }

/-- A sensor's hold timer one bit time later (R15). -/
def SensorChannel.tick (c : SensorChannel) : SensorChannel := { c with holdTimer := countDown c.holdTimer }

/-- An entry's age one bit time later (R64, R70). -/
def HeldEntry.tick (e : HeldEntry) : HeldEntry := { e with age := e.age + 1 }

/-- The gather timer one bit time later: it counts in RUN and stands in HELD and SAFE (R107, R112). -/
def Schedule.tick (c : Schedule) : Schedule :=
  { c with
    minuteTimer := countDown c.minuteTimer
    gatherTimer := if c.mode = .run then countDown c.gatherTimer else c.gatherTimer }

/-- The service port one bit time later: its timers, and the bit on the receive wire (R172, R174). -/
def Port.tick (bit : Bool) (p : Port) : Port :=
  let timed : Port :=
    { p with
      gapTimer := countDown p.gapTimer
      sending := p.sending.map fun r => { r with bitsLeft := countDown r.bitsLeft } }
  timed.wireTick bit

/-- Every timer, count and line of the station one bit time later; the wires have brought one level and one bit (log entry
28). -/
def countAll (s : State) : State :=
  { s with
    wires := { kiln := s.wires.kiln.tail, service := s.wires.service.tail }
    frontEnd :=
      { s.frontEnd with
        windowTimer := countDown s.frontEnd.windowTimer
        intervalTimer := countDown s.frontEnd.intervalTimer
        calTimer := countDown s.frontEnd.calTimer }
    sensors :=
      { controlTimer := countDown s.sensors.controlTimer, dry := s.sensors.dry.tick, wet := s.sensors.wet.tick }
    bus := s.bus.tick (s.wires.kiln.headD .recessive)
    peers :=
      { entries := s.peers.entries.map fun e => e.map HeldEntry.tick, reportTimer := countDown s.peers.reportTimer }
    store := { s.store with holdoff := countDown s.store.holdoff }
    schedule := s.schedule.tick
    climate := { s.climate with settleTimer := countDown s.climate.settleTimer }
    port := s.port.tick (s.wires.service.headD true) }

/-! ## The events of a bit time -/

/-- The events that the clock brings. -/
inductive ClockEvent where
  | windowEnd
  | sweepInterval
  | calibrationTimer
  | controlPeriod
  | holdTimer (sensor : Sensor)
  | settleTimer
  | runEnd
  | attemptFail
  | attemptComplete
  | attemptBegin
  | spacingTimer
  | quietGap
  | lineBlockedTimer
  | reportTimer
  | entryStale (station : Nat)
  | entryEmptied (station : Nat)
  | reofferHoldoff
  | minuteTick
  | gatherTimer
  | gapTimer
  | serviceByte
  | responseEnd
deriving DecidableEq, Repr

/-- All the events of the clock. -/
def ClockEvent.all : List ClockEvent :=
  [.windowEnd, .sweepInterval, .calibrationTimer, .controlPeriod, .holdTimer .dryBulb, .holdTimer .wetBulb, .settleTimer,
   .runEnd, .attemptFail, .attemptComplete, .attemptBegin, .spacingTimer, .quietGap, .lineBlockedTimer, .reportTimer,
   .reofferHoldoff, .minuteTick, .gatherTimer, .gapTimer, .serviceByte, .responseEnd]
    ++ (List.range 32).map (fun i => .entryStale (i + 1)) ++ (List.range 32).map (fun i => .entryEmptied (i + 1))

/-- Whether an entry is in a state and has reached an age. -/
def State.entryAged (s : State) (station : Nat) (st : EntryState) (age : Nat) : Bool :=
  decide (station ≠ s.straps.station)
    && (s.peers.entry station).any fun e => e.state == st && decide (age ≤ e.age)

/-- Whether an eligible slot's required quiet time has been reached (R47). -/
def State.attemptDue (s : State) : Bool :=
  !s.bus.clash && s.bus.attempt.isNone && s.bus.byteBits == 0
    && (s.bus.slots.next s.straps.station).any fun x => decide (x.2 ≤ s.bus.quiet)

/-- The timer of an event, at 1 in the last bit time before its expiry; none for the events that no timer of this form brings. -/
def ClockEvent.timer (e : ClockEvent) (s : State) : Option Nat :=
  match e with
  | .windowEnd => some s.frontEnd.windowTimer
  | .sweepInterval => some s.frontEnd.intervalTimer
  | .calibrationTimer => some s.frontEnd.calTimer
  | .controlPeriod => some s.sensors.controlTimer
  | .holdTimer .dryBulb => some s.sensors.dry.holdTimer
  | .holdTimer .wetBulb => some s.sensors.wet.holdTimer
  | .settleTimer => some s.climate.settleTimer
  | .spacingTimer => some s.bus.slots.spacing
  | .lineBlockedTimer => some s.bus.blockedTimer
  | .reportTimer => some s.peers.reportTimer
  | .reofferHoldoff => some s.store.holdoff
  | .minuteTick => some s.schedule.minuteTimer
  | .gatherTimer => if s.schedule.mode = .run then some s.schedule.gatherTimer else some 0
  | .gapTimer => some s.port.gapTimer
  | .responseEnd => some ((s.port.sending.map (·.bitsLeft)).getD 0)
  | .runEnd | .attemptFail | .attemptComplete | .attemptBegin | .quietGap | .serviceByte | .entryStale _
  | .entryEmptied _ => none

/-- Whether an event that no timer brings stands to be taken. -/
def ClockEvent.reached (e : ClockEvent) (s : State) : Bool :=
  match e with
  | .runEnd => s.bus.runEnds && s.bus.runBytes.isSome && s.bus.byteBits == 0 && s.bus.quiet == runEndCount
  | .attemptFail => s.bus.attempt.any fun a => a.released && s.bus.byteBits % byteTime == 0
  | .attemptComplete => s.bus.attempt.any fun a => !a.released && s.bus.byteBits == 0
  | .attemptBegin => s.attemptDue
  | .quietGap => s.bus.byteBits == 0 && s.bus.quiet == gapCount
  | .serviceByte => s.port.byteWhole
  | .entryStale n => s.entryAged n .fresh staleAge
  | .entryEmptied n => s.entryAged n .stale emptyAge
  | _ => false

/-- Whether an event stands to be taken: its timer is in its last bit time, or what it waits for is reached. -/
def ClockEvent.due (e : ClockEvent) (s : State) : Bool :=
  match e.timer s with
  | some t => t == 1
  | none => e.reached s

/-- The events that fall at the bit time from a state to the counted state: those of a timer that ends, and those that the
counting has reached. -/
def fallingEvents (before counted : State) : List ClockEvent :=
  ClockEvent.all.filter fun e => match e.timer before with | some t => t == 1 | none => e.reached counted

/-- A free value used up. -/
def nextFree (s : State) : State := s.setFreeIndex (s.freeIndex + 1)

/-- The completion of the sweep whose last window has ended; none while a window remains. -/
def completeSweep (s : State) : State :=
  match s.frontEnd.sweep with
  | .idleFe => s
  | .calSweep => calibrationSweepComplete s
  | .probeSweep => probeSweepComplete s

/-- An attempt whose slot's quiet time has been reached (R47). Where another station's start bit comes at the bit time of its
own first one, either may be first (R48): it begins, or the other start bit is seen and it waits. -/
def beginOrWait (s : State) : State :=
  if s.wires.kiln.headD .recessive = .dominant then
    if Config.freeOrder s.freeIndex then attemptBegin (nextFree s) else nextFree s
  else attemptBegin s

/-- An event of the clock taken. What an input shows is a free value (log entry 6). -/
def takeEvent (e : ClockEvent) (s : State) : State :=
  match e with
  | .windowEnd => completeSweep (nextFree (measurementWindowEnd (Config.freeGrade s.freeIndex) s))
  | .sweepInterval => sweepIntervalExpiry s
  | .calibrationTimer => calibrationTimerExpiry s
  | .controlPeriod =>
    nextFree (controlPeriod (Config.freeDryBulb s.freeIndex) (Config.freeWetBulb s.freeIndex) s)
  | .holdTimer sensor => holdTimerExpiry sensor s
  | .settleTimer => settleTimerExpiry s
  | .runEnd => takeHeardRun (s.bus.heardRun.getD []) s
  | .attemptFail => attemptFail s
  | .attemptComplete => attemptComplete s
  | .attemptBegin => beginOrWait s
  | .spacingTimer => spacingTimerExpiry s
  | .quietGap => quietGap s
  | .lineBlockedTimer => lineBlockedTimerExpiry s
  | .reportTimer => reportTimerExpiry s
  | .entryStale n => peerEntryStale n s
  | .entryEmptied n => peerEntryEmptied n s
  | .reofferHoldoff => reofferHoldoffExpiry s
  | .minuteTick => minuteTick s
  | .gatherTimer => gatherTimerExpiry s
  | .gapTimer => gapTimerExpiry s
  | .serviceByte => wireByteReceived s
  | .responseEnd => responseEnd s

/-- An event taken where it still stands to be taken: one taken before it may have loaded or stopped its timer. -/
def takeIfDue (s : State) (e : ClockEvent) : State := if e.due s then takeEvent e s else s

/-- One bit time with no command waiting (log entry 3). Two or more events that fall together are taken in one order or the
other, as a free value says (log entry 5). -/
def tick (s : State) : State :=
  let counted := countAll s
  match fallingEvents s counted with
  | [] => counted
  | [e] => takeIfDue counted e
  | es =>
    (if Config.freeOrder s.freeIndex then es else es.reverse).foldl takeIfDue (nextFree counted)

end Sys2Proof.Machine
end

