-- ==== Sys2Proof/Safety.lean ====
section
/-! DEFINITION. What claims are stated in: the blocks of the state that an event leaves alone, and the properties of a state
that the manual gives the module at every moment. -/

namespace Sys2Proof.Machine

/-! ## Frames -/

/-- The blocks of the state, one to a field. -/
inductive Block where
  | pending
  | wires
  | straps
  | pins
  | frontEnd
  | sensors
  | readings
  | bus
  | peers
  | picture
  | store
  | schedule
  | climate
  | attention
  | trace
  | port
  | freeIndex
deriving DecidableEq, Repr

/-- Whether a block is the same in two states. -/
def Block.Same (s t : State) : Block → Prop
  | .pending => t.pending = s.pending
  | .wires => t.wires = s.wires
  | .straps => t.straps = s.straps
  | .pins => t.pins = s.pins
  | .frontEnd => t.frontEnd = s.frontEnd
  | .sensors => t.sensors = s.sensors
  | .readings => t.readings = s.readings
  | .bus => t.bus = s.bus
  | .peers => t.peers = s.peers
  | .picture => t.picture = s.picture
  | .store => t.store = s.store
  | .schedule => t.schedule = s.schedule
  | .climate => t.climate = s.climate
  | .attention => t.attention = s.attention
  | .trace => t.trace = s.trace
  | .port => t.port = s.port
  | .freeIndex => t.freeIndex = s.freeIndex

/-- Every block but those listed is the same in two states. -/
def OnlyChanges (blocks : List Block) (s t : State) : Prop := ∀ b : Block, b ∉ blocks → b.Same s t

/-! ## Frames heard and requests taken -/

/-- A run that the receiver hands to the owner of a kind, whose owner takes it (R43, R44): one that has begun after more than 20 bit
times of quiet, with no attempt running, well-formed, of the own kiln, of that kind, not the own transmission. One under the own
number is so taken once the address-clash latch is set (R45), but for a REPORT, which the peer table discards (R62). -/
def State.Hears (s : State) (k : FrameKind) (run : List LineByte) (f : Frame) : Prop :=
  s.bus.runOpen = true ∧ s.bus.attempt = none ∧ judgeRun run = some f ∧ f.kiln = s.straps.kiln ∧ f.kind = k.code
    ∧ s.bus.ownSent ≠ some (run.map (·.data)) ∧ (f.station = s.straps.station → s.bus.clash = true ∧ k ≠ .report)

/-- A DIRECTIVE frame is heard with the fields of TABLE 8-1. -/
def State.HearsDirective (s : State) (run : List LineByte) (k : DirectiveKind) (charge code : Word16)
    (phase step : Byte) : Prop :=
  ∃ f, s.Hears .directive run f ∧ f.charge = charge.toNat
    ∧ f.payload = [byteOf k.code] ++ be16 code.toNat ++ [phase, step]

/-- The service transmitter is idle (R174). -/
def State.PortIdle (s : State) : Prop := s.port.sending = none ∧ s.port.busy = []

/-- The station can originate a directive (R133, R174): the service transmitter is idle and the DIRECTIVE slot is empty. -/
def State.CanOriginate (s : State) : Prop := s.PortIdle ∧ s.bus.slots.directive = none

/-- A request of a kind answered on an idle transmitter, nothing else changed (R174). -/
def State.answered (s : State) (kind : Byte) (a : Answer) : State :=
  s.setPort { s.port with sending := some (responseOf kind a) }

/-- A directive that was originated (R134): its slot is set with 3 transmissions, or the setting is discarded while the
address-clash latch is set, and the request is answered DONE. -/
def Originated (k : DirectiveKind) (charge code : Word16) (phase step : Byte) (s t : State) : Prop :=
  t.bus.slots.directive =
      (if s.bus.clash then none
      else some { kind := k, charge, code, targetPhase := phase, targetStep := step, remaining := 3, failed := 0 })
    ∧ t.port = { s.port with sending := some (responseOf 0x03 (.done [])) }

/-- The row of a directive heard in a run (TABLE 8-1). -/
def receivedRow (run : List LineByte) : DirectiveKind → Instr
  | .start => .startDirectiveReceived run
  | .hold => .holdDirectiveReceived run
  | .resume => .resumeDirectiveReceived run
  | .skip => .skipDirectiveReceived run
  | .abort => .abortDirectiveReceived run
  | .resetSafe => .resetSafeDirectiveReceived run

/-- The row of a directive requested at the service port (R133). -/
def originRow (charge code : Word16) (phase step : Byte) : DirectiveKind → Instr
  | .start => .directiveStart charge code
  | .hold => .directiveHold charge code
  | .resume => .directiveResume charge code
  | .skip => .directiveSkip charge code phase step
  | .abort => .directiveAbort charge code
  | .resetSafe => .directiveResetSafe charge code

/-- The current record names the charge and the code of a directive (R128). -/
def State.RunsCharge (s : State) (charge code : Word16) : Prop :=
  ∃ r, s.currentRecord = some r ∧ r.chargeNumber = charge.toNat ∧ r.chargeCode = code.toNat

/-! ## Positions entered -/

/-- The positions that follow at once on the entry to a position outside GATHER (TABLE 7-2): in RUN, the warm-up exit from WARMUP
(R113), the condition exit from CONDITION (R119) and the cool exit from COOL (R120), where they are met. -/
def State.onward (s : State) (r : ChargeRecord) (p : Position) : List Position :=
  let cool :=
    match s.dryBulb with
    | some db => if db ≤ r.coolEnd then [Position.complete] else []
    | none => []
  if s.schedule.mode = .run then
    match p with
    | .warmup =>
      match r.stepAt 1, s.dryBulb with
      | some st, some db => if st.dryBulb - r.warmBand ≤ db then [.drying 1] else []
      | _, _ => []
    | .condition => if r.conditionTime = 0 then .cool :: cool else []
    | .cool => cool
    | .idle | .gather | .drying _ | .equalize | .complete => []
  else []

/-- Every roster station but the own one and one more has a FRESH entry that stands MATCHED (R67, R111). -/
def State.RosterMatched (s : State) (r : RankedRecord) (but : Nat) : Prop :=
  ∀ n, 1 ≤ n → n ≤ 32 → r.record.onRoster n = true → n ≠ s.straps.station → n ≠ but →
    ∃ e, s.peers.entry n = some e ∧ e.state = .fresh ∧ e.data.charge = r.record.chargeNumber ∧ e.data.check = r.check

/-- The gather watch is armed in GATHER in RUN, and met with a report of a station just taken (R111). -/
def State.WatchMet (s : State) (r : RankedRecord) (station : Nat) (d : ReportData) : Prop :=
  s.schedule.position = .gather ∧ s.schedule.gatherArmed = true ∧ s.schedule.mode = .run ∧ s.RosterMatched r station
    ∧ (r.record.onRoster station = true → d.charge = r.record.chargeNumber ∧ d.check = r.check)

/-- A report meets all the conditions of the follow rule against a position (R121). -/
def State.FollowMet (s : State) (r : RankedRecord) (own : Position) (station : Nat) (d : ReportData) : Prop :=
  r.record.onRoster station = true ∧ d.charge = r.record.chargeNumber ∧ d.check = r.check
    ∧ d.mode = .run ∧ s.schedule.mode = .run ∧ r.record.quorum ≤ d.basis
    ∧ ∃ a b, positionRank r.record.stepCount own = some a ∧ positionRank r.record.stepCount d.position = some b ∧ a < b

/-- A report meets all the conditions of the late join (R103). -/
def State.LateJoinMet (s : State) (station : Nat) (d : ReportData) : Prop :=
  (s.schedule.position = .idle ∨ s.schedule.position = .complete) ∧ s.schedule.mode ≠ .safe
    ∧ ∃ r, s.store.staged = some r ∧ d.charge = r.record.chargeNumber ∧ d.check = r.check ∧ d.position ≠ .idle
      ∧ r.record.onRoster station = true

/-- The schedule controller after an entry to a position (R108, R111, TABLE 7-2). -/
def Schedule.entered (c : Schedule) (r : ChargeRecord) (p : Position) : Schedule :=
  { c with
    position := p
    stepTimer := match p with | .drying k => ((r.stepAt k).map (·.hold)).getD 0 | _ => 0
    overtime := 0
    conditionTimer := match p with | .condition => r.conditionTime | _ => 0
    gatherTimer := if p = .gather then 5760000 else 0
    gatherArmed := decide (p = .gather) }

/-- The regime of a mode and a position (TABLE 9-3). -/
def tableRegime : Mode → Position → Regime
  | .safe, _ => .safe
  | .run, .idle | .run, .gather | .run, .complete | .held, .idle | .held, .gather | .held, .complete => .off
  | .run, .cool | .held, .cool => .cooling
  | .run, .warmup | .run, .drying _ | .run, .equalize | .run, .condition
  | .held, .warmup | .held, .drying _ | .held, .equalize | .held, .condition => .loops

/-- The vent output of a ZONE station in a regime without loops (TABLE 9-3). -/
def tableVent (record : Option ChargeRecord) : Regime → Nat
  | .safe => match record with | some r => r.safeVent | none => 1000
  | .cooling => 1000
  | .off | .loops => 0

/-- The climate controller after a change of mode (R146, R155, R156): the regime of the new mode; in LOOPS the outputs and I are
kept, and without loops I is 0 and the outputs are those of TABLE 9-3, 0 on a PROBE station (R141). The target pair, the active
pair and the settle timer are kept. That the deviation count is 0 at the change itself is log entry 17. -/
def State.climateIn (s : State) (m : Mode) : Climate :=
  match tableRegime m s.schedule.position with
  | .loops => { s.climate with regime := .loops, deviation := 0 }
  | regime =>
    { s.climate with
      regime := regime, integral := 0, heat := 0, spray := 0, deviation := 0
      vent :=
        match s.straps.role with
        | .zone => tableVent s.currentRecord regime
        | .probe => 0 }

/-- The climate controller after an entry to a loop position with a target pair (R143, R144, R146): the active depression is the
target's; from a loop position SP_active and I are kept, and from another SP_active is the available dry-bulb or 200 and I
is 0. The deviation count is 0, and the outputs keep their values. -/
def LoopEntered (s t : State) (dryBulb : Int) (depression : Nat) : Prop :=
  ∃ sp i, t.climate =
      { s.climate with
        targetDry := some dryBulb, targetDep := some depression, activeDep := some depression
        spActive := sp, integral := i, regime := .loops, deviation := 0 }
    ∧ (sp, i) =
      (match s.schedule.position with
      | .warmup | .drying _ | .equalize | .condition => (s.climate.spActive, s.climate.integral)
      | .idle | .gather | .cool | .complete => (some (s.dryBulb.getD 200), 0))

/-- The climate controller after an entry, outside SAFE, or after a run of entries at one event: the targets of the last position
(TABLE 9-2), and without loops no pair at all, I and the deviation count 0, and the outputs of TABLE 9-3 (R143, R144, R146). -/
def ClimateEntered (s t : State) (r : ChargeRecord) (p : Position) : Prop :=
  match p with
  | .warmup => ∀ st, r.stepAt 1 = some st → LoopEntered s t st.dryBulb st.depression
  | .drying k => ∀ st, r.stepAt k = some st → LoopEntered s t st.dryBulb st.depression
  | .equalize => ∀ st, r.stepAt r.steps.length = some st → LoopEntered s t st.dryBulb r.equalizeDepression
  | .condition => ∀ st, r.stepAt r.steps.length = some st → LoopEntered s t st.dryBulb r.conditionDepression
  | .idle | .gather | .cool | .complete =>
    t.climate =
      { s.climate with
        targetDry := none, targetDep := none, spActive := none, activeDep := none, integral := 0, heat := 0, spray := 0
        vent := if s.straps.role = .zone ∧ p = .cool then 1000 else 0
        regime := if p = .cool then .cooling else .off, deviation := 0 }

/-- The ranks of the positions (TABLE 7-1), and the steps as numbered from 1. -/
def PositionTable : Prop :=
  (∀ steps, positionRank steps .idle = some 0 ∧ positionRank steps .gather = some 1 ∧ positionRank steps .warmup = some 2
      ∧ (∀ k, positionRank steps (.drying k) = if 1 ≤ k ∧ k ≤ steps then some (2 + k) else none)
      ∧ positionRank steps .equalize = some (steps + 3) ∧ positionRank steps .condition = some (steps + 4)
      ∧ positionRank steps .cool = some (steps + 5) ∧ positionRank steps .complete = some (steps + 6))
    ∧ ∀ r : ChargeRecord, r.stepCount = r.steps.length ∧ r.stepAt 0 = none ∧ ∀ k, r.stepAt (k + 1) = r.steps[k]?

/-- The trace ring holds at most 512 records (R167). -/
def State.RingBounded (s : State) : Prop := s.trace.records.length ≤ ringSize

/-- The records written from one state to another, oldest first, into a ring of 512 (R167). -/
def State.Writes (s t : State) (xs : List TraceRecord) : Prop :=
  t.trace.records = (s.trace.records ++ xs).drop (s.trace.records.length + xs.length - 512)

/-- The kind of record an entry writes (R108): STEP within DRYING, PHASE otherwise, with its cause. -/
def entryKind (left p : Position) (cause : Cause) : TraceKind :=
  match left, p with
  | .drying _, .drying _ => .step cause
  | _, _ => .phase cause

/-- The condition an entry latches (R108). -/
def entryLatches (left p : Position) : Condition :=
  match left, p with
  | .drying _, .drying _ => .stepAdvanced
  | _, _ => .phaseEntered

/-- The records of a run of entries (R108, R159, R168): each entry's own record with its position and cause, then a CONDITION record
for each condition it brings from clear to latched, those of the event first. The other fields are those that stand after the
event, which leaves them as they are from its first entry on. -/
def pathRecords (s t : State) (left : Position) (event done : List Condition) : List (Position × Cause) → List TraceRecord
  | [] => []
  | (p, cause) :: rest =>
    { t.traceRecord (entryKind left p cause) with position := p }
      :: (((event ++ [entryLatches left p]).filter fun c => decide (s.attention.stamp c = none ∧ c ∉ done)).map fun c =>
          { t.traceRecord (.condition c) with position := p })
      ++ pathRecords s t p [] (entryLatches left p :: done) rest

/-- A run of entries, one after another at one event, from the position that stands (R108): the schedule and climate of the last,
the records of each after those given, and the condition of the first latched with those of the event. With no entry the
schedule stands. -/
def EntersPath (s t : State) (r : ChargeRecord) (before : List TraceRecord) (path : List (Position × Cause))
    (event : List Condition := []) : Prop :=
  t.schedule = (match path.getLast? with | some x => s.schedule.entered r x.1 | none => s.schedule)
    ∧ (∀ x, path.getLast? = some x → ClimateEntered s t r x.1)
    ∧ (s.RingBounded → s.Writes t (before ++ pathRecords s t s.schedule.position event [] path))
    ∧ ∀ x, path.head? = some x →
      ∀ c ∈ entryLatches s.schedule.position x.1 :: event, t.attention.latched c = true

/-- An entry to SAFE (R136, R146, R156, R159): the outputs of SAFE at once, and the MODE record before the CONDITION record of
SAFE, which is written where that condition was clear. -/
def SafeAnnounced (s t : State) : Prop :=
  t.climate = s.climateIn .safe
    ∧ (s.RingBounded →
      s.Writes t
        ({ s.traceRecord .mode with mode := .safe }
          :: if s.attention.stamp .safe = none then [{ s.traceRecord (.condition .safe) with mode := .safe }] else []))

/-! ## What the bus sends -/

/-- The class bases (TABLE 3-3). -/
def tableBase : FrameKind → Nat
  | .safe => 0
  | .directive => 70
  | .offer => 140
  | .report => 210

/-- The frame that an attempt of a kind carries (TABLE 3-2, TABLE 3-3, R48): the header from the straps, the charge number and
payload of the kind (R57, R97, R127, R137). -/
def State.CarriesFrame (s : State) (k : FrameKind) (f : Frame) : Prop :=
  f.kind = k.code ∧ f.kiln = s.straps.kiln ∧ f.station = s.straps.station
    ∧ match k with
      | .safe => f.charge = s.currentNumber ∧ f.payload = [0x01]
      | .directive =>
        ∃ d, s.bus.slots.directive = some d ∧ f.charge = d.charge.toNat
          ∧ f.payload =
              [byteOf d.kind.code, d.code.extractLsb' 8 8, d.code.extractLsb' 0 8, d.targetPhase, d.targetStep]
      | .offer =>
        ∃ o r, s.bus.slots.offer = some o
          ∧ (match o.rank with | .staged => s.store.staged | .current => s.store.current) = some r
          ∧ f.charge = r.record.chargeNumber ∧ f.payload = encodeRecord r.record
      | .report =>
        f.charge = s.currentNumber
          ∧ ∃ d, f.payload = reportPayload d ∧ d.charge = s.currentNumber ∧ d.role = s.straps.role
              ∧ d.position = s.schedule.position ∧ d.mode = s.schedule.mode ∧ d.check = s.currentCheck
              ∧ d.dryBulb = s.dryBulb
              ∧ (d.basis, d.controlling) =
                  (if ∀ r ∈ s.readings, r.flags.invalid = true then (0, none)
                  else match s.picture with | some p => (p.basis, p.controlling) | none => (0, none))
              ∧ d.readings =
                  (s.readings.filter fun r =>
                    match s.currentRecord with | some c => c.maskHas s.straps.station r.channel | none => true).map
                    fun r => { channel := r.channel, mc := r.mc, flags := r.flags }

/-! ## What the service port sends and takes -/

/-- The two bytes of a field, upper byte first (0.7.3). -/
def twoBytes (n : Nat) : List Byte := [BitVec.ofNat 8 (n / 256), BitVec.ofNat 8 n]

/-- A signed field in two's complement (R177). -/
def signedBytes (x : Int) : List Byte := twoBytes (BitVec.ofInt 16 x).toNat

/-- A moisture value or count, 0xFFFF when absent (R177). -/
def countBytes (x : Option Nat) : List Byte := twoBytes (x.getD 0xFFFF)

/-- A temperature, 0x8000 when absent (R177). -/
def tempBytes (x : Option Int) : List Byte :=
  match x with | some t => signedBytes t | none => twoBytes 0x8000

/-- A service frame's bytes (TABLE 12-1). -/
def frameOfBytes (kind : Byte) (payload : List Byte) : List Byte :=
  [0x5A, kind, BitVec.ofNat 8 payload.length] ++ payload
    ++ twoBytes (crc (kind :: BitVec.ofNat 8 payload.length :: payload)).toNat

/-- The payload of an answer (R173, TABLE 12-2). -/
def answerBytes : Answer → List Byte
  | .done data => 0x00 :: data
  | .malformed => [0x01]
  | .range field => [0x02, BitVec.ofNat 8 field]
  | .stateRefused => [0x03]
  | .codeRefused => [0x04]
  | .busy => [0x05]

/-- The kind and payload of the request that a row stands for (TABLE 12-3). -/
def requestBytes : Instr → Option (Byte × List Byte)
  | .loadCharge payload => some (0x01, payload)
  | .clearStaged => some (0x02, [])
  | .directiveStart charge code => some (0x03, 0x01 :: (twoBytes charge.toNat ++ twoBytes code.toNat ++ [0, 0]))
  | .directiveHold charge code => some (0x03, 0x02 :: (twoBytes charge.toNat ++ twoBytes code.toNat ++ [0, 0]))
  | .directiveResume charge code => some (0x03, 0x03 :: (twoBytes charge.toNat ++ twoBytes code.toNat ++ [0, 0]))
  | .directiveSkip charge code phase step =>
    some (0x03, 0x04 :: (twoBytes charge.toNat ++ twoBytes code.toNat ++ [phase, step]))
  | .directiveAbort charge code => some (0x03, 0x05 :: (twoBytes charge.toNat ++ twoBytes code.toNat ++ [0, 0]))
  | .directiveResetSafe charge code => some (0x03, 0x06 :: (twoBytes charge.toNat ++ twoBytes code.toNat ++ [0, 0]))
  | .calibrate => some (0x04, [])
  | .readPicture => some (0x05, [])
  | .readReadings => some (0x06, [])
  | .readPeer station => some (0x07, [station])
  | .readClimate => some (0x08, [])
  | .readState => some (0x09, [])
  | .readConditions => some (0x0A, [])
  | .clearConditions classes => some (0x0B, [classes])
  | .setAttentionMask classes => some (0x0C, [classes])
  | .readTrace => some (0x0D, [])
  | _ => none

/-- The data of READ PICTURE (TABLE 12-4). -/
def PictureLayout : Prop :=
  pictureData none =
      [0, 0, 0, 0, 0, 0, 0, 0, 0xFF, 0xFF, 0, 0, 0xFF, 0xFF, 0, 0, 0xFF, 0xFF, 0xFF, 0xFF, 0xFF, 0xFF, 0xFF, 0xFF]
    ∧ ∀ p : Picture,
      pictureData (some p) =
        0x01 :: (twoBytes p.charge ++ twoBytes p.quorum ++ twoBytes p.basis ++ [if p.sufficient then 1 else 0]
          ++ countBytes (p.wettest.map (·.mc))
          ++ [BitVec.ofNat 8 ((p.wettest.map (·.station)).getD 0), BitVec.ofNat 8 ((p.wettest.map (·.channel)).getD 0)]
          ++ countBytes (p.driest.map (·.mc))
          ++ [BitVec.ofNat 8 ((p.driest.map (·.station)).getD 0), BitVec.ofNat 8 ((p.driest.map (·.channel)).getD 0)]
          ++ countBytes p.mean ++ countBytes p.controlling ++ countBytes p.wetCount ++ countBytes p.dryCount)

/-- A flag byte (TABLE 4-3). -/
def flagByte (f : ReadingFlags) : Byte :=
  BitVec.ofNat 8
    ((if f.openCircuit then 1 else 0) + (if f.shortCircuit then 2 else 0) + (if f.unsteady then 4 else 0)
      + (if f.wetLimit then 8 else 0) + (if f.dryLimit then 16 else 0) + if f.invalid then 32 else 0)

/-- The data of READ READINGS (TABLE 12-4): the count, then 10 bytes to the reading. -/
def ReadingsLayout : Prop :=
  (∀ r : Reading,
    readingData r =
      BitVec.ofNat 8 r.channel :: (countBytes r.mc ++ signedBytes r.grade ++ twoBytes r.spread ++ [flagByte r.flags]
        ++ tempBytes r.dryBulb))
    ∧ ∀ rs, readingsData rs = BitVec.ofNat 8 rs.length :: (rs.map readingData).flatten

/-- The data of READ PEER (R71, R177, TABLE 12-4, TABLE 4-2): an EMPTY entry gives the station and the state alone. -/
def PeerLayout : Prop :=
  ∀ (s : State) (n : Nat),
    (s.peers.entry n = none → peerData s n = [BitVec.ofNat 8 n, 0])
      ∧ ∀ e, s.peers.entry n = some e →
        peerData s n =
          [BitVec.ofNat 8 n, match e.state with | .fresh => 1 | .stale => 2] ++ twoBytes (min 65535 (e.age / 19200))
            ++ [if n = s.straps.station then 4
                else match standing s.store.current n e.data with | .matched => 1 | .foreign => 2 | .unlisted => 3,
                BitVec.ofNat 8 (roleCode e.data.role)]
            ++ twoBytes e.data.charge ++ twoBytes e.data.check.toNat
            ++ [BitVec.ofNat 8 (phaseCode e.data.position), BitVec.ofNat 8 (stepCode e.data.position),
                BitVec.ofNat 8 (modeCode e.data.mode)]
            ++ twoBytes e.data.basis ++ countBytes e.data.controlling ++ tempBytes e.data.dryBulb
            ++ [BitVec.ofNat 8 e.data.readings.length]
            ++ (e.data.readings.map fun r => BitVec.ofNat 8 r.channel :: (countBytes r.mc ++ [flagByte r.flags])).flatten

/-- The code of a sensor's state (TABLE 12-4). -/
def sensorByte : SensorState → Byte
  | .awaiting => 0
  | .valid => 1
  | .holding => 2
  | .lost => 3

/-- The data of READ CLIMATE (TABLE 12-4). -/
def ClimateLayout : Prop :=
  ∀ s : State,
    climateData s =
      [BitVec.ofNat 8 (roleCode s.straps.role),
        match s.climate.regime with | .off => 0 | .loops => 1 | .cooling => 2 | .safe => 3]
        ++ tempBytes s.climate.targetDry ++ countBytes s.climate.targetDep ++ tempBytes s.climate.spActive
        ++ countBytes s.climate.activeDep ++ signedBytes s.climate.integral ++ twoBytes s.climate.heat
        ++ twoBytes s.climate.vent ++ twoBytes s.climate.spray
        ++ twoBytes ((s.climate.settleTimer + 19199) / 19200) ++ twoBytes s.climate.deviation
        ++ [sensorByte s.sensors.dry.state] ++ tempBytes s.sensors.dry.lastValid
        ++ [sensorByte s.sensors.wet.state] ++ tempBytes s.sensors.wet.lastValid

/-- The data of READ STATE (R176, R177, TABLE 12-4). -/
def StateLayout : Prop :=
  ∀ s : State,
    stateData s =
      [BitVec.ofNat 8 (roleCode s.straps.role), BitVec.ofNat 8 s.straps.station, BitVec.ofNat 8 s.straps.kiln,
        BitVec.ofNat 8 (phaseCode s.schedule.position), BitVec.ofNat 8 (stepCode s.schedule.position),
        BitVec.ofNat 8 (modeCode s.schedule.mode)]
        ++ twoBytes s.schedule.stepTimer
        ++ [match s.currentStep with
            | some st => (match st.basis with | .minutes => (0 : Byte) | .reversals => 1)
            | none => 0]
        ++ twoBytes s.schedule.overtime ++ twoBytes s.schedule.conditionTimer
        ++ twoBytes ((s.schedule.gatherTimer + 19199) / 19200) ++ twoBytes s.schedule.minute
        ++ twoBytes ((s.store.staged.map (·.record.chargeNumber)).getD 0)
        ++ twoBytes ((s.store.staged.map fun r => r.check.toNat).getD 0)
        ++ twoBytes ((s.store.current.map (·.record.chargeNumber)).getD 0)
        ++ twoBytes ((s.store.current.map fun r => r.check.toNat).getD 0)
        ++ [BitVec.ofNat 8 ((s.schedule.safeOrigin.map (·.station)).getD 0), (s.schedule.safeOrigin.map (·.cause)).getD 0,
            if s.frontEnd.refFault then 1 else 0, if s.bus.clash then 1 else 0, if s.bus.lineBlocked then 1 else 0]

/-- The data of READ CONDITIONS (R177, TABLE 12-4): the level, the mask, the latched set with condition n at bit n - 1, and each
latched condition's number and stamp in order. -/
def ConditionsLayout : Prop :=
  ∀ a : Attention, ∃ set : List Byte,
    conditionsData a =
      [match a.level with
        | none => 0
        | some .fatal => 1 | some .climate => 2 | some .probe => 3 | some .peer => 4 | some .schedule => 5 | some .trace => 6,
        a.mask.setWidth 8] ++ set
        ++ ((Condition.all.filter a.latched).flatMap fun c =>
          BitVec.ofNat 8 (c.index.val + 1) :: twoBytes ((a.stamp c).getD 0))
    ∧ set.length = 3
    ∧ (∀ c : Condition, (set.getD (c.index.val / 8) 0).getLsbD (c.index.val % 8) = a.latched c)
    ∧ (set.getD 2 0).getLsbD 6 = false ∧ (set.getD 2 0).getLsbD 7 = false

/-- The kind byte and the extra bytes of a trace record (R177, TABLE 12-4). -/
def kindBytes : TraceKind → Byte × List Byte
  | .snapshot => (1, [0, 0, 0, 0, 0])
  | .step c => (2, [match c with | .own => 0 | .followed => 1 | .directed => 2, 0, 0, 0, 0])
  | .phase c => (3, [match c with | .own => 0 | .followed => 1 | .directed => 2, 0, 0, 0, 0])
  | .mode => (4, [0, 0, 0, 0, 0])
  | .condition c => (5, [BitVec.ofNat 8 (c.index.val + 1), 0, 0, 0, 0])
  | .calibration ok lo hi => (6, (if ok then 0 else 1) :: (twoBytes lo ++ twoBytes hi))
  | .abort => (7, [0, 0, 0, 0, 0])

/-- A record of READ TRACE, 25 bytes (R177, TABLE 12-4). -/
def TraceLayout : Prop :=
  ∀ r : TraceRecord,
    traceRecordData r =
        (kindBytes r.kind).1 :: (twoBytes r.minute
          ++ [BitVec.ofNat 8 (phaseCode r.position), BitVec.ofNat 8 (stepCode r.position), BitVec.ofNat 8 (modeCode r.mode)]
          ++ twoBytes r.basis ++ countBytes r.controlling ++ countBytes (r.wettest.map (·.mc))
          ++ [BitVec.ofNat 8 ((r.wettest.map (·.station)).getD 0), BitVec.ofNat 8 ((r.wettest.map (·.channel)).getD 0)]
          ++ countBytes r.driest ++ tempBytes r.dryBulb ++ tempBytes r.wetBulb ++ (kindBytes r.kind).2)
      ∧ (traceRecordData r).length = 25

/-! ## Frames, reports and records on the kiln bus -/

/-- The computation of a CRC (R42): over no bytes 0xFFFF; each byte enters at the upper end, and the register is shifted eight
times with the polynomial 0x1021. -/
def CrcRule : Prop :=
  crc [] = 0xFFFF
    ∧ (∀ (bs : List Byte) (b : Byte),
      crc (bs ++ [b]) =
        (List.range 8).foldl (fun r _ => if r.msb then (r <<< 1) ^^^ 0x1021#16 else r <<< 1)
          (crc bs ^^^ (b.setWidth 16 <<< 8)))
    ∧ crc [0x31, 0x32, 0x33, 0x34, 0x35, 0x36, 0x37, 0x38, 0x39] = 0x29B1

/-- The bytes of a bus frame, the codes of its kinds and those of the directives (R41, TABLE 3-2, TABLE 3-3, TABLE 8-1). -/
def FrameLayout : Prop :=
  (∀ f : Frame,
    frameBytes f =
      [0xA5, f.kind, BitVec.ofNat 8 f.kiln, BitVec.ofNat 8 f.station] ++ twoBytes f.charge
        ++ [BitVec.ofNat 8 f.payload.length] ++ f.payload
        ++ twoBytes
          (crc
            ([f.kind, BitVec.ofNat 8 f.kiln, BitVec.ofNat 8 f.station] ++ twoBytes f.charge
              ++ [BitVec.ofNat 8 f.payload.length] ++ f.payload)).toNat)
    ∧ FrameKind.safe.code = 0x1E ∧ FrameKind.directive.code = 0x2D ∧ FrameKind.offer.code = 0x3C
    ∧ FrameKind.report.code = 0x4B
    ∧ DirectiveKind.start.code = 1 ∧ DirectiveKind.hold.code = 2 ∧ DirectiveKind.resume.code = 3
    ∧ DirectiveKind.skip.code = 4 ∧ DirectiveKind.abort.code = 5 ∧ DirectiveKind.resetSafe.code = 6

/-- The codes of TABLE 4-3 and the flag byte's bits. -/
def ReportCodes : Prop :=
  roleCode .probe = 1 ∧ roleCode .zone = 2
    ∧ phaseCode .idle = 0 ∧ phaseCode .gather = 1 ∧ phaseCode .warmup = 2 ∧ (∀ k, phaseCode (.drying k) = 3)
    ∧ phaseCode .equalize = 4 ∧ phaseCode .condition = 5 ∧ phaseCode .cool = 6 ∧ phaseCode .complete = 7
    ∧ (∀ k, stepCode (.drying k) = k) ∧ (∀ p, (∀ k, p ≠ .drying k) → stepCode p = 0)
    ∧ modeCode .run = 0 ∧ modeCode .held = 1 ∧ modeCode .safe = 2
    ∧ ∀ f : ReadingFlags, f.toByte = flagByte f

/-- The payload of a report (TABLE 4-1, TABLE 4-2). -/
def ReportLayout : Prop :=
  ∀ d : ReportData,
    reportPayload d =
      [BitVec.ofNat 8 (roleCode d.role), BitVec.ofNat 8 (phaseCode d.position), BitVec.ofNat 8 (stepCode d.position),
        BitVec.ofNat 8 (modeCode d.mode)]
        ++ twoBytes d.basis ++ countBytes d.controlling ++ tempBytes d.dryBulb ++ twoBytes d.check.toNat
        ++ [BitVec.ofNat 8 d.readings.length]
        ++ (d.readings.map fun r => BitVec.ofNat 8 r.channel :: (countBytes r.mc ++ [flagByte r.flags])).flatten

/-- The checks of a received report's fields (R61). -/
def ReportPasses (d : ReportData) : Prop :=
  (∀ k, d.position = .drying k → 1 ≤ k ∧ k ≤ 12) ∧ (d.charge = 0 ↔ d.position = .idle) ∧ (d.charge = 0 → d.check = 0)
    ∧ d.basis ≤ 256 ∧ (d.controlling = none ↔ d.basis = 0) ∧ (∀ m, d.controlling = some m → m ≤ 800)
    ∧ (∀ x, d.dryBulb = some x → -400 ≤ x ∧ x ≤ 1300)
    ∧ d.readings.length ≤ 8 ∧ (d.readings.map (·.channel)).Pairwise (· < ·)
    ∧ ∀ r ∈ d.readings, 1 ≤ r.channel ∧ r.channel ≤ 8 ∧ (∀ m, r.mc = some m → m ≤ 800)
      ∧ ¬(r.flags.openCircuit = true ∧ r.flags.shortCircuit = true) ∧ ¬(r.flags.wetLimit = true ∧ r.flags.dryLimit = true)
      ∧ (r.mc = none ↔ r.flags.openCircuit = true ∨ r.flags.shortCircuit = true ∨ r.flags.invalid = true)

/-- A breakpoint of a record (TABLE 6-1 field 28). -/
def breakpointBytes (p : Breakpoint) : List Byte := twoBytes p.grade ++ twoBytes p.mc

/-- A step of a record (TABLE 6-2). -/
def stepBytes (st : ScheduleStep) : List Byte :=
  twoBytes st.advanceMc ++ signedBytes st.dryBulb ++ twoBytes st.depression
    ++ [match st.basis with | .minutes => (0 : Byte) | .reversals => 1] ++ twoBytes st.hold ++ twoBytes st.maximum

/-- The encoding of a record (R90, TABLE 6-1, TABLE 6-2): the fields in order, the roster in bytes 4 to 7 with a bit to the
station, the probe masks in bytes 10 to 41 with a byte to the station and a bit to the channel. -/
def RecordLayout : Prop :=
  ∀ r : ChargeRecord, ∃ roster masks : List Byte, roster.length = 4 ∧ masks.length = 32
    ∧ encodeRecord r =
      twoBytes r.chargeNumber ++ twoBytes r.chargeCode ++ roster ++ twoBytes r.quorum ++ masks
        ++ [BitVec.ofNat 8 r.tempCoeff] ++ twoBytes r.sweepInterval
        ++ [BitVec.ofNat 8 r.traceInterval, BitVec.ofNat 8 r.warmBand, BitVec.ofNat 8 r.rampRate]
        ++ twoBytes r.kp ++ [BitVec.ofNat 8 r.ki] ++ twoBytes r.kv ++ twoBytes r.ks
        ++ [BitVec.ofNat 8 r.deadBand, BitVec.ofNat 8 r.deviationBand, BitVec.ofNat 8 r.deviationTime]
        ++ twoBytes r.settleWindow ++ twoBytes r.safeVent ++ twoBytes r.finalTarget
        ++ [BitVec.ofNat 8 r.equalizeOffset] ++ twoBytes r.equalizeDepression ++ twoBytes r.equalizeMaximum
        ++ twoBytes r.conditionDepression ++ twoBytes r.conditionTime ++ signedBytes r.coolEnd
        ++ [BitVec.ofNat 8 r.curve.length] ++ (r.curve.map breakpointBytes).flatten
        ++ [BitVec.ofNat 8 r.steps.length] ++ (r.steps.map stepBytes).flatten
    ∧ (∀ station, 1 ≤ station → station ≤ 32 →
      (roster.getD ((station - 1) / 8) 0).getLsbD ((station - 1) % 8) = r.onRoster station
        ∧ ∀ channel, 1 ≤ channel → channel ≤ 8 →
          (masks.getD (station - 1) 0).getLsbD (channel - 1) = r.maskHas station channel)
    ∧ (encodeRecord r).length = 77 + 4 * r.curve.length + 11 * r.steps.length

/-- A field of a record is in its range (TABLE 6-1, TABLE 6-2), by the field's number. -/
def FieldOk (r : ChargeRecord) : Nat → Prop
  | 1 => 1 ≤ r.chargeNumber ∧ r.chargeNumber ≤ 65535
  | 2 => r.chargeCode ≤ 65535
  | 3 => ∃ station, r.onRoster station = true
  | 4 => 1 ≤ r.quorum ∧ r.quorum ≤ 256
  | 5 => ∀ station channel, 1 ≤ station → station ≤ 32 → channel ≤ 8 → r.onRoster station = false →
      r.maskHas station channel = false
  | 6 => r.tempCoeff ≤ 200
  | 7 => 30 ≤ r.sweepInterval ∧ r.sweepInterval ≤ 600
  | 8 => 5 ≤ r.traceInterval ∧ r.traceInterval ≤ 120
  | 9 => 5 ≤ r.warmBand ∧ r.warmBand ≤ 100
  | 10 => 1 ≤ r.rampRate ∧ r.rampRate ≤ 50
  | 11 => r.kp ≤ 500
  | 12 => r.ki ≤ 100
  | 13 => r.kv ≤ 500
  | 14 => r.ks ≤ 500
  | 15 => r.deadBand ≤ 50
  | 16 => 5 ≤ r.deviationBand ∧ r.deviationBand ≤ 200
  | 17 => 1 ≤ r.deviationTime ∧ r.deviationTime ≤ 60
  | 18 => r.settleWindow ≤ 300
  | 19 => r.safeVent ≤ 1000
  | 20 => r.finalTarget ≤ 800
  | 21 => r.equalizeOffset ≤ 100
  | 22 => r.equalizeDepression ≤ 400
  | 23 => r.equalizeMaximum ≤ 10080
  | 24 => r.conditionDepression ≤ 400
  | 25 => r.conditionTime ≤ 1440
  | 26 => 200 ≤ r.coolEnd ∧ r.coolEnd ≤ 1100
  | 27 => 2 ≤ r.curve.length ∧ r.curve.length ≤ 10
  | 28 => (∀ p ∈ r.curve, 400 ≤ p.grade ∧ p.grade ≤ 1300 ∧ p.mc ≤ 800)
      ∧ r.curve.Pairwise fun p q => p.grade < q.grade ∧ q.mc ≤ p.mc
  | 29 => 1 ≤ r.steps.length ∧ r.steps.length ≤ 12
  | 30 => (∀ st ∈ r.steps,
        st.advanceMc ≤ 800 ∧ 200 ≤ st.dryBulb ∧ st.dryBulb ≤ 1100 ∧ st.depression ≤ 400
          ∧ st.hold ≤ (match st.basis with | .minutes => 1440 | .reversals => 255) ∧ st.maximum ≤ 10080)
      ∧ r.steps.Pairwise fun st st' => st'.advanceMc ≤ st.advanceMc
  | _ => True

/-- A record is valid exactly when each of its thirty fields is in its range (R93). -/
def RecordRanges : Prop := ∀ r : ChargeRecord, r.valid = true ↔ ∀ k, FieldOk r k

/-- Every field of a record fits its bytes, and the two counts are in range, so that its encoding passes the structural stage
(R90, R92). -/
def ChargeRecord.Fits (r : ChargeRecord) : Prop :=
  (∀ n ∈ [r.chargeNumber, r.chargeCode, r.quorum, r.sweepInterval, r.kp, r.kv, r.ks, r.settleWindow, r.safeVent,
      r.finalTarget, r.equalizeDepression, r.equalizeMaximum, r.conditionDepression, r.conditionTime], n ≤ 65535)
    ∧ (∀ n ∈ [r.tempCoeff, r.traceInterval, r.warmBand, r.rampRate, r.ki, r.deadBand, r.deviationBand, r.deviationTime,
      r.equalizeOffset], n ≤ 255)
    ∧ -32768 ≤ r.coolEnd ∧ r.coolEnd ≤ 32767
    ∧ FieldOk r 27 ∧ (∀ p ∈ r.curve, p.grade ≤ 65535 ∧ p.mc ≤ 65535)
    ∧ FieldOk r 29
    ∧ ∀ st ∈ r.steps, st.advanceMc ≤ 65535 ∧ -32768 ≤ st.dryBulb ∧ st.dryBulb ≤ 32767 ∧ st.depression ≤ 65535
      ∧ st.hold ≤ 65535 ∧ st.maximum ≤ 65535

/-! ## Conversion and conditions -/

/-- Rounding half away from zero (0.7.2), and the samples' mean and spread (R22). -/
def RoundingRules : Prop :=
  (∀ a b : Int, 0 < b → halfAway a b = if 0 ≤ a then (2 * a + b) / (2 * b) else -((-2 * a + b) / (2 * b)))
    ∧ ∀ a b c d : Nat,
      meanOfFour [a, b, c, d] = (a + b + c + d + 2) / 4
        ∧ spreadOf [a, b, c, d] = max (max a b) (max c d) - min (min a b) (min c d)

/-- The shared inputs of a conversion (R19, R29, TABLE 2-3). -/
def ConversionRules : Prop :=
  ∀ s : State,
    s.conversionInputs.mLo = s.frontEnd.mLo ∧ s.conversionInputs.mHi = s.frontEnd.mHi
      ∧ s.conversionInputs.refFault = s.frontEnd.refFault ∧ s.conversionInputs.dryBulb = s.dryBulb
      ∧ s.dryBulb =
        (match s.sensors.dry.state with
        | .valid | .holding => s.sensors.dry.lastValid
        | .awaiting | .lost => none)
      ∧ (∀ r, s.store.current = some r →
        s.conversionInputs.curve = r.record.curve ∧ s.conversionInputs.coeff = r.record.tempCoeff)
      ∧ (s.store.current = none →
        s.conversionInputs.curve =
            [⟨560, 600⟩, ⟨620, 400⟩, ⟨680, 300⟩, ⟨740, 240⟩, ⟨800, 200⟩, ⟨860, 165⟩, ⟨920, 135⟩, ⟨980, 110⟩, ⟨1060, 85⟩,
              ⟨1160, 60⟩]
          ∧ s.conversionInputs.coeff = 80)

/-- The conditions by class in the order of TABLE 10-1, and the classes from highest to lowest (R163). -/
def ConditionTable : Prop :=
  (∀ x ∈ [(CondClass.fatal, [Condition.safe, .addressClash]), (.climate, [.wetBulbFault, .climateDeviation, .heatCutoff]),
      (.probe, [.referenceFault, .temperatureFault]),
      (.peer, [.peerStale, .rosterShort, .unlistedStation, .recordClash, .offerClash, .badOffer, .frameDropped, .lineBlocked]),
      (.schedule, [.stepAdvanced, .phaseEntered, .stepOvertime, .pictureShort, .chargeMissing, .codeMismatch]),
      (.trace, [.traceOverrun])], ∀ c, c.cls = x.1 ↔ c ∈ x.2)
    ∧ CondClass.fatal.bit = 0 ∧ CondClass.climate.bit = 1 ∧ CondClass.probe.bit = 2 ∧ CondClass.peer.bit = 3
    ∧ CondClass.schedule.bit = 4 ∧ CondClass.trace.bit = 5

/-- The cause of a persistent condition holds (R160); the other conditions have none. -/
def State.PersistentCause (s : State) (c : Condition) : Prop :=
  c = .safe ∧ s.schedule.mode = .safe ∨ c = .addressClash ∧ s.bus.clash = true
    ∨ c = .wetBulbFault ∧ (s.sensors.wet.state = .holding ∨ s.sensors.wet.state = .lost)
    ∨ c = .referenceFault ∧ s.frontEnd.refFault = true
    ∨ c = .temperatureFault ∧ (s.sensors.dry.state = .holding ∨ s.sensors.dry.state = .lost)
    ∨ c = .lineBlocked ∧ s.bus.lineBlocked = true

/-- An attention level is the highest class that holds a latched condition, and NONE with none latched (R163). -/
def Attention.HasLevel (a : Attention) (level : Option CondClass) : Prop :=
  (level = none ↔ ∀ c, a.stamp c = none)
    ∧ ∀ k, level = some k ↔
      (∃ c : Condition, c.cls = k ∧ a.stamp c ≠ none) ∧ ∀ c : Condition, a.stamp c ≠ none → k.bit ≤ c.cls.bit

/-- An attention output is asserted exactly when a latched condition is of FATAL or of an enabled class (R161, R162). -/
def Attention.HasOutput (a : Attention) (output : Bool) : Prop :=
  output = true ↔ ∃ c : Condition, a.stamp c ≠ none ∧ (c.cls = .fatal ∨ a.mask.getLsbD c.cls.bit = true)

/-! ## What holds at every moment -/

/-- FATAL is enabled, and the attention output and level are those that the latched conditions and the mask give
(R161, R162, R163). -/
def State.AttentionJudged (s : State) : Prop :=
  s.attention.mask.getLsbD 0 = true ∧ s.attention.output = s.attention.outputOf
    ∧ s.attention.level = s.attention.levelOf

/-- A record in a rank is valid and has its own check (R91, R93, R94). -/
def RankedRecord.Sound (r : RankedRecord) : Prop := r.record.valid = true ∧ r.check = recordCheck r.record

/-- Each rank holds no record or a valid one with its check, and two records differ in their charge numbers (R94). -/
def State.RanksSound (s : State) : Prop :=
  (∀ r, s.store.staged = some r → r.Sound) ∧ (∀ r, s.store.current = some r → r.Sound)
    ∧ ∀ a b, s.store.staged = some a → s.store.current = some b → a.record.chargeNumber ≠ b.record.chargeNumber

/-- The position is IDLE exactly when the current rank is empty, and a step of DRYING is one the record has (R106). -/
def State.PositionSound (s : State) : Prop :=
  (s.schedule.position = .idle ↔ s.store.current = none)
    ∧ ∀ r, s.store.current = some r → (positionRank r.record.stepCount s.schedule.position).isSome = true

/-- While the address-clash latch is set no slot is set, no attempt runs and the line-blocked timer is stopped (R45). -/
def State.ClashSilent (s : State) : Prop :=
  s.bus.clash = true → s.bus.slots = Slots.empty ∧ s.bus.attempt = none ∧ s.bus.blockedTimer = 0

/-- A set OFFER slot names a rank that holds a record (R48). -/
def State.OfferNamed (s : State) : Prop :=
  ∀ o, s.bus.slots.offer = some o →
    (match o.rank with | .staged => s.store.staged | .current => s.store.current) ≠ none

/-- The line-blocked timer runs only while a slot is eligible (R54). -/
def State.BlockedTimed (s : State) : Prop := s.bus.blockedTimer ≠ 0 → ∃ k, s.bus.slots.eligible k = true

/-- What a PROBE station does not do (R14, R141): its outputs, its heat integral, its settle timer and its deviation count stand at
0, its wet-bulb is never sampled, and none of the three conditions of a ZONE station is latched. -/
def State.ProbeAtRest (s : State) : Prop :=
  s.straps.role = .probe →
    s.climate.heat = 0 ∧ s.climate.vent = 0 ∧ s.climate.spray = 0 ∧ s.climate.integral = 0 ∧ s.climate.settleTimer = 0
      ∧ s.climate.deviation = 0 ∧ s.sensors.wet = { state := .awaiting, lastValid := none, holdTimer := 0 }
      ∧ s.attention.stamp .wetBulbFault = none ∧ s.attention.stamp .heatCutoff = none
      ∧ s.attention.stamp .climateDeviation = none

/-- The outputs and the heat integral lie in their ranges, vent and spray are not both above 0, and a PROBE station drives
nothing (R141, R142, R149, R150). -/
def State.OutputsBounded (s : State) : Prop :=
  s.climate.heat ≤ 1000 ∧ s.climate.vent ≤ 1000 ∧ s.climate.spray ≤ 1000
    ∧ (s.climate.vent = 0 ∨ s.climate.spray = 0) ∧ -1000 ≤ s.climate.integral ∧ s.climate.integral ≤ 1000
    ∧ (s.straps.role = .probe → s.climate.heat = 0 ∧ s.climate.vent = 0 ∧ s.climate.spray = 0)

/-- The regime is the one of TABLE 9-3, and outside LOOPS the outputs are that regime's: no heat, no spray, and the vent of
the table on a ZONE station (R146). -/
def State.RegimeSound (s : State) : Prop :=
  s.climate.regime = tableRegime s.schedule.mode s.schedule.position
    ∧ (s.climate.regime ≠ .loops →
        s.climate.integral = 0 ∧ s.climate.heat = 0 ∧ s.climate.spray = 0
          ∧ (s.straps.role = .zone → s.climate.vent = tableVent s.currentRecord s.climate.regime))

/-- A reading of the own readings table: a moisture value exactly where no flag denies it, and in range (R20, R28, R33). -/
def Reading.Sound (r : Reading) : Prop := r.mc.isSome = !r.flags.noValue ∧ ∀ m, r.mc = some m → m ≤ 800

/-- The own readings table holds no readings, or one for each channel in ascending order, each sound (R21). -/
def State.ReadingsSound (s : State) : Prop :=
  (s.readings = [] ∨ s.readings.map (·.channel) = [1, 2, 3, 4, 5, 6, 7, 8]) ∧ ∀ r ∈ s.readings, r.Sound

/-- The BUSY list holds at most four kinds, and none while no response is being sent (R174). -/
def State.PortSound (s : State) : Prop :=
  s.port.busy.length ≤ busyMost ∧ (s.port.sending = none → s.port.busy = [])

/-- All the properties that every step keeps. -/
structure State.Sound (s : State) : Prop where
  ring : s.RingBounded
  attention : s.AttentionJudged
  ranks : s.RanksSound
  position : s.PositionSound
  clash : s.ClashSilent
  offer : s.OfferNamed
  blocked : s.BlockedTimed
  outputs : s.OutputsBounded
  regime : s.RegimeSound
  probe : s.ProbeAtRest
  readings : s.ReadingsSound
  port : s.PortSound

/-- The rank of the position under the current record, none in IDLE without one (R106). -/
def State.currentRank (s : State) : Option Nat :=
  s.store.current.bind fun r => positionRank r.record.stepCount s.schedule.position

end Sys2Proof.Machine
end

