-- ==== Sys2Proof/WellFormed.lean ====
section
/-! DEFINITION. Which operands of a command name something the module has: a strap setting, a peer table entry. -/

namespace Sys2Proof

/-- A station number of the strap and of the peer table (R40, R60). -/
def validStation (n : Nat) : Bool := decide (1 ≤ n) && decide (n ≤ 32)

/-- A setting of the kiln-number strap (R40). -/
def validKiln (n : Nat) : Bool := decide (n ≤ 15)

/-- The well-formedness of a command: POWER_ON carries strap settings that exist, and the two ageing events name an
entry of the peer table. Every other operand is as the line or the input gives it, and the rules judge it. -/
def Instr.wellFormed : Instr → Bool
  | .powerOn station kiln _ _ _ => validStation station && validKiln kiln
  | .peerEntryStale station => validStation station
  | .peerEntryEmptied station => validStation station
  | .measurementWindowEnd _ | .calibrationSweepComplete | .probeSweepComplete | .sweepIntervalExpiry
  | .calibrationTimerExpiry | .controlPeriod _ _ | .holdTimerExpiry _ | .deviationLimit | .settleTimerExpiry
  | .frameDiscarded _ | .reportReceived _ | .offerReceived _ | .safeFrameReceived _ | .startDirectiveReceived _
  | .holdDirectiveReceived _ | .resumeDirectiveReceived _ | .skipDirectiveReceived _ | .abortDirectiveReceived _
  | .resetSafeDirectiveReceived _ | .attemptBegin | .attemptFail | .attemptComplete | .spacingTimerExpiry
  | .quietGap | .lineBlockedTimerExpiry | .reportTimerExpiry | .reofferHoldoffExpiry | .minuteTick
  | .stepTimerExpiry | .overtimeLimit | .conditionTimerExpiry | .gatherTimerExpiry | .snapshotTimerExpiry
  | .fanReversal | .emergencyAssertion | .emergencyRelease | .loadCharge _ | .clearStaged | .directiveStart _ _
  | .directiveHold _ _ | .directiveResume _ _ | .directiveSkip _ _ _ _ | .directiveAbort _ _
  | .directiveResetSafe _ _ | .calibrate | .readPicture | .readReadings | .readPeer _ | .readClimate | .readState
  | .readConditions | .clearConditions _ | .setAttentionMask _ | .readTrace | .unknownRequest _ | .gapTimerExpiry
  | .responseEnd | .serviceByteReceived _ _ | .startBitSeen => true

end Sys2Proof
end

