-- ==== Sys2Proof/Certificates/Slice0/Obligations.lean ====
section
/-! DEFINITION. The statements for the provers, in the order of the manual's chapters. Where a statement says that an event
answers a next state, its other conjuncts say what that state holds and which blocks it leaves alone. -/

open Sys2Proof Sys2Proof.Machine

/-! ## The step and the commands -/

/-- The model's choice (log entry 20): the waiting commands stand in a queue, which the manual does not have. One step takes the
command at its front, an event of 0.7.7, and runs it on the state with the queue's rest. -/
def Obligations.StepRunsFrontCommand : Prop :=
  ∀ (c : Instr) (rest : List Instr) (s : State),
    step (s.setPending (c :: rest)) = exec c (s.setPending rest)

/-- The model's choice (log entries 3, 4 and 28): a bit time with no command waiting, at which no event falls, is this new state and
no other. Every running timer counts down by one, the gather timer in RUN alone, and every entry of the peer table ages by one
bit time (R64, R112). On the kiln bus (R37 to R39, R49) the line is dominant where the station or another drives it so. Between
bytes the count rises at a recessive level, and a dominant level after a recessive one is a start bit, which begins a run if the
count has passed 20. In a byte the level is sampled, the tenth level after the start bit ends the byte, and an own bit read back
otherwise than sent releases the line. On the service port (R172) a start bit stops the gap timer, and the bits after it are
sampled; that the start bit is a 0 and an idle line 1 is log entry 29 (PRESUMED), and that it must follow a 1 is log entry 31
(DESIGN CHOICE). -/
def Obligations.IdleBitTimeOnlyCounts : Prop :=
  ∀ (s : State) (own others l : Level) (bit : Bool), s.pending = [] → fallingEvents s (countAll s) = [] →
    own =
        (match s.bus.attempt with
        | some a =>
          if a.released then .recessive
          else (a.bytes.flatMap byteLevels).getD (11 * a.bytes.length - s.bus.byteBits) .recessive
        | none => .recessive) →
    others = s.wires.kiln.headD .recessive →
    l = (if own = .dominant ∨ others = .dominant then .dominant else .recessive) →
    bit = s.wires.service.headD true →
    ∃ (line : Bus) (wire : Port),
      line =
          (if s.bus.byteBits = 0 then
            if l = .recessive then { s.bus with quiet := s.bus.quiet + 1, lastLevel := .recessive }
            else if s.bus.lastLevel = .recessive then
              { s.bus with
                quiet := 0, byteBits := 10, levels := [], lastLevel := .dominant
                runOpen := s.bus.runOpen || decide (20 < s.bus.quiet)
                runBytes := if 20 < s.bus.quiet then some [] else s.bus.runBytes
                ownSent := if 20 < s.bus.quiet then none else s.bus.ownSent }
            else s.bus
          else
            { s.bus with
              byteBits := s.bus.byteBits - 1, lastLevel := l
              levels :=
                if s.bus.byteBits % 11 = 0 then s.bus.levels
                else if s.bus.byteBits % 11 = 1 then []
                else s.bus.levels ++ [l]
              runBytes :=
                if s.bus.byteBits % 11 = 1 ∧ s.bus.runOpen = true then
                  s.bus.runBytes.map fun bs => bs ++ [sampledByte (s.bus.levels ++ [l])]
                else s.bus.runBytes
              attempt := s.bus.attempt.map fun a => { a with released := a.released || decide (own ≠ l) } })
        ∧ wire =
          (match s.port.rxBits with
          | some bits =>
            { s.port with rxBits := some (bits ++ [bit]), rxLast := bit, gapTimer := s.port.gapTimer - 1 }
          | none =>
            if bit = false ∧ s.port.rxLast = true then
              { s.port with rxBits := some [], rxLast := bit, gapTimer := 0 }
            else { s.port with rxLast := bit, gapTimer := s.port.gapTimer - 1 })
        ∧ step s =
          .next
            { s with
              wires := { kiln := s.wires.kiln.drop 1, service := s.wires.service.drop 1 }
              frontEnd :=
                { s.frontEnd with
                  windowTimer := s.frontEnd.windowTimer - 1, intervalTimer := s.frontEnd.intervalTimer - 1
                  calTimer := s.frontEnd.calTimer - 1 }
              sensors :=
                { controlTimer := s.sensors.controlTimer - 1
                  dry := { s.sensors.dry with holdTimer := s.sensors.dry.holdTimer - 1 }
                  wet := { s.sensors.wet with holdTimer := s.sensors.wet.holdTimer - 1 } }
              bus :=
                { line with
                  slots := { s.bus.slots with spacing := s.bus.slots.spacing - 1 }
                  blockedTimer := s.bus.blockedTimer - 1 }
              peers :=
                { entries := s.peers.entries.map fun e => e.map fun h => { h with age := h.age + 1 }
                  reportTimer := s.peers.reportTimer - 1 }
              store := { s.store with holdoff := s.store.holdoff - 1 }
              schedule :=
                { s.schedule with
                  minuteTimer := s.schedule.minuteTimer - 1
                  gatherTimer :=
                    if s.schedule.mode = .run then s.schedule.gatherTimer - 1 else s.schedule.gatherTimer }
              climate := { s.climate with settleTimer := s.climate.settleTimer - 1 }
              port := { wire with sending := s.port.sending.map fun r => { r with bitsLeft := r.bitsLeft - 1 } } }

/-- The model's choice of a step (log entries 3 and 28): what an idle bit time at which one event alone falls does, for each of
the clock's events, after every timer and line has counted. Most are taken as their rows are: the report timer's end (R56)
loads it with 10 s and sets the REPORT slot; a run whose end the line shows at the count of 21 is taken as the row of its
frame's kind or is discarded (R43, R44); a byte on the receive wire is taken as its row (R172), and the gap timer's end unless
a start bit has just stopped it; an entry goes STALE or EMPTY (R64). The others are taken so: a window's end shows a free
grade and also completes the sweep whose last window it is (log entries 6 and 13); a control period shows free temperatures
(log entry 6); an attempt that fails keeps the run's bytes, which the line has shown (log entry 12); and an attempt begins
(R47), but where another start bit comes at its first bit time a free order may have it wait (R48, log entry 5). -/
def Obligations.IdleBitTimeTakesReportTimer : Prop :=
  ∀ s : State, s.pending = [] →
    (fallingEvents s (countAll s) = [.reportTimer] →
      ∃ t, step s = .next t ∧ t.peers.reportTimer = 192000
        ∧ t.bus.slots.report = (if s.bus.clash then s.bus.slots.report else some (s.bus.slots.report.getD 0))
        ∧ t.bus.slots.offer = s.bus.slots.offer ∧ t.bus.slots.safe = s.bus.slots.safe
        ∧ t.bus.slots.directive = s.bus.slots.directive)
      ∧ (∀ x ∈ [(ClockEvent.reportTimer, Instr.reportTimerExpiry), (.sweepInterval, .sweepIntervalExpiry),
          (.calibrationTimer, .calibrationTimerExpiry), (.holdTimer .dryBulb, .holdTimerExpiry .dryBulb),
          (.holdTimer .wetBulb, .holdTimerExpiry .wetBulb), (.settleTimer, .settleTimerExpiry),
          (.attemptComplete, .attemptComplete), (.spacingTimer, .spacingTimerExpiry), (.quietGap, .quietGap),
          (.lineBlockedTimer, .lineBlockedTimerExpiry), (.reofferHoldoff, .reofferHoldoffExpiry),
          (.minuteTick, .minuteTick), (.gatherTimer, .gatherTimerExpiry), (.responseEnd, .responseEnd)],
        fallingEvents s (countAll s) = [x.1] → step s = exec x.2 (countAll s))
      ∧ (∀ n, (fallingEvents s (countAll s) = [.entryStale n] → step s = exec (.peerEntryStale n) (countAll s))
          ∧ (fallingEvents s (countAll s) = [.entryEmptied n] → step s = exec (.peerEntryEmptied n) (countAll s)))
      ∧ (fallingEvents s (countAll s) = [.gapTimer] →
          step s = (if (countAll s).port.gapTimer = 1 then exec .gapTimerExpiry (countAll s) else .next (countAll s)))
      ∧ (∀ bits, fallingEvents s (countAll s) = [.serviceByte] → (countAll s).port.rxBits = some bits →
          step s =
            exec (.serviceByteReceived (byteOfBits (bits.take 8)) (bits.getD 8 false))
              ((countAll s).setPort { (countAll s).port with rxBits := none }))
      ∧ (fallingEvents s (countAll s) = [.windowEnd] →
          ∃ t u, exec (.measurementWindowEnd (Config.freeGrade s.freeIndex)) (countAll s) = .next t
            ∧ u = t.setFreeIndex (s.freeIndex + 1)
            ∧ step s =
              (match t.frontEnd.sweep with
              | .idleFe => .next u
              | .calSweep => exec .calibrationSweepComplete u
              | .probeSweep => exec .probeSweepComplete u))
      ∧ (fallingEvents s (countAll s) = [.controlPeriod] →
          ∃ t, exec (.controlPeriod (Config.freeDryBulb s.freeIndex) (Config.freeWetBulb s.freeIndex)) (countAll s) = .next t
            ∧ step s = .next (t.setFreeIndex (s.freeIndex + 1)))
      ∧ (fallingEvents s (countAll s) = [.attemptFail] →
          ∃ t, exec .attemptFail (countAll s) = .next t
            ∧ step s = .next (t.setBus { t.bus with runBytes := (countAll s).bus.runBytes }))
      ∧ (fallingEvents s (countAll s) = [.attemptBegin] →
          step s =
            (if (countAll s).wires.kiln.headD .recessive = .recessive then exec .attemptBegin (countAll s)
            else if Config.freeOrder s.freeIndex then exec .attemptBegin ((countAll s).setFreeIndex (s.freeIndex + 1))
            else .next ((countAll s).setFreeIndex (s.freeIndex + 1))))
      ∧ ∀ run : List LineByte, fallingEvents s (countAll s) = [.runEnd] → (countAll s).bus.runBytes = some run →
          ((judgeRun run = none ∨ ∃ f, judgeRun run = some f ∧ f.kind ∉ [0x1E#8, 0x2D, 0x3C, 0x4B]) →
            step s = exec (.frameDiscarded run) (countAll s))
          ∧ ∀ f : Frame, judgeRun run = some f →
            (f.kind = 0x4B → step s = exec (.reportReceived run) (countAll s))
              ∧ (f.kind = 0x3C → step s = exec (.offerReceived run) (countAll s))
              ∧ (f.kind = 0x1E → step s = exec (.safeFrameReceived run) (countAll s))
              ∧ ∀ k, f.kind = 0x2D →
                (f.payload.head? = some (BitVec.ofNat 8 k.code) ∨ (∀ b, f.payload.head? = some b → 6 < b.toNat ∨ b = 0)) →
                step s = exec (receivedRow run k) (countAll s)

/-- R40, R60: every command whose operands name a strap setting or an entry that exists takes a next state; the others are
refused by name (log entry 23), and nothing faults. -/
def Obligations.WellFormedCommandsComplete : Prop :=
  ∀ (c : Instr) (s : State),
    (c.wellFormed = true → ∃ t, exec c s = .next t)
      ∧ (c.wellFormed = false →
          exec c s = .refused .noSuchSetting ∧ (∃ n k r e f, c = .powerOn n k r e f)
            ∨ exec c s = .refused .noSuchEntry ∧ ∃ n, c = .peerEntryStale n ∨ c = .peerEntryEmptied n)

/-- R40: no command but POWER_ON changes the straps as read. The queue, what the serial wires bring at the coming bit times, and the
free-value index are the model's own, and no command changes them (log entries 20, 26 and 28). -/
def Obligations.CommandsKeepStrapsAndQueue : Prop :=
  ∀ (c : Instr) (s t : State), exec c s = .next t →
    t.pending = s.pending ∧ t.wires = s.wires ∧ t.freeIndex = s.freeIndex
      ∧ ((∀ n k r e f, c ≠ .powerOn n k r e f) → t.straps = s.straps)

/-! ## Power-on -/

/-- R18, R21, R55, R60, R74, R94, R125, R161, R167, R179: power-on with the emergency input released sets every block to the
values of TABLE 1-5, 3-5, 7-3 and 9-1, with the calibration sweep just started. What the tables do not name is the model's: the
queue, the wires and the free-value index are kept (log entry 26, DESIGN CHOICE), the kiln bus is taken as recessive before (log
entry 28, DEDUCED), and the receive wire of the service port as 1 (log entry 29, PRESUMED). -/
def Obligations.PowerOnSetsEveryBlock : Prop :=
  ∀ (station kiln : Nat) (role : Role) (fan : Bool) (s : State), 1 ≤ station → station ≤ 32 → kiln ≤ 15 →
    ∃ t, exec (.powerOn station kiln role false fan) s = .next t
      ∧ t.straps = { station, kiln, role } ∧ t.pins = { emergency := false, fan }
      ∧ t.frontEnd =
          { sweep := .calSweep, calRequest := false, samples := [], mLo := 700, mHi := 1000, refFault := false
            windowTimer := 9600, intervalTimer := 0, calTimer := 0 }
      ∧ t.sensors =
          { controlTimer := 76800, dry := { state := .awaiting, lastValid := none, holdTimer := 0 }
            wet := { state := .awaiting, lastValid := none, holdTimer := 0 } }
      ∧ t.readings = []
      ∧ t.bus =
          { quiet := 0, byteBits := 0, levels := [], lastLevel := .recessive, runOpen := false, runBytes := some []
            ownSent := none
            slots := { safe := none, directive := none, spacing := 0, offer := none, report := none }
            attempt := none, blockedTimer := 0, lineBlocked := false, clash := false }
      ∧ (∀ n, t.peers.entry n = none) ∧ t.peers.reportTimer = 192000
      ∧ t.picture = none
      ∧ t.store = { staged := none, current := none, holdoff := 0 }
      ∧ t.schedule =
          { position := .idle, mode := .run, stepTimer := 0, overtime := 0, conditionTimer := 0, gatherTimer := 0
            gatherArmed := false, minute := 0, minuteTimer := 1152000, safeOrigin := none }
      ∧ t.climate =
          { targetDry := none, targetDep := none, spActive := none, activeDep := none, regime := .off, integral := 0
            heat := 0, vent := 0, spray := 0, settleTimer := 0, deviation := 0 }
      ∧ (∀ c, t.attention.stamp c = none) ∧ (∀ k, t.attention.enabled k = true)
      ∧ t.attention.output = false ∧ t.attention.level = none
      ∧ t.trace = { records := [], snapshotTimer := 0 }
      ∧ t.port = { rx := .hunt, gapTimer := 0, rxBits := none, rxLast := true, sending := none, busy := [] }
      ∧ OnlyChanges
          [.straps, .pins, .frontEnd, .sensors, .readings, .bus, .peers, .picture, .store, .schedule, .climate,
            .attention, .trace, .port] s t

/-- R135, R136: an emergency input found asserted at power-on is one assertion, taken after every block's values are set. -/
def Obligations.PowerOnWithEmergencyEntersSafe : Prop :=
  ∀ (station kiln : Nat) (role : Role) (fan : Bool) (s : State), 1 ≤ station → station ≤ 32 → kiln ≤ 15 →
    ∃ t, exec (.powerOn station kiln role true fan) s = .next t
      ∧ t.pins = { emergency := true, fan }
      ∧ t.schedule.mode = .safe ∧ t.schedule.position = .idle
      ∧ t.schedule.safeOrigin = some { station, cause := 0x01 }
      ∧ t.bus.slots = { safe := some 0, directive := none, spacing := 0, offer := none, report := none }
      ∧ t.bus.blockedTimer = 38400
      ∧ (∀ c, t.attention.stamp c = if c = .safe then some 0 else none)
      ∧ t.attention.output = true ∧ t.attention.level = some .fatal
      ∧ t.trace.records.map (·.kind) = [.mode, .condition .safe]
      ∧ t.climate.regime = .safe ∧ t.climate.heat = 0 ∧ t.climate.spray = 0
      ∧ t.climate.vent = (match role with | .zone => 1000 | .probe => 0)
      ∧ t.frontEnd.sweep = .calSweep ∧ t.store = { staged := none, current := none, holdoff := 0 }

/-! ## Probe front end (01) -/

/-- R2, R4, R5: the end of a window of the sweep in progress puts its sample, saturated at 300 and 1400, behind the samples taken,
and begins the next window unless it was the sweep's last. That the operand is a grade is the model's choice (log entry 22), and
so is that the last window's end leaves the sweep's completion to its own row (log entry 13). -/
def Obligations.WindowEndStoresSample : Prop :=
  ∀ (grade : Nat) (s : State) (windows : Nat),
    (s.frontEnd.sweep = .calSweep ∧ windows = 8 ∨ s.frontEnd.sweep = .probeSweep ∧ windows = 32) →
    s.frontEnd.samples.length < windows →
    exec (.measurementWindowEnd grade) s =
      .next
        (s.setFrontEnd
          { s.frontEnd with
            samples := s.frontEnd.samples ++ [if grade < 300 then 300 else if 1400 < grade then 1400 else grade]
            windowTimer := if s.frontEnd.samples.length + 1 = windows then 0 else 9600 })

/-- R8, R10: the completion of a calibration sweep whose two means and two spreads are within bounds takes the new pair, clears
the latch, loads the calibration timer, writes the CALIBRATION record and starts a probe sweep. -/
def Obligations.CalibrationSucceeds : Prop :=
  ∀ (s : State) (a b c d e f g h : Nat),
    s.frontEnd.sweep = .calSweep → s.frontEnd.samples = [a, b, c, d, e, f, g, h] →
    675 ≤ (a + b + c + d + 2) / 4 → (a + b + c + d + 2) / 4 ≤ 725 →
    975 ≤ (e + f + g + h + 2) / 4 → (e + f + g + h + 2) / 4 ≤ 1025 →
    max (max a b) (max c d) - min (min a b) (min c d) ≤ 16 →
    max (max e f) (max g h) - min (min e f) (min g h) ≤ 16 →
    ∃ t, exec .calibrationSweepComplete s = .next t
      ∧ t.frontEnd =
          { sweep := .probeSweep, calRequest := s.frontEnd.calRequest, samples := []
            mLo := (a + b + c + d + 2) / 4, mHi := (e + f + g + h + 2) / 4, refFault := false, windowTimer := 9600
            intervalTimer := 19200 * (s.currentRecord.map (·.sweepInterval)).getD 60
            calTimer := 69120000 }
      ∧ t.trace.records.getLast? =
          some (s.traceRecord (.calibration true ((a + b + c + d + 2) / 4) ((e + f + g + h + 2) / 4)))
      ∧ OnlyChanges [.frontEnd, .trace, .attention] s t

/-- R8, R11, R34: the completion of a calibration sweep that fails keeps the pair, sets the latch, re-marks the own readings
table, latches REFERENCE FAULT, loads the calibration timer and starts a probe sweep. -/
def Obligations.CalibrationFails : Prop :=
  ∀ (s : State) (a b c d e f g h : Nat),
    s.frontEnd.sweep = .calSweep → s.frontEnd.samples = [a, b, c, d, e, f, g, h] →
    ((a + b + c + d + 2) / 4 < 675 ∨ 725 < (a + b + c + d + 2) / 4 ∨ (e + f + g + h + 2) / 4 < 975
      ∨ 1025 < (e + f + g + h + 2) / 4 ∨ 16 < max (max a b) (max c d) - min (min a b) (min c d)
      ∨ 16 < max (max e f) (max g h) - min (min e f) (min g h)) →
    ∃ t, exec .calibrationSweepComplete s = .next t
      ∧ t.frontEnd =
          { s.frontEnd with
            sweep := .probeSweep, samples := [], refFault := true, windowTimer := 9600
            intervalTimer := 19200 * (s.currentRecord.map (·.sweepInterval)).getD 60
            calTimer := 69120000 }
      ∧ t.readings = s.readings.map (fun r => { r with mc := none, flags := { r.flags with invalid := true } })
      ∧ t.attention.latched .referenceFault = true
      ∧ s.traceRecord (.calibration false ((a + b + c + d + 2) / 4) ((e + f + g + h + 2) / 4)) ∈ t.trace.records
      ∧ OnlyChanges [.frontEnd, .trace, .attention, .readings] s t

/-- R3, R12, R19, R70, R75: the completion of a probe sweep replaces the own readings table by the eight conversions under the
inputs that stand, builds the picture from it, writes the own entry last, and leaves PROBE_SWEEP. -/
def Obligations.ProbeSweepCompletes : Prop :=
  ∀ s : State, s.frontEnd.sweep = .probeSweep → s.frontEnd.samples.length = 32 →
    1 ≤ s.straps.station → s.straps.station ≤ 32 →
    ∃ t, exec .probeSweepComplete s = .next t
      ∧ t.readings =
          [convertChannel s.conversionInputs 1 (s.frontEnd.samples.take 4),
           convertChannel s.conversionInputs 2 ((s.frontEnd.samples.drop 4).take 4),
           convertChannel s.conversionInputs 3 ((s.frontEnd.samples.drop 8).take 4),
           convertChannel s.conversionInputs 4 ((s.frontEnd.samples.drop 12).take 4),
           convertChannel s.conversionInputs 5 ((s.frontEnd.samples.drop 16).take 4),
           convertChannel s.conversionInputs 6 ((s.frontEnd.samples.drop 20).take 4),
           convertChannel s.conversionInputs 7 ((s.frontEnd.samples.drop 24).take 4),
           convertChannel s.conversionInputs 8 (s.frontEnd.samples.drop 28)]
      ∧ t.picture = some (pictureOf s.currentRecord (s.setReadings t.readings).accepted)
      ∧ t.peers.entry s.straps.station = some { state := .fresh, data := t.reportData, age := 0 }
      ∧ (∀ n, n ≠ s.straps.station → t.peers.entry n = s.peers.entry n)
      ∧ t.peers.reportTimer = s.peers.reportTimer
      ∧ t.frontEnd =
          (if s.frontEnd.calRequest then
            { s.frontEnd with sweep := .calSweep, calRequest := false, samples := [], windowTimer := 9600 }
          else { s.frontEnd with sweep := .idleFe, windowTimer := 0 })
      ∧ OnlyChanges [.frontEnd, .readings, .picture, .peers, .schedule, .climate, .trace, .attention] s t

/-- R6, R7, R8: the sweep-interval timer's expiry starts a probe sweep in IDLE_FE and nothing in CAL_SWEEP; the calibration
timer's expiry sets the calibrate-request flag, which in IDLE_FE starts a calibration sweep at once. -/
def Obligations.SweepTimersExpire : Prop :=
  ∀ s : State,
    (s.frontEnd.sweep = .idleFe →
        exec .sweepIntervalExpiry s =
          .next
            (s.setFrontEnd
              { s.frontEnd with
                sweep := .probeSweep, samples := [], windowTimer := 9600
                intervalTimer := 19200 * (s.currentRecord.map (·.sweepInterval)).getD 60 })
        ∧ exec .calibrationTimerExpiry s =
          .next
            (s.setFrontEnd
              { s.frontEnd with
                sweep := .calSweep, calRequest := false, samples := [], windowTimer := 9600, calTimer := 0 }))
      ∧ (s.frontEnd.sweep = .calSweep →
          exec .sweepIntervalExpiry s = .next (s.setFrontEnd { s.frontEnd with intervalTimer := 0 }))
      ∧ (s.frontEnd.sweep ≠ .idleFe →
          exec .calibrationTimerExpiry s = .next (s.setFrontEnd { s.frontEnd with calTimer := 0, calRequest := true }))

/-! ## Moisture arithmetic (02) -/

/-- R19, R22, R23, R25 to R29, R31 to R33: a converted reading. Its grade is formed from the mean of the four samples and the
reference pair, its flags from the grade, the spread and the inputs, and its moisture value, where no flag denies one, by
the curve, the temperature factor and the product of the two (CurveInterpolates, FactorAndValueClamped); the two limit flags
are set exactly where such a reading's grade lies outside the curve. The inputs are the front end's pair, the available
dry-bulb, and the current record's curve and coefficient, or the default ones. -/
def Obligations.ConversionClassifies : Prop :=
  RoundingRules ∧ ConversionRules
    ∧ (∀ lo hi g : Nat, correctedGrade lo hi g = 700 + halfAway (((g : Int) - lo) * 300) ((hi : Int) - lo))
    ∧ (∀ (inp : ConversionInputs) (channel : Nat) (samples : List Nat),
    let r := convertChannel inp channel samples
    r.channel = channel ∧ r.dryBulb = inp.dryBulb
      ∧ r.grade = correctedGrade inp.mLo inp.mHi (meanOfFour samples) ∧ r.spread = spreadOf samples
      ∧ (r.flags.openCircuit = true ↔ 1300 < r.grade) ∧ (r.flags.shortCircuit = true ↔ r.grade < 400)
      ∧ ¬(r.flags.openCircuit = true ∧ r.flags.shortCircuit = true)
      ∧ (r.flags.unsteady = true ↔ 16 < r.spread)
      ∧ (r.flags.invalid = true ↔ inp.refFault = true ∨ inp.dryBulb = none)
      ∧ (r.mc.isSome = true ↔
          r.flags.openCircuit = false ∧ r.flags.shortCircuit = false ∧ r.flags.invalid = false)
      ∧ (∀ m x, r.mc = some m → inp.dryBulb = some x →
          m = moistureOf (curveMc inp.curve r.grade) (tempFactor inp.coeff x))
      ∧ (∀ p, inp.curve.head? = some p → (r.flags.wetLimit = true ↔ r.mc.isSome = true ∧ r.grade < p.grade))
      ∧ (∀ p, inp.curve.getLast? = some p → (r.flags.dryLimit = true ↔ r.mc.isSome = true ∧ (p.grade : Int) < r.grade))
      ∧ (r.flags.wetLimit = true → r.mc.isSome = true) ∧ (r.flags.dryLimit = true → r.mc.isSome = true)
      ∧ (curveValid inp.curve = true → ¬(r.flags.wetLimit = true ∧ r.flags.dryLimit = true))
      ∧ ∀ m, r.mc = some m → m ≤ 800)
    ∧ correctedGrade 706 1011 1325 = 1309 ∧ correctedGrade 700 1000 1325 = 1325
    ∧ correctedGrade 706 1011 1310 = 1294

/-- R24: under every pair that R10 admits the corrected grade lies in 190..1510; a raw grade of 1400 corrects to 1321 or more, and one
of 300 to 379 or less. The flags that these bounds lead to are stated in ConversionClassifies. -/
def Obligations.CorrectedGradeBounded : Prop :=
  (∀ lo hi g : Nat, 675 ≤ lo → lo ≤ 725 → 975 ≤ hi → hi ≤ 1025 → 300 ≤ g → g ≤ 1400 →
    190 ≤ correctedGrade lo hi g ∧ correctedGrade lo hi g ≤ 1510
      ∧ 1321 ≤ correctedGrade lo hi 1400 ∧ correctedGrade lo hi 300 ≤ 379)
    ∧ correctedGrade 725 975 300 = 190 ∧ correctedGrade 725 975 1400 = 1510
    ∧ correctedGrade 675 1025 1400 = 1321 ∧ correctedGrade 675 1025 300 = 379

/-- R30, R31: on a valid curve a grade from one breakpoint to the next gives the interpolated value, which lies between the two
moisture values, and sets no limit flag; below the first and above the last breakpoint the value is clamped and flagged. -/
def Obligations.CurveInterpolates : Prop :=
  ∀ (curve : List Breakpoint) (g : Int), curveValid curve = true →
    (∀ (before after : List Breakpoint) (p q : Breakpoint), curve = before ++ p :: q :: after →
      (p.grade : Int) ≤ g → g ≤ q.grade →
        curveMc curve g =
            (if g = p.grade then (p.mc : Int) else if g = q.grade then (q.mc : Int)
              else p.mc + halfAway (((q.mc : Int) - p.mc) * (g - p.grade)) ((q.grade : Int) - p.grade))
          ∧ (q.mc : Int) ≤ curveMc curve g ∧ curveMc curve g ≤ p.mc ∧ 0 ≤ curveMc curve g ∧ curveMc curve g ≤ 800
          ∧ belowCurve curve g = false ∧ aboveCurve curve g = false)
      ∧ (∀ p, curve.head? = some p → g < p.grade → curveMc curve g = p.mc ∧ belowCurve curve g = true)
      ∧ (∀ p, curve.getLast? = some p → (p.grade : Int) < g → curveMc curve g = p.mc ∧ aboveCurve curve g = true)

/-- R32, R33: F is 10000 less the rounded C (T - 200) / 10, and is 2500 where that lies below 2500, 15000 where it lies above 15000,
and that value itself between; so it is 10000 with a coefficient of 0 or at 20.0 °C. The moisture value is the product divided
by 10000, rounding half up, and the upper bound acts exactly from a product of 8,005,000 on. -/
def Obligations.FactorAndValueClamped : Prop :=
  (∀ (coeff : Nat) (t plain : Int), plain = 10000 - halfAway ((coeff : Int) * (t - 200)) 10 →
    (plain < 2500 → tempFactor coeff t = 2500)
      ∧ (2500 ≤ plain → plain ≤ 15000 → tempFactor coeff t = plain)
      ∧ (15000 < plain → tempFactor coeff t = 15000)
      ∧ 2500 ≤ tempFactor coeff t ∧ tempFactor coeff t ≤ 15000
      ∧ tempFactor 0 t = 10000 ∧ tempFactor coeff 200 = 10000)
    ∧ ∀ mcRaw f : Nat,
        (mcRaw * f < 8005000 → moistureOf mcRaw f = (mcRaw * f + 5000) / 10000)
          ∧ (8005000 ≤ mcRaw * f → moistureOf mcRaw f = 800)

/-! ## Sensor converter (01) -/

/-- R14, R15, R17 (TABLE 1-4), R113, R120, R147: a control period samples the dry-bulb and, on a ZONE station, the wet-bulb; a
faulty sample in AWAITING or VALID latches the fault condition, and a faulty first dry-bulb sample re-marks the own readings
table. In RUN it then tests the warm-up exit in WARMUP and the cool exit in COOL with the dry-bulb value available after the
sample; in every other case the schedule stands, and the targets, the active pair, the regime and the settle timer with it. On a
PROBE station and in a regime other than LOOPS the outputs and I stand too, but for the zeros of the dry-bulb's loss (R147, R153),
and where the deviation count is not in force it is set to 0 (R155). The records are the CONDITION records of the sampling, in the
order of TABLE 10-1, that of CLIMATE DEVIATION where it is latched, and those of the entry, with cause OWN. On a PROBE station
WET-BULB FAULT, HEAT CUTOFF and CLIMATE DEVIATION are not latched (R14, R141). The order of the sampling and the tests is log
entry 14. -/
def Obligations.ControlPeriodSamples : Prop :=
  ∀ (dry wet : Int) (s : State),
    ∃ t, exec (.controlPeriod dry wet) s = .next t
      ∧ t.sensors.controlTimer = 76800
      ∧ t.sensors.dry =
          (if -400 ≤ dry ∧ dry ≤ 1300 then { state := .valid, lastValid := some dry, holdTimer := 0 }
          else match s.sensors.dry.state with
            | .awaiting => { s.sensors.dry with state := .lost }
            | .valid => { s.sensors.dry with state := .holding, holdTimer := 11520000 }
            | .holding | .lost => s.sensors.dry)
      ∧ t.sensors.wet =
          (if s.straps.role = .probe then s.sensors.wet
          else if -400 ≤ wet ∧ wet ≤ 1300 then { state := .valid, lastValid := some wet, holdTimer := 0 }
          else match s.sensors.wet.state with
            | .awaiting => { s.sensors.wet with state := .lost }
            | .valid => { s.sensors.wet with state := .holding, holdTimer := 11520000 }
            | .holding | .lost => s.sensors.wet)
      ∧ (∀ faults : List (Condition × Prop),
          faults =
              [(.wetBulbFault, s.straps.role = .zone ∧ ¬(-400 ≤ wet ∧ wet ≤ 1300)
                  ∧ (s.sensors.wet.state = .awaiting ∨ s.sensors.wet.state = .valid)),
                (.heatCutoff, s.straps.role = .zone ∧ ¬(-400 ≤ dry ∧ dry ≤ 1300) ∧ s.sensors.dry.state = .awaiting),
                (.temperatureFault, ¬(-400 ≤ dry ∧ dry ≤ 1300)
                  ∧ (s.sensors.dry.state = .awaiting ∨ s.sensors.dry.state = .valid))] →
          ∀ x ∈ faults,
            (x.2 → t.attention.stamp x.1 = some ((s.attention.stamp x.1).getD s.schedule.minute))
              ∧ (¬x.2 → t.attention.stamp x.1 = s.attention.stamp x.1))
      ∧ t.readings =
          (if ¬(-400 ≤ dry ∧ dry ≤ 1300) ∧ s.sensors.dry.state = .awaiting then
            s.readings.map (fun r => { r with mc := none, flags := { r.flags with invalid := true } })
          else s.readings)
      ∧ (∀ available : Option Int,
          available =
              (if -400 ≤ dry ∧ dry ≤ 1300 then some dry
              else if s.sensors.dry.state = .valid ∨ s.sensors.dry.state = .holding then s.sensors.dry.lastValid
              else none) →
          ∀ path : List (Position × Cause),
            path =
              (match s.schedule.mode, s.schedule.position, s.currentRecord, available with
              | .run, .warmup, some r, some db =>
                match r.stepAt 1 with
                | some st => if st.dryBulb - r.warmBand ≤ db then [(.drying 1, .own)] else []
                | none => []
              | .run, .cool, some r, some db => if db ≤ r.coolEnd then [(.complete, .own)] else []
              | _, _, _, _ => []) →
            (path = [] →
              t.schedule = s.schedule
                ∧ t.climate =
                  { s.climate with
                    integral := t.climate.integral, heat := t.climate.heat, vent := t.climate.vent
                    spray := t.climate.spray, deviation := t.climate.deviation })
            ∧ (s.straps.role = .probe ∨ s.climate.regime ≠ .loops → path ≠ [(.complete, .own)] →
              (t.climate.heat, t.climate.integral) =
                  (if s.straps.role = .zone ∧ ¬(-400 ≤ dry ∧ dry ≤ 1300) ∧ s.sensors.dry.state = .awaiting then (0, 0)
                  else (s.climate.heat, s.climate.integral))
                ∧ (t.climate.vent, t.climate.spray) = (s.climate.vent, s.climate.spray))
            ∧ (∀ (r : ChargeRecord) (x : Position × Cause), s.currentRecord = some r → path = [x] →
              t.schedule = s.schedule.entered r x.1 ∧ t.attention.latched .phaseEntered = true
                ∧ (x.1 = .complete → ClimateEntered s t r .complete)
                ∧ (x.1 = .drying 1 → ∀ st, r.stepAt 1 = some st →
                  t.climate =
                    { s.climate with
                      targetDry := some st.dryBulb, targetDep := some st.depression, activeDep := some st.depression
                      regime := .loops, integral := t.climate.integral, heat := t.climate.heat
                      vent := t.climate.vent, spray := t.climate.spray, deviation := 0 }))
            ∧ (s.RingBounded → ∀ conds : List Condition,
              conds =
                ([.wetBulbFault, .heatCutoff, .temperatureFault, .climateDeviation].filter fun c =>
                  (s.attention.stamp c).isNone && t.attention.latched c) →
              s.Writes t
                (conds.map (fun c => { t.traceRecord (.condition c) with position := s.schedule.position })
                  ++ pathRecords s t s.schedule.position [] [] path)))
      ∧ (s.straps.role = .probe ∨ s.currentRecord = none ∨ s.schedule.mode ≠ .run ∨ ¬(-400 ≤ dry ∧ dry ≤ 1300)
            ∨ s.schedule.position ∈ [.idle, .gather, .warmup, .cool, .complete] →
          t.climate.deviation = 0 ∧ t.attention.stamp .climateDeviation = s.attention.stamp .climateDeviation)
      ∧ OnlyChanges [.sensors, .readings, .climate, .schedule, .trace, .attention] s t

/-- R147 to R150, R153 to R155: a control period on a ZONE station in a loop position with the regime LOOPS. With the settle timer at
0 it computes I and heat from the dry-bulb value available after the sample, valid or held, or sets both to 0 where there is
none; and vent and spray from a valid wet-bulb sample, keeps them while the wet-bulb is HOLDING, and sets them to 0 in LOST.
With the settle timer running the outputs and I stand, but for the zeros of a sensor's loss at this sample. The deviation count
is judged in either case: CLIMATE DEVIATION is latched at the period at which it reaches its limit, and at no other. -/
def Obligations.ControlPeriodRunsLoops : Prop :=
  ∀ (dry wet : Int) (s : State) (r : ChargeRecord) (sp : Int) (dep : Nat) (available : Option Int),
    s.straps.role = .zone → s.climate.regime = .loops → s.schedule.position.isLoop = true →
    s.currentRecord = some r → s.climate.spActive = some sp → s.climate.activeDep = some dep →
    available =
        (if -400 ≤ dry ∧ dry ≤ 1300 then some dry
        else if s.sensors.dry.state = .valid ∨ s.sensors.dry.state = .holding then s.sensors.dry.lastValid
        else none) →
    ∃ t, exec (.controlPeriod dry wet) s = .next t ∧ t.climate.spActive = some sp
      ∧ (s.climate.settleTimer = 0 →
          (∀ db e i : Int, available = some db → e = sp - db →
              i = max (-1000) (min 1000
                    (if s.climate.heat = 1000 ∧ 0 < e ∨ s.climate.heat = 0 ∧ e < 0 then s.climate.integral
                    else s.climate.integral + halfAway (r.ki * e) 10)) →
              t.climate.integral = i ∧ (t.climate.heat : Int) = max 0 (min 1000 (halfAway (r.kp * e) 10 + i)))
            ∧ (available = none → t.climate.integral = 0 ∧ t.climate.heat = 0)
            ∧ (∀ ew : Int, -400 ≤ wet → wet ≤ 1300 → ew = wet - (sp - dep) →
              (t.climate.vent : Int) =
                  (if (r.deadBand : Int) < ew then max 0 (min 1000 (halfAway (r.kv * (ew - r.deadBand)) 10)) else 0)
                ∧ (t.climate.spray : Int) =
                  (if ew < -(r.deadBand : Int) then max 0 (min 1000 (halfAway (r.ks * (-ew - r.deadBand)) 10)) else 0))
            ∧ (¬(-400 ≤ wet ∧ wet ≤ 1300) →
              (t.climate.vent, t.climate.spray) =
                (if s.sensors.wet.state = .valid ∨ s.sensors.wet.state = .holding then (s.climate.vent, s.climate.spray)
                else (0, 0))))
      ∧ (s.climate.settleTimer ≠ 0 →
          (t.climate.heat, t.climate.integral) =
              (if ¬(-400 ≤ dry ∧ dry ≤ 1300) ∧ s.sensors.dry.state = .awaiting then (0, 0)
              else (s.climate.heat, s.climate.integral))
            ∧ (t.climate.vent, t.climate.spray) =
              (if ¬(-400 ≤ wet ∧ wet ≤ 1300) ∧ s.sensors.wet.state = .awaiting then (0, 0)
              else (s.climate.vent, s.climate.spray))
            ∧ t.climate.settleTimer = s.climate.settleTimer)
      ∧ (-400 ≤ dry → dry ≤ 1300 → s.schedule.position ≠ .warmup → s.schedule.mode = .run →
          t.climate.deviation =
              (if (r.deviationBand : Int) < |dry - sp| then min (15 * r.deviationTime) (s.climate.deviation + 1) else 0)
            ∧ ((r.deviationBand : Int) < |dry - sp| → s.climate.deviation + 1 = 15 * r.deviationTime →
              t.attention.latched .climateDeviation = true)
            ∧ (|dry - sp| ≤ (r.deviationBand : Int) ∨ s.climate.deviation + 1 < 15 * r.deviationTime
                ∨ s.climate.deviation = 15 * r.deviationTime →
              t.attention.stamp .climateDeviation = s.attention.stamp .climateDeviation))
      ∧ (¬(-400 ≤ dry ∧ dry ≤ 1300) ∨ s.schedule.position = .warmup ∨ s.schedule.mode ≠ .run → t.climate.deviation = 0)

/-- R16, R17, R153, R154: the hold timer's expiry takes the sensor from HOLDING to LOST. The dry-bulb's loss re-marks the own readings
table and on a ZONE station sets heat and I to 0 with HEAT CUTOFF; the wet-bulb's loss sets vent and spray to 0 in LOOPS. That the
deviation count is set to 0 at the loss itself is read from R155 (log entry 17, DEDUCED). -/
def Obligations.HoldTimerLosesSensor : Prop :=
  ∀ s : State,
    (s.sensors.dry.state = .holding →
      ∃ t, exec (.holdTimerExpiry .dryBulb) s = .next t
        ∧ t.sensors = { s.sensors with dry := { s.sensors.dry with state := .lost, holdTimer := 0 } }
        ∧ t.readings = s.readings.map (fun r => { r with mc := none, flags := { r.flags with invalid := true } })
        ∧ (s.straps.role = .zone →
            t.climate = { s.climate with heat := 0, integral := 0, deviation := 0 }
              ∧ t.attention.latched .heatCutoff = true)
        ∧ (s.straps.role = .probe → t.climate = { s.climate with deviation := 0 } ∧ t.attention = s.attention)
        ∧ OnlyChanges [.sensors, .readings, .climate, .attention, .trace] s t)
      ∧ (s.sensors.wet.state = .holding →
        ∃ t, exec (.holdTimerExpiry .wetBulb) s = .next t
          ∧ t.sensors = { s.sensors with wet := { s.sensors.wet with state := .lost, holdTimer := 0 } }
          ∧ t.climate =
              (if s.straps.role = .zone ∧ s.climate.regime = .loops then { s.climate with vent := 0, spray := 0 }
              else s.climate)
          ∧ OnlyChanges [.sensors, .climate] s t)

/-- R155: the deviation count in force that reaches 15 times the deviation time latches CLIMATE DEVIATION. The row is that moment,
so it tests no band against the dry-bulb that stands (log entry 7, DESIGN CHOICE). -/
def Obligations.DeviationLimitLatches : Prop :=
  ∀ (s : State) (r : ChargeRecord),
    s.currentRecord = some r → s.straps.role = .zone → s.schedule.mode = .run → s.sensors.dry.state = .valid →
    (∃ k, s.schedule.position = .drying k) ∨ s.schedule.position = .equalize ∨ s.schedule.position = .condition →
    s.climate.deviation < 15 * r.deviationTime →
    ∃ t, exec .deviationLimit s = .next t
      ∧ t.climate = { s.climate with deviation := 15 * r.deviationTime }
      ∧ t.attention.latched .climateDeviation = true
      ∧ OnlyChanges [.climate, .attention, .trace] s t

/-- R115, R151, R152: a fan reversal counts the step timer down on a step of REVERSALS basis in RUN and, on a ZONE station, loads
the settle timer with the record's settle window; the settle timer's expiry leaves it at 0. -/
def Obligations.FanReversalCountsAndSettles : Prop :=
  ∀ s : State,
    (∃ t, exec .fanReversal s = .next t
      ∧ t.pins = { s.pins with fan := !s.pins.fan }
      ∧ (∀ (k : Nat) (r : ChargeRecord) (st : ScheduleStep), s.schedule.position = .drying k →
          s.currentRecord = some r → r.stepAt k = some st → st.basis = .reversals → s.schedule.mode = .run →
          t.schedule = { s.schedule with stepTimer := s.schedule.stepTimer - 1 })
      ∧ (s.schedule.mode ≠ .run → t.schedule = s.schedule)
      ∧ ((∀ k, s.schedule.position ≠ .drying k) → t.schedule = s.schedule)
      ∧ (∀ (k : Nat) (r : ChargeRecord) (st : ScheduleStep), s.schedule.position = .drying k →
          s.currentRecord = some r → r.stepAt k = some st → st.basis = .minutes → t.schedule = s.schedule)
      ∧ t.climate =
          (if s.straps.role = .zone then
            { s.climate with
              settleTimer := 19200 * (s.currentRecord.map (·.settleWindow)).getD 0 }
          else s.climate)
      ∧ OnlyChanges [.pins, .schedule, .climate] s t)
      ∧ exec .settleTimerExpiry s = .next (s.setClimate { s.climate with settleTimer := 0 })

/-! ## Kiln bus controller (03) -/

/-- R46, R54, R56: the report timer's expiry loads it with 10 s and sets the REPORT slot; a set slot keeps its count, the
address-clash latch discards the setting, and the line-blocked timer is loaded where no slot was eligible before. -/
def Obligations.ReportTimerSetsSlot : Prop :=
  ∀ s : State,
    ∃ t, exec .reportTimerExpiry s = .next t
      ∧ t.peers = { s.peers with reportTimer := 192000 }
      ∧ (s.bus.clash = true → t.bus = s.bus)
      ∧ (s.bus.clash = false →
          t.bus =
            { s.bus with
              slots := { s.bus.slots with report := some (s.bus.slots.report.getD 0) }
              blockedTimer := if s.bus.slots.anyEligible then s.bus.blockedTimer else 38400 })
      ∧ OnlyChanges [.bus, .peers] s t

/-- R37, R47, R48: the attempt that begins is the one of the eligible slot with the smallest required quiet time, by the class
bases of TABLE 3-3, which no other eligible slot equals; it drives the frame of TABLE 3-2 built from the blocks as they stand, with
the header and the payload of its kind (R57, R97, R127, R137), and its start bit, dominant, stops the line-quiet count and begins
a run. -/
def Obligations.AttemptBeginsAtSmallestQuiet : Prop :=
  ∀ s : State, s.bus.clash = false → s.bus.attempt = none → s.bus.slots.anyEligible = true →
    s.OfferNamed →
    ∃ t k n f, exec .attemptBegin s = .next t
      ∧ s.bus.slots.eligible k = true ∧ s.bus.slots.failedOf k = some n ∧ s.slotFrame k = some f ∧ s.CarriesFrame k f
      ∧ (∀ k' n', k' ≠ k → s.bus.slots.eligible k' = true → s.bus.slots.failedOf k' = some n' →
          40 + tableBase k + 2 * s.straps.station + 8 * n < 40 + tableBase k' + 2 * s.straps.station + 8 * n')
      ∧ (∀ k', s.bus.slots.eligible k' = true ↔
          s.bus.slots.failedOf k' ≠ none ∧ (k' = .directive → s.bus.slots.spacing = 0))
      ∧ t.bus =
          { s.bus with
            attempt := some { kind := k, bytes := frameBytes f, released := false }, quiet := 0
            byteBits := 11 * (9 + f.payload.length), levels := [], runOpen := true, runBytes := some [] }
      ∧ t.bus.drives = .dominant
      ∧ OnlyChanges [.bus] s t

/-- R49, R51, R52: a failed attempt raises its slot's failed-attempt count by one; the count that would reach 32 for SAFE or 8
for the others drops the frame instead, with FRAME DROPPED. -/
def Obligations.AttemptFailureCountsOrDrops : Prop :=
  ∀ (s : State) (a : Attempt) (n : Nat), s.bus.attempt = some a → s.bus.slots.failedOf a.kind = some n →
    ∃ t, exec .attemptFail s = .next t
      ∧ t.bus.attempt = none ∧ t.bus.quiet = 0 ∧ t.bus.byteBits = 0
      ∧ (∀ k, k ≠ a.kind → t.bus.slots.failedOf k = s.bus.slots.failedOf k)
      ∧ (n + 1 < (if a.kind = .safe then 32 else 8) →
          t.bus.slots.failedOf a.kind = some (n + 1) ∧ t.bus.slots.spacing = s.bus.slots.spacing
            ∧ OnlyChanges [.bus] s t)
      ∧ ((if a.kind = .safe then 32 else 8) ≤ n + 1 →
          t.attention.latched .frameDropped = true
            ∧ (a.kind ≠ .directive → t.bus.slots.failedOf a.kind = none)
            ∧ (∀ d, a.kind = .directive → s.bus.slots.directive = some d →
                (d.remaining ≤ 1 → t.bus.slots.directive = none)
                  ∧ (1 < d.remaining →
                      t.bus.slots.directive = some { d with remaining := d.remaining - 1, failed := 0 }
                        ∧ t.bus.slots.spacing = 9600))
            ∧ OnlyChanges [.bus, .attention, .trace] s t)

/-- R50, R52: a completed attempt empties its slot, but the DIRECTIVE slot loses one transmission and is spaced by 500 ms
until the last; an own OFFER loads the re-offer holdoff timer with 60 s. -/
def Obligations.AttemptCompletionEmptiesSlot : Prop :=
  ∀ (s : State) (a : Attempt), s.bus.attempt = some a →
    ∃ t, exec .attemptComplete s = .next t
      ∧ t.bus.attempt = none ∧ t.bus.quiet = 0 ∧ t.bus.byteBits = 0 ∧ t.bus.ownSent = some a.bytes
      ∧ (∀ k, k ≠ a.kind → t.bus.slots.failedOf k = s.bus.slots.failedOf k)
      ∧ (a.kind ≠ .directive → t.bus.slots.failedOf a.kind = none)
      ∧ (∀ d, a.kind = .directive → s.bus.slots.directive = some d →
          (d.remaining ≤ 1 → t.bus.slots.directive = none)
            ∧ (1 < d.remaining →
                t.bus.slots.directive = some { d with remaining := d.remaining - 1, failed := 0 }
                  ∧ t.bus.slots.spacing = 9600))
      ∧ t.store = (if a.kind = .offer then { s.store with holdoff := 1152000 } else s.store)
      ∧ OnlyChanges [.bus, .store] s t

/-- R39, R52, R54: the spacing timer's expiry makes the DIRECTIVE slot eligible; a quiet gap clears the line-blocked flag and
loads the line-blocked timer; that timer's expiry sets the flag and latches LINE BLOCKED; a start bit stops the count at 0.
R54: every other command but POWER_ON leaves the timer stopped where no slot is eligible, loads it with 2 s where a slot is eligible
and none was before, and lets it run on otherwise. An ABORT requested here first empties the OFFER slot, and then sets the DIRECTIVE
slot (R132, R134); a service byte that ends a request acts as that request's row. -/
def Obligations.LineEventsAct : Prop :=
  (∀ s : State,
    (∃ t, exec .spacingTimerExpiry s = .next t ∧ t.bus.slots = { s.bus.slots with spacing := 0 }
      ∧ (s.bus.slots.directive.isSome = true → t.bus.slots.eligible .directive = true)
      ∧ (s.bus.slots.anyEligible = false → s.bus.slots.directive.isSome = true → t.bus.blockedTimer = 38400)
      ∧ (s.bus.slots.anyEligible = true → t.bus.blockedTimer = s.bus.blockedTimer)
      ∧ OnlyChanges [.bus] s t)
      ∧ (s.bus.attempt = none →
        ∃ t, exec .quietGap s = .next t ∧ t.bus.lineBlocked = false ∧ 40 ≤ t.bus.quiet ∧ t.bus.runOpen = false
          ∧ t.bus.blockedTimer = (if s.bus.slots.anyEligible then 38400 else 0)
          ∧ t.bus.slots = s.bus.slots ∧ t.bus.clash = s.bus.clash ∧ OnlyChanges [.bus] s t)
      ∧ (0 < s.bus.blockedTimer →
        ∃ t, exec .lineBlockedTimerExpiry s = .next t
          ∧ t.bus = { s.bus with blockedTimer := 0, lineBlocked := true }
          ∧ t.attention.latched .lineBlocked = true ∧ OnlyChanges [.bus, .attention, .trace] s t)
      ∧ ∃ t, exec .startBitSeen s = .next t ∧ t.bus.quiet = 0
          ∧ (s.bus.attempt = none → t.bus.byteBits = 11) ∧ (20 < s.bus.quiet → t.bus.runOpen = true)
          ∧ t.bus.slots = s.bus.slots ∧ t.bus.blockedTimer = s.bus.blockedTimer
          ∧ t.bus.lineBlocked = s.bus.lineBlocked ∧ t.bus.clash = s.bus.clash ∧ OnlyChanges [.bus] s t)
    ∧ ∀ (c : Instr) (s t : State) (before : Slots), s.BlockedTimed → exec c s = .next t →
      (∀ n k r e f, c ≠ .powerOn n k r e f) → c ≠ .quietGap → c ≠ .lineBlockedTimerExpiry →
      (∀ b stop, c ≠ .serviceByteReceived b stop) →
      before =
        (match c with
        | .directiveAbort _ _ => { s.bus.slots with offer := t.bus.slots.offer }
        | _ => s.bus.slots) →
      ((∀ k, t.bus.slots.eligible k = false) → t.bus.blockedTimer = 0)
        ∧ ((∃ k, t.bus.slots.eligible k = true) →
          ((∃ k, before.eligible k = true) → t.bus.blockedTimer = s.bus.blockedTimer)
            ∧ ((∀ k, before.eligible k = false) → t.bus.blockedTimer = 38400))

/-- R43, R44: a run that is discarded has no effect on any block, and neither has a frame of another kiln or the station's own
transmission; the run alone is over, with the count past 20. A run that never began after more than 20 bit times of quiet is
not taken at all. While an own attempt runs the line stays the attempt's: a run that is discarded, a frame of another kiln, and
one under the own number, which R45 says cannot come then, leave every block as it is (log entry 32, DEDUCED). The rows carry
raw runs, and FRAME_DISCARDED ends a run whatever it carries (log entry 9, DESIGN CHOICE); the own transmission is known by its
bytes (log entry 10, DEDUCED). -/
def Obligations.UnheardRunsChangeNothing : Prop :=
  ∀ (run : List LineByte) (s ended : State),
    ended =
        s.setBus
          { s.bus with
            quiet := max s.bus.quiet 21, byteBits := 0, levels := [], lastLevel := .recessive, runOpen := false
            runBytes := some [], ownSent := none } →
    (s.bus.runOpen = true → s.bus.attempt = none →
      exec (.frameDiscarded run) s = .next ended
        ∧ (judgeRun run = none ∨ (∃ f, judgeRun run = some f ∧ f.kiln ≠ s.straps.kiln)
            ∨ s.bus.ownSent = some (run.map (·.data)) →
          ∀ c ∈ [Instr.reportReceived run, .offerReceived run, .safeFrameReceived run, .startDirectiveReceived run,
              .holdDirectiveReceived run, .resumeDirectiveReceived run, .skipDirectiveReceived run,
              .abortDirectiveReceived run, .resetSafeDirectiveReceived run],
            exec c s = .next ended))
      ∧ (s.bus.runOpen = false →
        ∀ c ∈ [Instr.frameDiscarded run, .reportReceived run, .offerReceived run, .safeFrameReceived run,
            .startDirectiveReceived run, .holdDirectiveReceived run, .resumeDirectiveReceived run,
            .skipDirectiveReceived run, .abortDirectiveReceived run, .resetSafeDirectiveReceived run],
          exec c s = .next s)
      ∧ (s.bus.attempt ≠ none →
        exec (.frameDiscarded run) s = .next s
          ∧ (judgeRun run = none
              ∨ (∃ f, judgeRun run = some f ∧ (f.kiln ≠ s.straps.kiln ∨ f.station = s.straps.station))
              ∨ s.bus.ownSent = some (run.map (·.data)) →
            ∀ c ∈ [Instr.reportReceived run, .offerReceived run, .safeFrameReceived run, .startDirectiveReceived run,
                .holdDirectiveReceived run, .resumeDirectiveReceived run, .skipDirectiveReceived run,
                .abortDirectiveReceived run, .resetSafeDirectiveReceived run],
              exec c s = .next s))

/-- R37, R38, R41, R42, R43: a byte is sent as the eleven levels of TABLE 3-1, a 0 dominant and a 1 recessive, the least significant
data bit first and the parity odd, and the ten levels after its start bit are sampled as that byte. A frame has the bytes of
TABLE 3-2 with the codes of TABLE 3-3 and TABLE 8-1 and the CRC of R42, and every frame that a station can send is received whole and
unchanged. -/
def Obligations.FrameRoundTrip : Prop :=
  (∀ (b : Byte) (levelOf : Bool → Level), levelOf false = .dominant → levelOf true = .recessive →
    byteLevels b =
        [.dominant, levelOf (b.getLsbD 0), levelOf (b.getLsbD 1), levelOf (b.getLsbD 2), levelOf (b.getLsbD 3),
          levelOf (b.getLsbD 4), levelOf (b.getLsbD 5), levelOf (b.getLsbD 6), levelOf (b.getLsbD 7),
          levelOf (lineByte b).parity, .recessive]
      ∧ (((List.range 8).countP fun i => b.getLsbD i) + (lineByte b).parity.toNat) % 2 = 1
      ∧ sampledByte ((byteLevels b).drop 1) = lineByte b ∧ byteError (lineByte b) = false)
    ∧ CrcRule ∧ FrameLayout
    ∧ ∀ f : Frame, f.kiln ≤ 15 → 1 ≤ f.station → f.station ≤ 32 → f.charge ≤ 65535 → f.payload.length ≤ 250 →
        judgeRun ((frameBytes f).map lineByte) = some f

/-- R38, R41, R43: a run that is not discarded is the bytes of the frame it gives, each with odd parity and a recessive stop bit, in
range in every header field. So a run with a byte error in any byte is discarded. -/
def Obligations.AcceptedRunIsItsFrame : Prop :=
  ∀ (run : List LineByte) (f : Frame), judgeRun run = some f →
    run = (frameBytes f).map lineByte ∧ (∀ b ∈ run, byteError b = false) ∧ f.kiln ≤ 15 ∧ 1 ≤ f.station ∧ f.station ≤ 32 ∧ f.charge ≤ 65535
      ∧ f.payload.length ≤ 250

/-- R44, R45, R62: a frame of any kind under the station's own number and kiln that it did not send sets the address-clash latch,
empties all four slots, stops the line-blocked timer and latches ADDRESS CLASH. It is then handed to its owner: the row does all
that it does where the latch is set already, and there a frame under the own number changes nothing at the bus controller and is
taken by its owner as another station's is (State.Hears), but for a REPORT, which is not written and is shown to no block. That the
stamp is the charge minute that stands before the frame goes to its owner is read from the order of R44's steps (log entry 18,
DEDUCED). -/
def Obligations.AddressClashSilences : Prop :=
  ∀ (run : List LineByte) (f : Frame) (s : State), s.bus.runOpen = true → s.bus.attempt = none →
    judgeRun run = some f → f.kiln = s.straps.kiln →
    f.station = s.straps.station → s.bus.ownSent ≠ some (run.map (·.data)) →
    (s.bus.clash = false →
      ∀ x ∈ [(Instr.reportReceived run, FrameKind.report), (.offerReceived run, .offer), (.safeFrameReceived run, .safe),
          (.startDirectiveReceived run, .directive), (.holdDirectiveReceived run, .directive),
          (.resumeDirectiveReceived run, .directive), (.skipDirectiveReceived run, .directive),
          (.abortDirectiveReceived run, .directive), (.resetSafeDirectiveReceived run, .directive)],
        f.kind = x.2.code →
        ∃ t u, exec x.1 s = .next t ∧ t.bus.clash = true
          ∧ t.bus.slots = { safe := none, directive := none, spacing := 0, offer := none, report := none }
          ∧ t.bus.attempt = none ∧ t.bus.blockedTimer = 0
          ∧ t.attention.stamp .addressClash = some ((s.attention.stamp .addressClash).getD s.schedule.minute)
          ∧ u =
            latchAll [.addressClash]
              (s.setBus
                { s.bus with
                  clash := true
                  slots := { safe := none, directive := none, spacing := 0, offer := none, report := none }
                  blockedTimer := 0 })
          ∧ exec x.1 u = .next t
          ∧ (x.2 = .report → t = u.setBus u.bus.runOver)
          ∧ (x.2 ≠ .report → u.Hears x.2 run f))
      ∧ (s.bus.clash = true → f.kind = 0x4B → exec (.reportReceived run) s = .next (s.setBus s.bus.runOver))

/-! ## Station reports and the peer table (04) -/

/-- R57, R59, R61: a report's payload has the bytes of TABLE 4-1 and TABLE 4-2 with the codes of TABLE 4-3. A report whose fields
pass the checks of R61 is read back from its payload as it was built, and a payload that is accepted is that of the report it
gives, whose fields pass the checks. -/
def Obligations.ReportRoundTrip : Prop :=
  ReportCodes ∧ ReportLayout
    ∧ (∀ d : ReportData, d.charge ≤ 65535 → ReportPasses d → parseReport d.charge (reportPayload d) = some d)
    ∧ ∀ (charge : Nat) (payload : List Byte) (d : ReportData), parseReport charge payload = some d →
      d.charge = charge ∧ ReportPasses d ∧ reportPayload d = payload

/-- R61, R63, R68, R69: a report accepted from another station writes its entry whole, FRESH and of age 0, and no other entry.
UNLISTED STATION and RECORD CLASH are latched by the current charge number with a station off the roster and with another
check, and by nothing else: not under another charge number, nor with the current rank empty. A report that is discarded
changes nothing but the run that is over. -/
def Obligations.ReportAcceptedWritesEntry : Prop :=
  ∀ (run : List LineByte) (f : Frame) (d : ReportData) (s : State),
    s.Hears .report run f →
    (parseReport f.charge f.payload = none → exec (.reportReceived run) s = .next (s.setBus s.bus.runOver))
    ∧ (parseReport f.charge f.payload = some d →
    ∃ t, exec (.reportReceived run) s = .next t
      ∧ t.peers.entry f.station = some { state := .fresh, data := d, age := 0 }
      ∧ (∀ n, n ≠ f.station → t.peers.entry n = s.peers.entry n)
      ∧ t.peers.reportTimer = s.peers.reportTimer
      ∧ (∀ r, s.store.current = some r → d.charge = r.record.chargeNumber →
          (r.record.onRoster f.station = false → t.attention.latched .unlistedStation = true)
            ∧ (d.check ≠ r.check → t.attention.latched .recordClash = true))
      ∧ (s.store.current = none
            ∨ (∃ r, s.store.current = some r
                ∧ (d.charge ≠ r.record.chargeNumber ∨ r.record.onRoster f.station = true)) →
          t.attention.stamp .unlistedStation = s.attention.stamp .unlistedStation)
      ∧ (s.store.current = none
            ∨ (∃ r, s.store.current = some r ∧ (d.charge ≠ r.record.chargeNumber ∨ d.check = r.check)) →
          t.attention.stamp .recordClash = s.attention.stamp .recordClash)
      ∧ OnlyChanges
          [.bus, .peers, .store, .frontEnd, .schedule, .climate, .attention, .trace] s t)

/-- R111, R121, R122: an accepted report that makes no late join is one event at the schedule controller. The gather watch that it
meets in RUN enters WARMUP with cause OWN, and goes on where WARMUP's exit is met at once. The follow rule is then judged against the
position so reached: a report that meets every condition of R121 enters the position it reports with cause FOLLOWED, its timers loaded
from the own record, and goes on where that position is left at once. A report that fails any of them is not followed: with a mode
other than RUN reported or held, a basis below the quorum, a position with no rank or not beyond, or a standing other than MATCHED.
With neither entry the schedule and the climate controller stand. The records are the CONDITION records of R68 and R69 and those of
the entries. -/
def Obligations.FollowEntersReportedStep : Prop :=
  ∀ (run : List LineByte) (f : Frame) (d : ReportData) (s : State),
    s.Hears .report run f → parseReport f.charge f.payload = some d → s.PositionSound → ¬s.LateJoinMet f.station d →
    (s.store.current = none →
        ∃ t, exec (.reportReceived run) s = .next t ∧ t.bus = s.bus.runOver ∧ OnlyChanges [.bus, .peers] s t)
      ∧ ∀ (r : RankedRecord) (conds : List Condition) (own followed : List (Position × Cause)) (reached : Position),
        s.store.current = some r →
        conds =
            (if d.charge = r.record.chargeNumber then
              (if r.record.onRoster f.station then [] else [.unlistedStation])
                ++ (if d.check = r.check then [] else [.recordClash])
            else []) →
        (s.WatchMet r f.station d ∧ own = (.warmup, .own) :: (s.onward r.record .warmup).map (·, .own)
          ∨ ¬s.WatchMet r f.station d ∧ own = []) →
        reached = (match own.getLast? with | some x => x.1 | none => s.schedule.position) →
        (s.FollowMet r reached f.station d
              ∧ followed = (d.position, .followed) :: (s.onward r.record d.position).map (·, .own)
          ∨ ¬s.FollowMet r reached f.station d ∧ followed = []) →
        ∃ t, exec (.reportReceived run) s = .next t
          ∧ EntersPath s t r.record
            ((conds.filter fun c => decide (s.attention.stamp c = none)).map fun c => s.traceRecord (.condition c))
            (own ++ followed)
          ∧ (own ++ followed = [] → t.climate = s.climate)
          ∧ t.store = s.store ∧ OnlyChanges [.bus, .peers, .schedule, .climate, .attention, .trace] s t

/-- R64, R66: a FRESH peer entry goes STALE with its fields kept, and latches PEER STALE when the current roster names the
station; a STALE one goes EMPTY and latches nothing. -/
def Obligations.PeerEntriesAge : Prop :=
  ∀ (s : State) (n : Nat) (e : HeldEntry), 1 ≤ n → n ≤ 32 → n ≠ s.straps.station → s.peers.entry n = some e →
    (e.state = .fresh →
      ∃ t, exec (.peerEntryStale n) s = .next t
        ∧ (∃ age, e.age ≤ age ∧ t.peers.entry n = some { state := .stale, data := e.data, age })
        ∧ (∀ m, m ≠ n → t.peers.entry m = s.peers.entry m) ∧ t.peers.reportTimer = s.peers.reportTimer
        ∧ (∀ r, s.currentRecord = some r → r.onRoster n = true →
            t.attention.latched .peerStale = true ∧ OnlyChanges [.peers, .attention, .trace] s t)
        ∧ ((∀ r, s.currentRecord = some r → r.onRoster n = false) → OnlyChanges [.peers] s t))
      ∧ (e.state = .stale →
        ∃ t, exec (.peerEntryEmptied n) s = .next t ∧ t.peers.entry n = none
          ∧ (∀ m, m ≠ n → t.peers.entry m = s.peers.entry m) ∧ OnlyChanges [.peers] s t)

/-- R100: a report of another charge from a roster station, heard in a phase from GATHER to COOL with the holdoff timer at 0, sets
an empty OFFER slot with the current rank; the holdoff timer's expiry leaves it at 0. R105: such a report and the completion of
an own OFFER may fall at one moment. With the report first, its entry is written, its setting leaves the slot that is set as it
is (R46), and nothing of it survives the completion (R50); with the completion first, the holdoff timer runs and the report sets
no slot. In both orders the slot ends empty with the holdoff timer at 60 s. That a report is taken while the attempt still runs,
with the line left as the attempt's, is how the model has the report first (log entry 32, DEDUCED). -/
def Obligations.StrayPeerDrawsOffer : Prop :=
  (∀ (run : List LineByte) (f : Frame) (d : ReportData) (s : State) (r : RankedRecord),
    s.Hears .report run f → parseReport f.charge f.payload = some d → s.store.current = some r →
    r.record.onRoster f.station = true → d.charge ≠ r.record.chargeNumber → s.bus.clash = false →
    s.bus.slots.offer = none →
    ∃ t, exec (.reportReceived run) s = .next t
      ∧ t.bus.slots.offer =
          (if s.schedule.position ≠ .idle ∧ s.schedule.position ≠ .complete ∧ s.store.holdoff = 0 then
            some { rank := .current, failed := 0 }
          else none))
    ∧ (∀ (run : List LineByte) (f : Frame) (d : ReportData) (s : State) (r : RankedRecord) (a : Attempt) (o : OfferSlot),
      s.bus.attempt = some a → a.kind = .offer → s.bus.runOpen = true → s.bus.slots.offer = some o →
      judgeRun run = some f → f.kiln = s.straps.kiln → f.kind = 0x4B → f.station ≠ s.straps.station →
      s.bus.ownSent ≠ some (run.map (·.data)) → a.bytes ≠ run.map (·.data) →
      parseReport f.charge f.payload = some d → s.store.current = some r → r.record.onRoster f.station = true →
      d.charge ≠ r.record.chargeNumber → s.bus.clash = false →
      s.schedule.position ≠ .idle → s.schedule.position ≠ .complete →
      (∃ t u, exec (.reportReceived run) s = .next t
        ∧ t.peers.entry f.station = some { state := .fresh, data := d, age := 0 } ∧ t.bus = s.bus
        ∧ t.store = s.store ∧ OnlyChanges [.peers] s t
        ∧ exec .attemptComplete t = .next u ∧ u.bus.slots.offer = none ∧ u.store.holdoff = 1152000
        ∧ u.peers.entry f.station = some { state := .fresh, data := d, age := 0 })
      ∧ ∃ t u, exec .attemptComplete s = .next t ∧ t.bus.slots.offer = none ∧ t.store.holdoff = 1152000
        ∧ exec (.reportReceived run) t = .next u
        ∧ u.peers.entry f.station = some { state := .fresh, data := d, age := 0 }
        ∧ u.bus.slots.offer = none ∧ u.store.holdoff = 1152000)
    ∧ ∀ s : State, exec .reofferHoldoffExpiry s = .next (s.setStore { s.store with holdoff := 0 })

/-! ## The moisture picture (05) -/

/-- R78 to R84: the figures of a picture over accepted values of 0..800, and how they lie to one another; with nothing accepted
the moisture figures are absent. The charge number, the quorum in force, the wet count above the final target and the dry
count at or below the equalize-start level are the current record's, and in an IDLE picture 0, 1 and two absent counts. -/
def Obligations.PictureFiguresOrdered : Prop :=
  ∀ (record : Option ChargeRecord),
    (∀ xs : List Extreme,
      (pictureOf record xs).charge = (match record with | some r => r.chargeNumber | none => 0)
        ∧ (pictureOf record xs).quorum = (match record with | some r => r.quorum | none => 1)
        ∧ (pictureOf record xs).basis = xs.length
        ∧ ((pictureOf record xs).sufficient = true ↔ (pictureOf record xs).quorum ≤ xs.length)
        ∧ (pictureOf record xs).wetCount =
          (match record with
          | some r => some (xs.countP fun x => decide (r.finalTarget < x.mc))
          | none => none)
        ∧ (pictureOf record xs).dryCount =
          (match record with
          | some r => some (xs.countP fun x => decide ((x.mc : Int) ≤ (r.finalTarget : Int) - r.equalizeOffset))
          | none => none))
    ∧ ((pictureOf record []).wettest = none ∧ (pictureOf record []).driest = none ∧ (pictureOf record []).mean = none
      ∧ (pictureOf record []).controlling = none)
    ∧ ∀ (xs : List Extreme) (values top : List Nat) (k : Nat), xs ≠ [] → (∀ x ∈ xs, x.mc ≤ 800) →
      values = xs.map (·.mc) → k = (xs.length + 1) / 2 →
      top = (values.mergeSort (fun a b => decide (b ≤ a))).take k →
    ∃ w d m c,
      (pictureOf record xs).wettest = some w ∧ (pictureOf record xs).driest = some d
        ∧ (pictureOf record xs).mean = some m ∧ (pictureOf record xs).controlling = some c
        ∧ w ∈ xs ∧ d ∈ xs
        ∧ (∀ x ∈ xs, x.mc ≤ w.mc ∧ (x.mc = w.mc → x.before w = false))
        ∧ (∀ x ∈ xs, d.mc ≤ x.mc ∧ (x.mc = d.mc → x.before d = false))
        ∧ m = (2 * values.sum + xs.length) / (2 * xs.length)
        ∧ c = (2 * top.sum + k) / (2 * k)
        ∧ (xs.length ≤ 256 → values.sum ≤ 204800 ∧ 1 ≤ k ∧ k ≤ 128 ∧ top.sum ≤ 102400)
        ∧ d.mc ≤ m ∧ m ≤ c ∧ c ≤ w.mc ∧ w.mc ≤ 800
        ∧ (pictureOf record xs).basis = xs.length
        ∧ ((pictureOf record xs).sufficient = true ↔
            (match record with | some r => r.quorum | none => 1) ≤ xs.length)
        ∧ ∀ r, record = some r →
          ((pictureOf record xs).wetCount = some 0 ↔ w.mc ≤ r.finalTarget)
            ∧ ((pictureOf record xs).dryCount = some 0 ↔ (r.finalTarget : Int) - r.equalizeOffset < d.mc)

/-- R76, R77, R78 (TABLE 5-2): a reading is accepted when it has a value, is steady and is named by its station's mask, and a
peer's only from a FRESH entry that stands MATCHED; with the current rank empty the own ones alone, unmasked. -/
def Obligations.AcceptedReadings : Prop :=
  ∀ (s : State) (x : Extreme),
    x ∈ s.accepted ↔
      (∃ r ∈ s.readings, r.mc = some x.mc ∧ r.flags.unsteady = false ∧ x.channel = r.channel
          ∧ x.station = s.straps.station
          ∧ ∀ c, s.currentRecord = some c → c.maskHas s.straps.station r.channel = true)
        ∨ ∃ (c : RankedRecord) (e : HeldEntry), s.store.current = some c ∧ s.peers.entry x.station = some e
            ∧ x.station ≠ s.straps.station ∧ e.state = .fresh ∧ c.record.onRoster x.station = true
            ∧ e.data.charge = c.record.chargeNumber ∧ e.data.check = c.check
            ∧ ∃ r ∈ e.data.readings, r.mc = some x.mc ∧ r.flags.unsteady = false ∧ x.channel = r.channel
                ∧ c.record.maskHas x.station r.channel = true

/-! ## Charge records (06) -/

/-- R89 to R93: the encoding of a record has the bytes of TABLE 6-1 and TABLE 6-2, a record is valid exactly when every field has
its range, and the encoding of every valid record is judged valid and gives the record back. -/
def Obligations.RecordRoundTrip : Prop :=
  RecordLayout ∧ RecordRanges ∧ ∀ r : ChargeRecord, r.valid = true → validateEncoding (encodeRecord r) = .valid r

/-- R90, R92, R93: an encoding that is judged valid is the encoding of the record it gives, and that record is valid. -/
def Obligations.ValidEncodingIsItsRecord : Prop :=
  ∀ (bs : List Byte) (r : ChargeRecord), validateEncoding bs = .valid r → encodeRecord r = bs ∧ r.valid = true

/-- R92, R93: the five checks of the structural stage, in order; then the field stage, which gives the number of the first field
out of range, a hold basis that is no code being field 30. -/
def Obligations.StructuralStageInOrder : Prop :=
  (∀ (r : ChargeRecord) (k : Nat), r.Fits → 1 ≤ k → (∀ j, 1 ≤ j → j < k → FieldOk r j) → ¬FieldOk r k →
      validateEncoding (encodeRecord r) = .range k)
  ∧ (∀ (r : ChargeRecord) (i : Nat) (b : Byte), r.valid = true → i < r.steps.length → 1 < b.toNat →
      validateEncoding ((encodeRecord r).set (77 + 4 * r.curve.length + 11 * i + 6) b) = .range 30)
  ∧ ∀ bs : List Byte, ∀ n count : Nat, n = (bs.getD 75 0).toNat → count = (bs.getD (76 + 4 * n) 0).toNat →
    (bs.length < 76 → validateEncoding bs = .malformed)
      ∧ (76 ≤ bs.length → ¬(2 ≤ n ∧ n ≤ 10) → validateEncoding bs = .range 27)
      ∧ (76 ≤ bs.length → 2 ≤ n → n ≤ 10 → bs.length < 77 + 4 * n → validateEncoding bs = .malformed)
      ∧ (2 ≤ n → n ≤ 10 → 77 + 4 * n ≤ bs.length → ¬(1 ≤ count ∧ count ≤ 12) → validateEncoding bs = .range 29)
      ∧ (2 ≤ n → n ≤ 10 → 77 + 4 * n ≤ bs.length → 1 ≤ count → count ≤ 12 → bs.length ≠ 77 + 4 * n + 11 * count →
          validateEncoding bs = .malformed)
      ∧ (2 ≤ n → n ≤ 10 → 1 ≤ count → count ≤ 12 → bs.length = 77 + 4 * n + 11 * count →
          validateEncoding bs = fieldStage bs)

/-- R91, R95: a LOAD CHARGE with a valid record of another charge than the current one, the staged rank empty and the service
transmitter idle, stages the record with the CRC of its encoding, sets the OFFER slot with the staged rank and is answered
DONE; the other outcomes change the port alone. -/
def Obligations.LoadChargeStages : Prop :=
  ∀ (payload : List Byte) (s : State), s.port.sending = none → s.port.busy = [] →
    (∀ r, validateEncoding payload = .valid r → s.store.staged = none →
        (∀ c, s.currentRecord = some c → c.chargeNumber ≠ r.chargeNumber) →
        ∃ t, exec (.loadCharge payload) s = .next t
          ∧ t.store = { s.store with staged := some { record := r, check := crc payload } }
          ∧ (s.bus.clash = false → t.bus.slots.offer =
              (match s.bus.slots.offer with
              | some o => if o.rank = .staged then some o else some { rank := .staged, failed := 0 }
              | none => some { rank := .staged, failed := 0 }))
          ∧ (s.bus.clash = true → t.bus = s.bus)
          ∧ t.port = { s.port with sending := some (responseOf 0x01 (.done [])) }
          ∧ OnlyChanges [.store, .bus, .port] s t)
      ∧ (validateEncoding payload = .malformed →
        exec (.loadCharge payload) s = .next (s.setPort { s.port with sending := some (responseOf 0x01 .malformed) }))
      ∧ (∀ k, validateEncoding payload = .range k →
        exec (.loadCharge payload) s = .next (s.setPort { s.port with sending := some (responseOf 0x01 (.range k)) }))
      ∧ (∀ r c, validateEncoding payload = .valid r → s.currentRecord = some c → c.chargeNumber = r.chargeNumber →
        exec (.loadCharge payload) s =
          .next (s.setPort { s.port with sending := some (responseOf 0x01 .stateRefused) }))
      ∧ (∀ r st, validateEncoding payload = .valid r → s.store.staged = some st →
          (∀ c, s.currentRecord = some c → c.chargeNumber ≠ r.chargeNumber) →
        exec (.loadCharge payload) s = .next (s.setPort { s.port with sending := some (responseOf 0x01 .busy) }))

/-- R96: CLEAR STAGED empties the staged rank and an OFFER slot that names it, leaves the current rank, and is answered DONE.
That the slot is emptied while its attempt runs, the attempt going on with its bytes, is the model's reading (log entry 11). -/
def Obligations.ClearStagedEmpties : Prop :=
  ∀ s : State, s.port.sending = none → s.port.busy = [] →
    ∃ t, exec .clearStaged s = .next t
      ∧ t.store = { s.store with staged := none }
      ∧ t.bus.slots.offer =
          (match s.bus.slots.offer with
          | some o => if o.rank = .staged then none else some o
          | none => none)
      ∧ t.bus.slots.safe = s.bus.slots.safe ∧ t.bus.slots.directive = s.bus.slots.directive
      ∧ t.bus.slots.report = s.bus.slots.report ∧ t.bus.attempt = s.bus.attempt
      ∧ t.port = { s.port with sending := some (responseOf 0x02 (.done [])) }
      ∧ OnlyChanges [.store, .bus, .port] s t

/-- R98, R99: a heard OFFER first cancels a waiting OFFER slot whose record has the header's charge number and the CRC of the
payload as its check, latching nothing. One whose record is valid and carries the header's charge number is then ignored where
the current rank holds that number, is staged with that CRC where the staged rank is empty, changes nothing where the same record
is staged, and latches OFFER CLASH under any other staged record. An offer that fails its checks latches BAD OFFER. -/
def Obligations.OfferStages : Prop :=
  ∀ (run : List LineByte) (f : Frame) (s : State), s.Hears .offer run f →
    (∃ t, exec (.offerReceived run) s = .next t
      ∧ (∀ o r, s.bus.slots.offer = some o →
          (match o.rank with | .staged => s.store.staged | .current => s.store.current) = some r →
          (r.record.chargeNumber = f.charge → r.check = crc f.payload → t.bus.slots = { s.bus.slots with offer := none })
            ∧ (r.record.chargeNumber ≠ f.charge ∨ r.check ≠ crc f.payload → t.bus = s.bus.runOver))
      ∧ (s.bus.slots.offer = none → t.bus = s.bus.runOver)
      ∧ t.store.holdoff = s.store.holdoff ∧ t.store.current = s.store.current)
      ∧ (∀ r, validateEncoding f.payload = .valid r → r.chargeNumber = f.charge →
          (∀ c, s.currentRecord = some c → c.chargeNumber = f.charge →
            ∃ t, exec (.offerReceived run) s = .next t ∧ OnlyChanges [.bus] s t)
          ∧ ((∀ c, s.currentRecord = some c → c.chargeNumber ≠ f.charge) →
            (s.store.staged = none →
              ∃ t, exec (.offerReceived run) s = .next t
                ∧ t.store = { s.store with staged := some { record := r, check := crc f.payload } }
                ∧ OnlyChanges [.store, .bus] s t)
            ∧ (∀ st, s.store.staged = some st → st.record.chargeNumber = f.charge → st.check = crc f.payload →
              ∃ t, exec (.offerReceived run) s = .next t ∧ OnlyChanges [.bus] s t)
            ∧ (∀ st, s.store.staged = some st → st.record.chargeNumber ≠ f.charge ∨ st.check ≠ crc f.payload →
              ∃ t, exec (.offerReceived run) s = .next t ∧ t.attention.latched .offerClash = true
                ∧ OnlyChanges [.bus, .attention, .trace] s t)))
      ∧ ((∀ r, validateEncoding f.payload = .valid r → r.chargeNumber ≠ f.charge) →
          ∃ t, exec (.offerReceived run) s = .next t ∧ t.attention.latched .badOffer = true
            ∧ OnlyChanges [.bus, .attention, .trace] s t)

/-! ## Schedule progress (07) -/

/-- R107, R109, R110, R114, R116, R119, R145, R170: a minute tick counts the charge minutes and, outside IDLE, the snapshot timer,
in every mode; where that timer ends, a SNAPSHOT record with the tick's charge minute is written and the trace interval loaded. In
HELD and SAFE, and in IDLE, GATHER, WARMUP, COOL and COMPLETE, nothing else in the schedule moves; in HELD and SAFE, and in every
position without loops, the ramp stands. In IDLE, where the current rank is empty (R106), nothing is written or latched. In RUN it
counts the step timer of a MINUTES step down, raises the overtime count of a step or of EQUALIZE up to 10080 with STEP OVERTIME at
the maximum that applies, and counts the condition timer down, which ends CONDITION for COOL, and COOL for COMPLETE where the cool
exit is met at once; in a loop position SP_active moves toward its target by at most the ramp rate. The records of the tick are
all given; the place of the SNAPSHOT among them is log entry 14 and is left open, as is the position that a SNAPSHOT shows whose
tick ends CONDITION. -/
def Obligations.MinuteTickCounts : Prop :=
  ∀ (s : State) (minute : Nat),
    minute = (if s.schedule.position = .idle then s.schedule.minute else min 65535 (s.schedule.minute + 1)) →
    ∃ t writes snapshots, exec .minuteTick s = .next t
      ∧ t.schedule.minuteTimer = 1152000 ∧ t.schedule.minute = minute ∧ t.schedule.mode = s.schedule.mode
      ∧ OnlyChanges [.schedule, .climate, .trace, .attention] s t
      ∧ (s.schedule.mode ≠ .run ∨ s.schedule.position ∈ [.idle, .gather, .warmup, .cool, .complete] →
        t.schedule = { s.schedule with minute := minute, minuteTimer := 1152000 } ∧ writes = [])
      ∧ (s.schedule.mode ≠ .run ∨ s.schedule.position.isLoop = false → t.climate = s.climate)
      ∧ (s.schedule.position = .idle → t.trace = s.trace ∧ t.attention = s.attention)
      ∧ (s.RingBounded → ∃ xs ys, xs ++ ys = writes ∧ s.Writes t (xs ++ snapshots ++ ys))
      ∧ (s.schedule.position = .idle ∨ s.trace.snapshotTimer ≠ 1 →
        t.trace.snapshotTimer =
            (if s.schedule.position = .idle then s.trace.snapshotTimer else s.trace.snapshotTimer - 1)
          ∧ snapshots = [])
      ∧ (s.schedule.position ≠ .idle → s.trace.snapshotTimer = 1 →
        (∀ r, s.currentRecord = some r → t.trace.snapshotTimer = r.traceInterval)
          ∧ ∃ p : Position, snapshots = [{ s.traceRecord .snapshot with minute := minute, position := p }]
            ∧ (p = s.schedule.position ∨ p = t.schedule.position))
      ∧ ∀ r : ChargeRecord, s.currentRecord = some r → s.schedule.mode = .run →
        (∀ (k : Nat) (st : ScheduleStep), s.schedule.position = .drying k → r.stepAt k = some st →
          t.schedule =
              { s.schedule with
                minute := minute, minuteTimer := 1152000
                stepTimer := if st.basis = .minutes then s.schedule.stepTimer - 1 else s.schedule.stepTimer
                overtime := if s.schedule.overtime < 10080 then s.schedule.overtime + 1 else s.schedule.overtime }
            ∧ t.attention.stamp .stepOvertime =
              (if st.maximum ≠ 0 ∧ s.schedule.overtime + 1 = st.maximum ∧ s.schedule.overtime < 10080 then
                some ((s.attention.stamp .stepOvertime).getD minute)
              else s.attention.stamp .stepOvertime)
            ∧ writes =
              (if s.attention.stamp .stepOvertime = none ∧ t.attention.stamp .stepOvertime ≠ none then
                [{ s.traceRecord (.condition .stepOvertime) with minute := minute }]
              else []))
        ∧ (s.schedule.position = .equalize →
          t.schedule =
              { s.schedule with
                minute := minute, minuteTimer := 1152000
                overtime := if s.schedule.overtime < 10080 then s.schedule.overtime + 1 else s.schedule.overtime }
            ∧ t.attention.stamp .stepOvertime =
              (if r.equalizeMaximum ≠ 0 ∧ s.schedule.overtime + 1 = r.equalizeMaximum ∧ s.schedule.overtime < 10080 then
                some ((s.attention.stamp .stepOvertime).getD minute)
              else s.attention.stamp .stepOvertime)
            ∧ writes =
              (if s.attention.stamp .stepOvertime = none ∧ t.attention.stamp .stepOvertime ≠ none then
                [{ s.traceRecord (.condition .stepOvertime) with minute := minute }]
              else []))
        ∧ (s.schedule.position = .condition →
          (s.schedule.conditionTimer ≠ 1 →
            writes = []
              ∧ t.schedule =
                { s.schedule with
                  minute := minute, minuteTimer := 1152000, conditionTimer := s.schedule.conditionTimer - 1 })
          ∧ (s.schedule.conditionTimer = 1 → ∀ path : List (Position × Cause),
            path = (.cool, .own) :: (s.onward r .cool).map (·, .own) →
            writes = pathRecords s t .condition [] [] path
              ∧ t.attention.latched .phaseEntered = true
              ∧ ∀ x, path.getLast? = some x →
                t.schedule = { s.schedule.entered r x.1 with minute := minute, minuteTimer := 1152000 }
                  ∧ ClimateEntered s t r x.1))
        ∧ (s.schedule.position ≠ .condition ∨ s.schedule.conditionTimer ≠ 1 → s.climate.spActive = none →
          t.climate = s.climate)
        ∧ ∀ sp target, s.schedule.position.isLoop = true →
          s.schedule.position ≠ .condition ∨ s.schedule.conditionTimer ≠ 1 →
          s.climate.spActive = some sp → s.climate.targetDry = some target →
          ∃ sp', t.climate = { s.climate with spActive := some sp' }
            ∧ (target = sp' ∨ sp < target ∧ sp' = sp + r.rampRate ∧ sp' < target
                ∨ target < sp ∧ sp' = sp - r.rampRate ∧ target < sp')
            ∧ sp' ≤ sp + r.rampRate ∧ sp - r.rampRate ≤ sp'

/-- R114, R116, R170: in DRYING in RUN the step timer's expiry leaves it at 0; there and in EQUALIZE the overtime count that becomes
equal to the maximum that applies, the step's or the record's equalize maximum, latches STEP OVERTIME. In HELD and SAFE neither
timer moves. Outside IDLE the snapshot timer's expiry writes a SNAPSHOT record and loads the trace interval; in IDLE it stands. -/
def Obligations.StepAndSnapshotTimersExpire : Prop :=
  ∀ s : State,
    (s.schedule.mode ≠ .run → exec .stepTimerExpiry s = .next s ∧ exec .overtimeLimit s = .next s)
      ∧ (s.schedule.position = .idle → exec .snapshotTimerExpiry s = .next s)
      ∧ ∀ r : ChargeRecord, s.currentRecord = some r →
        (∀ k : Nat, s.schedule.position = .drying k → s.schedule.mode = .run →
          exec .stepTimerExpiry s = .next (s.setSchedule { s.schedule with stepTimer := 0 }))
        ∧ (∀ (k : Nat) (st : ScheduleStep) (most : Nat), s.schedule.mode = .run →
          (s.schedule.position = .drying k ∧ r.stepAt k = some st ∧ most = st.maximum)
            ∨ s.schedule.position = .equalize ∧ most = r.equalizeMaximum →
          s.schedule.overtime < most →
          ∃ t, exec .overtimeLimit s = .next t
            ∧ t.schedule = { s.schedule with overtime := most }
            ∧ t.attention.stamp .stepOvertime = some ((s.attention.stamp .stepOvertime).getD s.schedule.minute)
            ∧ OnlyChanges [.schedule, .attention, .trace] s t)
        ∧ (s.schedule.position ≠ .idle →
          ∃ t, exec .snapshotTimerExpiry s = .next t
            ∧ t.trace.records.getLast? = some (s.traceRecord .snapshot)
            ∧ t.trace.snapshotTimer = r.traceInterval ∧ OnlyChanges [.trace, .attention] s t)

/-- R111, R112, R119, R120: in RUN the gather timer's expiry latches ROSTER SHORT and enters WARMUP, and the condition timer's expiry
enters COOL, each with cause OWN; where the exit of the position entered is met at once, DRYING(step 1) or COMPLETE is entered at the
same event. Each entry takes the timers, the active pair and the outputs of its position and writes its own record, the CONDITION
record of ROSTER SHORT with that of the entry (log entry 33, DESIGN CHOICE, for the position it shows). -/
def Obligations.PhaseTimersExpire : Prop :=
  ∀ (s : State) (r : ChargeRecord), s.currentRecord = some r → s.schedule.mode = .run →
    (s.schedule.position = .gather →
      ∃ t, exec .gatherTimerExpiry s = .next t
        ∧ EntersPath s t r [] ((.warmup, .own) :: (s.onward r .warmup).map (·, .own)) [.rosterShort]
        ∧ OnlyChanges [.schedule, .climate, .attention, .trace] s t)
      ∧ (s.schedule.position = .condition →
        ∃ t, exec .conditionTimerExpiry s = .next t
          ∧ EntersPath s t r [] ((.cool, .own) :: (s.onward r .cool).map (·, .own))
          ∧ OnlyChanges [.schedule, .climate, .attention, .trace] s t)

/-- R78, R86, R117, R119: the picture of a probe sweep completion. In DRYING(step k) in RUN, a SUFFICIENT one whose driest has reached
the equalize-start level enters EQUALIZE; otherwise one whose controlling MC is at or below the step's advance MC, with the step
timer at 0, enters the next step, or EQUALIZE from the last. In EQUALIZE in RUN, a SUFFICIENT one whose wettest is at or below the
final target enters CONDITION, and goes on to COOL where its condition time is 0. Each entry has cause OWN and writes its STEP or
PHASE record (R108, R159). In every other case the schedule and the climate controller stand: with a SHORT picture, which latches
PICTURE SHORT in DRYING and EQUALIZE, in HELD and SAFE, in every other position, and with the current rank empty, where the picture
is IDLE and nothing is latched or written. -/
def Obligations.PictureAdvancesStep : Prop :=
  ∀ (s : State) (p : Picture),
    s.frontEnd.sweep = .probeSweep → s.frontEnd.samples.length = 32 →
    p = pictureOf s.currentRecord (s.setReadings (convertSweep s.conversionInputs s.frontEnd.samples)).accepted →
    ∃ t, exec .probeSweepComplete s = .next t ∧ t.picture = some p
      ∧ (s.currentRecord = none →
          t.schedule = s.schedule ∧ t.climate = s.climate ∧ t.attention = s.attention ∧ t.trace = s.trace)
      ∧ ∀ r : ChargeRecord, s.currentRecord = some r →
        (p.sufficient = false → t.schedule = s.schedule ∧ t.climate = s.climate
            ∧ ((∃ k, s.schedule.position = .drying k) ∨ s.schedule.position = .equalize →
                t.attention.latched .pictureShort = true))
        ∧ (p.sufficient = true ∨ ((∀ k, s.schedule.position ≠ .drying k) ∧ s.schedule.position ≠ .equalize) →
            t.attention.stamp .pictureShort = s.attention.stamp .pictureShort)
        ∧ (s.schedule.mode ≠ .run → t.schedule = s.schedule ∧ t.climate = s.climate)
        ∧ ((∀ k, s.schedule.position ≠ .drying k) → s.schedule.position ≠ .equalize →
            t.schedule = s.schedule ∧ t.climate = s.climate)
        ∧ (∀ k st d c, s.schedule.position = .drying k → r.stepAt k = some st → s.schedule.mode = .run →
            p.sufficient = true → p.driest = some d → p.controlling = some c →
            ((d.mc : Int) ≤ (r.finalTarget : Int) - r.equalizeOffset → EntersPath s t r [] [(.equalize, .own)])
              ∧ ((r.finalTarget : Int) - r.equalizeOffset < d.mc → c ≤ st.advanceMc → s.schedule.stepTimer = 0 →
                  EntersPath s t r [] [(if k = r.steps.length then .equalize else .drying (k + 1), .own)])
              ∧ ((r.finalTarget : Int) - r.equalizeOffset < d.mc →
                  st.advanceMc < c ∨ s.schedule.stepTimer ≠ 0 →
                  t.schedule = s.schedule ∧ t.climate = s.climate ∧ t.trace = s.trace))
        ∧ (∀ w, s.schedule.position = .equalize → s.schedule.mode = .run → p.sufficient = true → p.wettest = some w →
            (w.mc ≤ r.finalTarget → EntersPath s t r [] ((.condition, .own) :: (s.onward r .condition).map (·, .own)))
              ∧ (r.finalTarget < w.mc → t.schedule = s.schedule ∧ t.climate = s.climate ∧ t.trace = s.trace))

/-! ## Directives and SAFE (08) -/

/-- R124, R128, R130, R133, R134, R138: HOLD takes RUN to HELD, RESUME takes HELD to RUN, and RESET SAFE takes SAFE with the
emergency input released to HELD; a RESET SAFE that names charge 0 does so in IDLE. Each writes a MODE record and changes the mode
alone in the schedule, at a receiver and at the station where it is entered. The climate controller takes the regime of the new
mode: it keeps the target pair, SP_active, the active depression and the settle timer, in LOOPS the outputs and I too, and without
loops it takes the outputs of TABLE 9-3 with I at 0 (R146, R156; the deviation count at 0: log entry 17). A RESUME in WARMUP,
CONDITION or COOL whose exit is met, and in GATHER whose watch is met, then takes that exit with cause OWN, after the outputs of
GATHER are set (R146). A receiver ignores a directive other than START that names another charge or would change nothing, a RESET
SAFE of charge 0 among them outside SAFE or with the emergency input asserted, and latches CODE MISMATCH at another charge code;
the origin answers STATE, CODE or BUSY as TABLE 8-3 and R133 lay down, and there a HOLD, RESUME or RESET SAFE that would change no
mode passes: it sets the DIRECTIVE slot and is answered DONE, and changes nothing else. -/
def Obligations.ModeDirectivesChangeMode : Prop :=
  ∀ (s : State) (charge code : Word16),
    (∀ (k : DirectiveKind) (m : Mode),
      (k = .hold ∧ s.RunsCharge charge code ∧ s.schedule.mode = .run ∧ m = .held)
        ∨ (k = .resetSafe ∧ (charge ≠ 0 ∧ s.RunsCharge charge code ∨ charge = 0 ∧ s.schedule.position = .idle)
            ∧ s.schedule.mode = .safe ∧ s.pins.emergency = false ∧ m = .held) →
      (∀ (run : List LineByte) (phase step : Byte) (c : Instr), s.HearsDirective run k charge code phase step →
        (k, c) ∈ [(DirectiveKind.hold, Instr.holdDirectiveReceived run), (.resetSafe, .resetSafeDirectiveReceived run)] →
        ∃ t, exec c s = .next t ∧ t.schedule = { s.schedule with mode := m } ∧ t.bus = s.bus.runOver
          ∧ (s.RingBounded → s.Writes t [{ s.traceRecord .mode with mode := m }])
          ∧ t.climate = s.climateIn m
          ∧ OnlyChanges [.bus, .schedule, .climate, .attention, .trace] s t)
      ∧ ∀ c : Instr, s.CanOriginate →
        (k, c) ∈ [(DirectiveKind.hold, Instr.directiveHold charge code), (.resetSafe, .directiveResetSafe charge code)] →
        ∃ t, exec c s = .next t ∧ t.schedule = { s.schedule with mode := m } ∧ Originated k charge code 0 0 s t
          ∧ (s.RingBounded → s.Writes t [{ s.traceRecord .mode with mode := m }])
          ∧ t.climate = s.climateIn m
          ∧ OnlyChanges [.bus, .schedule, .climate, .attention, .trace, .port] s t)
    ∧ (∀ (r : RankedRecord) (c : Instr) (running : State) (path : List Position), s.store.current = some r →
        s.RunsCharge charge code → s.schedule.mode = .held →
        (∃ (run : List LineByte) (phase step : Byte),
            c = .resumeDirectiveReceived run ∧ s.HearsDirective run .resume charge code phase step)
          ∨ c = .directiveResume charge code ∧ s.CanOriginate →
        running =
            { s with
              schedule := { s.schedule with mode := .run }
              climate := s.climateIn .run } →
        (s.schedule.position = .gather ∧ s.schedule.gatherArmed = true ∧ s.RosterMatched r 0
              ∧ path = .warmup :: running.onward r.record .warmup
          ∨ ¬(s.schedule.position = .gather ∧ s.schedule.gatherArmed = true ∧ s.RosterMatched r 0)
              ∧ path =
                (if s.schedule.position = .condition then
                  (if s.schedule.conditionTimer = 0 then .cool :: running.onward r.record .cool else [])
                else running.onward r.record s.schedule.position)) →
        ∃ t, exec c s = .next t
          ∧ EntersPath running t r.record [{ t.traceRecord .mode with position := s.schedule.position }] (path.map (·, .own))
          ∧ (path = [] → t.climate = s.climateIn .run) ∧ t.climate.regime = tableRegime .run t.schedule.position
          ∧ (c = .directiveResume charge code → Originated .resume charge code 0 0 s t)
          ∧ (c ≠ .directiveResume charge code → t.bus = s.bus.runOver ∧ t.port = s.port)
          ∧ OnlyChanges [.bus, .schedule, .climate, .attention, .trace, .port] s t)
    ∧ (∀ (k : DirectiveKind) (run : List LineByte) (phase step : Byte), k ≠ .start → (k = .skip → phase.toNat ≤ 7) →
        s.HearsDirective run k charge code phase step →
        (k = .resetSafe → charge = 0 → s.schedule.position ≠ .idle →
            exec (receivedRow run k) s = .next (s.setBus s.bus.runOver))
          ∧ ((k = .resetSafe → charge ≠ 0) → (∀ r, s.currentRecord = some r → r.chargeNumber ≠ charge.toNat) →
            exec (receivedRow run k) s = .next (s.setBus s.bus.runOver))
          ∧ (∀ r, (k = .resetSafe → charge ≠ 0) → s.currentRecord = some r → r.chargeNumber = charge.toNat →
            r.chargeCode ≠ code.toNat →
            ∃ t, exec (receivedRow run k) s = .next t ∧ t.bus = s.bus.runOver
              ∧ t.attention.latched .codeMismatch = true ∧ OnlyChanges [.bus, .attention, .trace] s t)
          ∧ (k = .hold ∧ s.schedule.mode ≠ .run ∨ k = .resume ∧ s.schedule.mode ≠ .held ∨ k = .skip ∧ s.schedule.mode = .safe
              ∨ k = .resetSafe ∧ (s.schedule.mode ≠ .safe ∨ s.pins.emergency = true) →
            s.RunsCharge charge code ∨ k = .resetSafe ∧ charge = 0 →
            exec (receivedRow run k) s = .next (s.setBus s.bus.runOver)))
    ∧ (∀ (k : DirectiveKind) (run : List LineByte) (f : Frame), s.Hears .directive run f →
        f.payload.length ≠ 5 ∨ f.payload.head? ≠ some (BitVec.ofNat 8 k.code)
            ∨ k = .skip ∧ 7 < (f.payload.getD 3 0).toNat →
        exec (receivedRow run k) s = .next (s.setBus s.bus.runOver))
    ∧ ∀ (k : DirectiveKind) (phase step : Byte), s.PortIdle →
        (s.bus.slots.directive.isSome = true → exec (originRow charge code phase step k) s = .next (s.answered 0x03 .busy))
          ∧ (k ≠ .start → (k = .skip → phase.toNat ≤ 7) → s.bus.slots.directive = none →
            (k = .resetSafe → charge = 0 → s.schedule.position ≠ .idle ∨ s.pins.emergency = true →
                exec (originRow charge code phase step k) s = .next (s.answered 0x03 .stateRefused))
              ∧ ((k = .resetSafe → charge ≠ 0) → (∀ r, s.currentRecord = some r → r.chargeNumber ≠ charge.toNat) →
                exec (originRow charge code phase step k) s = .next (s.answered 0x03 .stateRefused))
              ∧ (∀ r, (k = .resetSafe → charge ≠ 0) → s.currentRecord = some r → r.chargeNumber = charge.toNat →
                r.chargeCode ≠ code.toNat →
                ∃ t, exec (originRow charge code phase step k) s = .next t
                  ∧ t.port = { s.port with sending := some (responseOf 0x03 .codeRefused) }
                  ∧ t.attention.latched .codeMismatch = true ∧ OnlyChanges [.attention, .trace, .port] s t)
              ∧ (k = .resetSafe → s.RunsCharge charge code → charge ≠ 0 → s.pins.emergency = true →
                exec (originRow charge code phase step k) s = .next (s.answered 0x03 .stateRefused)))
          ∧ (s.bus.slots.directive = none →
            k = .hold ∧ s.RunsCharge charge code ∧ s.schedule.mode ≠ .run
                ∨ k = .resume ∧ s.RunsCharge charge code ∧ s.schedule.mode ≠ .held
                ∨ k = .resetSafe ∧ (charge ≠ 0 ∧ s.RunsCharge charge code ∨ charge = 0 ∧ s.schedule.position = .idle)
                  ∧ s.schedule.mode ≠ .safe ∧ s.pins.emergency = false →
            ∃ t, exec (originRow charge code phase step k) s = .next t ∧ Originated k charge code 0 0 s t
              ∧ t.bus.slots.safe = s.bus.slots.safe ∧ t.bus.slots.offer = s.bus.slots.offer
              ∧ t.bus.slots.report = s.bus.slots.report ∧ t.bus.attempt = s.bus.attempt
              ∧ OnlyChanges [.bus, .port] s t)

/-- R108, R131, R133, R134, R159: a SKIP to a position beyond the own one under the current record, in RUN or HELD, enters it with
cause DIRECTED, at a receiver and at the station where it is entered: the schedule, the targets and the STEP or PHASE record are
those of the entry, STEP ADVANCED or PHASE ENTERED is latched, and where the position entered is left at once the entries that
follow have cause OWN. With a current record the position is not IDLE (R106). A target at or below the own position, or with no
rank, is ignored at a receiver and answered STATE at the origin, as is every SKIP in SAFE there; a target phase that is no code is
answered MALFORMED. -/
def Obligations.SkipEntersTargetStep : Prop :=
  PositionTable ∧ ∀ (s : State) (charge code : Word16) (phase step : Byte) (r : ChargeRecord) (a : Nat),
    s.RunsCharge charge code → s.currentRecord = some r →
    positionRank r.stepCount s.schedule.position = some a →
    (∀ (p : Position) (b : Nat) (c : Instr), s.schedule.mode ≠ .safe → s.schedule.position ≠ .idle →
      phase.toNat = phaseCode p → step.toNat = stepCode p → positionRank r.stepCount p = some b → a < b →
      (∃ run : List LineByte,
          c = .skipDirectiveReceived run ∧ s.HearsDirective run .skip charge code phase step)
        ∨ c = .directiveSkip charge code phase step ∧ s.CanOriginate →
      ∃ t, exec c s = .next t ∧ EntersPath s t r [] ((p, .directed) :: (s.onward r p).map (·, .own))
        ∧ (c = .directiveSkip charge code phase step → Originated .skip charge code phase step s t)
        ∧ (c ≠ .directiveSkip charge code phase step → t.bus = s.bus.runOver ∧ t.port = s.port)
        ∧ OnlyChanges [.bus, .schedule, .climate, .attention, .trace, .port] s t)
      ∧ ((∀ p b, phase.toNat = phaseCode p → step.toNat = stepCode p → positionRank r.stepCount p = some b → b ≤ a) →
        (∀ run : List LineByte, s.HearsDirective run .skip charge code phase step →
            exec (.skipDirectiveReceived run) s = .next (s.setBus s.bus.runOver))
          ∧ (s.CanOriginate → phase.toNat ≤ 7 →
            exec (.directiveSkip charge code phase step) s = .next (s.answered 0x03 .stateRefused)))
      ∧ (s.CanOriginate → 7 < phase.toNat →
        exec (.directiveSkip charge code phase step) s = .next (s.answered 0x03 .malformed))
      ∧ (s.CanOriginate → phase.toNat ≤ 7 → s.schedule.mode = .safe →
        exec (.directiveSkip charge code phase step) s = .next (s.answered 0x03 .stateRefused))

/-- R104, R132, R156: an ABORT makes the position IDLE with every schedule timer and the minute count at 0, keeps SAFE and turns
any other mode to RUN, empties the current rank and an OFFER slot that names it, takes the targets and setpoints away with the
deviation count at 0 and sets the outputs of the regime, and writes an ABORT record with the position and the minute it ended,
last of its records; at a receiver and at the station where it is entered. Emptying the slot while its attempt runs is the
model's reading (log entry 11). -/
def Obligations.AbortEndsCharge : Prop :=
  ∀ (s : State) (charge code : Word16), s.RunsCharge charge code →
    ∀ c : Instr,
      (∃ (run : List LineByte) (phase step : Byte),
          c = .abortDirectiveReceived run ∧ s.HearsDirective run .abort charge code phase step)
        ∨ c = .directiveAbort charge code ∧ s.CanOriginate →
      ∃ t, exec c s = .next t
        ∧ t.schedule =
            { s.schedule with
              position := .idle, mode := if s.schedule.mode = .safe then .safe else .run, stepTimer := 0
              overtime := 0, conditionTimer := 0, gatherTimer := 0, gatherArmed := false, minute := 0 }
        ∧ t.store = { s.store with current := none }
        ∧ t.bus.slots.offer =
            (match s.bus.slots.offer with
            | some o => if o.rank = .current then none else some o
            | none => none)
        ∧ t.climate =
            { targetDry := none, targetDep := none, spActive := none, activeDep := none
              regime := if s.schedule.mode = .safe then .safe else .off
              integral := 0, heat := 0, spray := 0
              vent := if s.straps.role = .zone ∧ s.schedule.mode = .safe then 1000 else 0
              settleTimer := s.climate.settleTimer, deviation := 0 }
        ∧ t.trace.snapshotTimer = 0
        ∧ (t.trace.records.getLast?.map fun x => (x.kind, x.position, x.minute, x.mode)) =
            some (.abort, s.schedule.position, s.schedule.minute, t.schedule.mode)
        ∧ (c = .directiveAbort charge code → Originated .abort charge code 0 0 s t)
        ∧ OnlyChanges [.bus, .store, .schedule, .climate, .attention, .trace, .port] s t

/-- R101, R102, R103, R111, R129, R133, R134: a START of the staged record, in IDLE or COMPLETE and outside SAFE, promotes it with
cause DIRECTED, at a receiver and at the station where it is entered; and so does, with cause FOLLOWED, a report of that record from
a station of its roster that has left IDLE, the late join. The staged rank is emptied, GATHER is entered with its timer at 300 s and
the watch armed, the minute count restarts, the snapshot timer takes the trace interval, and the calibrate-request flag is set. The
watch is tested at once, with its entry to WARMUP, and a report that joined is then judged by the follow rule. A report that fails a
condition of R103 joins nothing: in SAFE, with no record staged, of another charge or check, in IDLE, or of a sender off the staged
roster. A START under the current number or in another position is ignored at a receiver and answered STATE at the origin; one whose
record is not staged latches CHARGE MISSING, and one of another charge code CODE MISMATCH. -/
def Obligations.StartPromotes : Prop :=
  ∀ (s : State) (charge code : Word16),
    (∀ (r : RankedRecord) (c : Instr) (cause : Cause) (promoted : State) (sender : Nat)
        (own followed : List (Position × Cause)) (reached : Position),
      s.store.staged = some r → r.record.chargeNumber = charge.toNat → r.record.chargeCode = code.toNat → charge ≠ 0 →
      (∀ c, s.currentRecord = some c → c.chargeNumber ≠ charge.toNat) →
      (s.schedule.position = .idle ∨ s.schedule.position = .complete) → s.schedule.mode ≠ .safe →
      promoted =
          { s with
            schedule := { s.schedule with minute := 0, minuteTimer := 1152000 }
            climate := { s.climate with integral := 0, heat := 0, spray := 0, vent := 0 } } →
      (s.schedule.mode = .run ∧ s.RosterMatched r sender
            ∧ own = (.warmup, .own) :: (s.onward r.record .warmup).map (·, .own)
        ∨ ¬(s.schedule.mode = .run ∧ s.RosterMatched r sender) ∧ own = []) →
      reached = (match own.getLast? with | some x => x.1 | none => .gather) →
      (∃ (run : List LineByte) (phase step : Byte),
          c = .startDirectiveReceived run ∧ s.HearsDirective run .start charge code phase step ∧ cause = .directed
            ∧ sender = 0 ∧ followed = [])
        ∨ (c = .directiveStart charge code ∧ s.CanOriginate ∧ cause = .directed ∧ sender = 0 ∧ followed = [])
        ∨ (∃ (run : List LineByte) (f : Frame) (d : ReportData),
          c = .reportReceived run ∧ s.Hears .report run f ∧ parseReport f.charge f.payload = some d
            ∧ d.charge = charge.toNat ∧ d.check = r.check ∧ d.position ≠ .idle ∧ r.record.onRoster f.station = true
            ∧ cause = .followed ∧ sender = f.station
            ∧ (s.FollowMet r reached f.station d
                  ∧ followed = (d.position, .followed) :: (s.onward r.record d.position).map (·, .own)
              ∨ ¬s.FollowMet r reached f.station d ∧ followed = [])) →
      ∃ t, exec c s = .next t
        ∧ t.store = { s.store with staged := none, current := some r }
        ∧ EntersPath promoted t r.record [] ((.gather, cause) :: own ++ followed)
        ∧ t.trace.snapshotTimer = r.record.traceInterval
        ∧ t.frontEnd =
            (if s.frontEnd.sweep = .idleFe then
              { s.frontEnd with sweep := .calSweep, calRequest := false, samples := [], windowTimer := 9600 }
            else { s.frontEnd with calRequest := true })
        ∧ t.bus.slots.offer = s.bus.slots.offer.map (fun o => { o with rank := .current })
        ∧ (c = .directiveStart charge code → Originated .start charge code 0 0 s t)
        ∧ ((∀ run, c ≠ .reportReceived run) → t.peers = s.peers)
        ∧ OnlyChanges [.bus, .store, .schedule, .climate, .attention, .trace, .port, .frontEnd, .peers] s t)
    ∧ (∀ (run : List LineByte) (f : Frame) (d : ReportData), s.Hears .report run f →
        parseReport f.charge f.payload = some d →
        (s.schedule.position = .idle ∧ s.store.current = none) ∨ s.schedule.position = .complete →
        s.schedule.mode = .safe ∨ d.position = .idle ∨ s.store.staged = none
          ∨ (∃ r, s.store.staged = some r
            ∧ (d.charge ≠ r.record.chargeNumber ∨ d.check ≠ r.check ∨ r.record.onRoster f.station = false)) →
        ∃ t, exec (.reportReceived run) s = .next t ∧ t.bus = s.bus.runOver
          ∧ OnlyChanges [.bus, .peers, .attention, .trace] s t)
    ∧ (∀ (run : List LineByte) (phase step : Byte), s.HearsDirective run .start charge code phase step →
        ((s.schedule.position ≠ .idle ∧ s.schedule.position ≠ .complete) ∨ s.schedule.mode = .safe ∨ charge = 0
            ∨ (∃ c, s.currentRecord = some c ∧ c.chargeNumber = charge.toNat) →
          exec (.startDirectiveReceived run) s = .next (s.setBus s.bus.runOver))
        ∧ (s.schedule.position = .idle ∨ s.schedule.position = .complete → s.schedule.mode ≠ .safe → charge ≠ 0 →
          (∀ c, s.currentRecord = some c → c.chargeNumber ≠ charge.toNat) →
          ((∀ r, s.store.staged = some r → r.record.chargeNumber ≠ charge.toNat) →
              ∃ t, exec (.startDirectiveReceived run) s = .next t ∧ t.attention.latched .chargeMissing = true
                ∧ t.bus = s.bus.runOver ∧ OnlyChanges [.bus, .attention, .trace] s t)
            ∧ ∀ r, s.store.staged = some r → r.record.chargeNumber = charge.toNat → r.record.chargeCode ≠ code.toNat →
              ∃ t, exec (.startDirectiveReceived run) s = .next t ∧ t.attention.latched .codeMismatch = true
                ∧ t.bus = s.bus.runOver ∧ OnlyChanges [.bus, .attention, .trace] s t))
    ∧ (s.CanOriginate →
        ((s.schedule.position ≠ .idle ∧ s.schedule.position ≠ .complete) ∨ s.schedule.mode = .safe ∨ charge = 0
            ∨ (∃ c, s.currentRecord = some c ∧ c.chargeNumber = charge.toNat) →
          exec (.directiveStart charge code) s = .next (s.answered 0x03 .stateRefused))
        ∧ (s.schedule.position = .idle ∨ s.schedule.position = .complete → s.schedule.mode ≠ .safe → charge ≠ 0 →
          (∀ c, s.currentRecord = some c → c.chargeNumber ≠ charge.toNat) →
          ((∀ r, s.store.staged = some r → r.record.chargeNumber ≠ charge.toNat) →
              ∃ t, exec (.directiveStart charge code) s = .next t ∧ t.attention.latched .chargeMissing = true
                ∧ t.port = { s.port with sending := some (responseOf 0x03 .stateRefused) }
                ∧ OnlyChanges [.port, .attention, .trace] s t)
            ∧ ∀ r, s.store.staged = some r → r.record.chargeNumber = charge.toNat → r.record.chargeCode ≠ code.toNat →
              ∃ t, exec (.directiveStart charge code) s = .next t ∧ t.attention.latched .codeMismatch = true
                ∧ t.port = { s.port with sending := some (responseOf 0x03 .codeRefused) }
                ∧ OnlyChanges [.port, .attention, .trace] s t))

/-- R135, R136, R137: an assertion of the emergency input and a heard SAFE frame each take a station in RUN or HELD into SAFE,
with the safe origin of the event and SAFE latched; the MODE record is written before the CONDITION record of SAFE (R159), and
the outputs are those of SAFE at once: no heat, no spray, I at 0, and on a ZONE station the safe vent position, or 1000 with
the rank empty (R146, R156). That the deviation count falls to 0 at the change itself is log entry 17 (DEDUCED). The assertion
also sets the SAFE slot. A station already in SAFE keeps its mode, origin and outputs. A release changes the level alone. -/
def Obligations.SafeIsEntered : Prop :=
  ∀ s : State,
    (s.pins.emergency = false →
      ∃ t, exec .emergencyAssertion s = .next t
        ∧ t.pins = { s.pins with emergency := true }
        ∧ t.schedule =
            { s.schedule with
              mode := .safe
              safeOrigin :=
                if s.schedule.mode = .safe then s.schedule.safeOrigin
                else some { station := s.straps.station, cause := 0x01 } }
        ∧ t.attention.latched .safe = true
        ∧ (s.schedule.mode ≠ .safe → SafeAnnounced s t)
        ∧ (s.schedule.mode = .safe → t.climate = s.climate)
        ∧ (s.bus.clash = false → t.bus.slots = { s.bus.slots with safe := some (s.bus.slots.safe.getD 0) })
        ∧ (s.bus.clash = true → t.bus = s.bus)
        ∧ OnlyChanges [.pins, .bus, .schedule, .climate, .attention, .trace] s t)
      ∧ (∀ (run : List LineByte) (f : Frame), s.Hears .safe run f →
        ∃ t, exec (.safeFrameReceived run) s = .next t ∧ t.bus = s.bus.runOver
          ∧ (s.schedule.mode ≠ .safe →
              t.schedule =
                  { s.schedule with
                    mode := .safe, safeOrigin := some { station := f.station, cause := f.payload.headD 0 } }
                ∧ t.attention.latched .safe = true ∧ SafeAnnounced s t
                ∧ OnlyChanges [.bus, .schedule, .climate, .attention, .trace] s t)
          ∧ (s.schedule.mode = .safe → OnlyChanges [.bus] s t))
      ∧ exec .emergencyRelease s = .next (s.setPins { s.pins with emergency := false })

/-! ## Conditions, trace, service port (10 to 12) -/

/-- R158, R159: of the conditions that one event latches, each that is clear takes the charge minute as its stamp and writes one
CONDITION record with the fields as they stand, in the order of TABLE 10-1; one that is latched keeps its stamp and writes
nothing. TRACE OVERRUN writes none, and is latched by the event or by a record that finds the ring full (R167). No command
but POWER_ON, CLEAR_CONDITIONS and a service byte that may end such a request takes a stamp away or changes it.
R160 to R164: the classes are those of TABLE 10-1. CLEAR CONDITIONS clears the latched conditions of the named classes whose
persistent causes do not hold and no other, and judges the output and the level, the highest class that holds a latched
condition, again; SET ATTENTION MASK takes the five maskable enables, leaves FATAL enabled, and judges the output
again. Both are answered DONE. -/
def Obligations.ClearAndMaskActOnAttention : Prop :=
  (∀ (events order : List Condition) (xs : List TraceRecord) (s : State), s.RingBounded →
    order =
        [.safe, .addressClash, .wetBulbFault, .climateDeviation, .heatCutoff, .referenceFault, .temperatureFault, .peerStale,
          .rosterShort, .unlistedStation, .recordClash, .offerClash, .badOffer, .frameDropped, .lineBlocked, .stepAdvanced,
          .phaseEntered, .stepOvertime, .pictureShort, .chargeMissing, .codeMismatch] →
    xs =
        (order.filter fun c => decide (c ∈ events ∧ s.attention.stamp c = none)).map
          (fun c => s.traceRecord (.condition c)) →
    s.Writes (latchAll events s) xs
      ∧ (∀ c, c ≠ .traceOverrun →
        (latchAll events s).attention.stamp c =
          (if c ∈ events ∧ s.attention.stamp c = none then some s.schedule.minute else s.attention.stamp c))
      ∧ (latchAll events s).attention.stamp .traceOverrun =
          (if s.attention.stamp .traceOverrun = none
              ∧ (.traceOverrun ∈ events ∨ 512 < s.trace.records.length + xs.length) then some s.schedule.minute
          else s.attention.stamp .traceOverrun)
      ∧ OnlyChanges [.attention, .trace] s (latchAll events s))
  ∧ (∀ (c : Instr) (s t : State), exec c s = .next t → (∀ n k r e f, c ≠ .powerOn n k r e f) →
      (∀ classes, c ≠ .clearConditions classes) → (∀ b stop, c ≠ .serviceByteReceived b stop) →
      ∀ k minute, s.attention.stamp k = some minute → t.attention.stamp k = some minute)
  ∧ ConditionTable
  ∧ (∀ a : Attention, a.HasLevel a.levelOf ∧ a.HasOutput a.outputOf
      ∧ ∀ k, a.enabled k = (k == .fatal || a.mask.getLsbD k.bit))
  ∧ ∀ (s : State) (classes : Byte), s.AttentionJudged → s.port.sending = none → s.port.busy = [] →
    classes.getLsbD 6 = false → classes.getLsbD 7 = false →
    (∃ t, exec (.clearConditions classes) s = .next t
      ∧ (∀ c, classes.getLsbD c.cls.bit = true ∧ ¬s.PersistentCause c → t.attention.stamp c = none)
      ∧ (∀ c, classes.getLsbD c.cls.bit = false ∨ s.PersistentCause c → t.attention.stamp c = s.attention.stamp c)
      ∧ t.attention.HasLevel t.attention.level ∧ t.attention.HasOutput t.attention.output
      ∧ t.attention.mask = s.attention.mask
      ∧ (t.attention.output = true ↔ ∃ c, t.attention.latched c = true ∧ t.attention.enabled c.cls = true)
      ∧ t.port = { s.port with sending := some (responseOf 0x0B (.done [])) }
      ∧ OnlyChanges [.attention, .port] s t)
      ∧ ∃ t, exec (.setAttentionMask classes) s = .next t
          ∧ (∀ k, t.attention.enabled k = (k == .fatal || classes.getLsbD k.bit))
          ∧ t.attention.stamps = s.attention.stamps ∧ t.attention.level = s.attention.level
          ∧ t.attention.HasLevel t.attention.level ∧ t.attention.HasOutput t.attention.output
          ∧ (t.attention.output = true ↔ ∃ c, t.attention.latched c = true ∧ t.attention.enabled c.cls = true)
          ∧ t.port = { s.port with sending := some (responseOf 0x0C (.done [])) }
          ∧ OnlyChanges [.attention, .port] s t

/-- R9, R36, R71, R87, R157, R161, R164, R166, R171, R173 to R177: with the transmitter idle each read is answered DONE with its data
and changes the port alone, but that READ TRACE removes the six oldest records, which it returns; CALIBRATE with the flag clear
sets it; a station or class set out of range is answered RANGE with field 1. With the transmitter occupied each request joins the
BUSY list, or goes unanswered where it holds four, and is not executed. A response is the frame of TABLE 12-1 with the status of
TABLE 12-2, and the data of the reads have the layouts of TABLE 12-4. UNKNOWN_REQUEST stands for a request refused as malformed
(log entry 15, DESIGN CHOICE), the response kind of a kind that has its top bit set is read from R173 (log entry 25,
DEDUCED), and the settle and gather timers are shown in seconds rounded up (log entry 4, DEDUCED). -/
def Obligations.IdlePortAnswersRequests : Prop :=
  (∀ s : State, s.PortIdle →
    (∀ x ∈ [(Instr.readPicture, (0x05#8, pictureData s.picture)), (.readReadings, (0x06#8, readingsData s.readings)),
        (.readClimate, (0x08#8, climateData s)), (.readState, (0x09#8, stateData s)),
        (.readConditions, (0x0A#8, conditionsData s.attention))],
      exec x.1 s = .next (s.answered x.2.1 (.done x.2.2)))
      ∧ (∀ n : Byte,
        (1 ≤ n.toNat → n.toNat ≤ 32 → exec (.readPeer n) s = .next (s.answered 0x07 (.done (peerData s n.toNat))))
          ∧ (n.toNat = 0 ∨ 32 < n.toNat → exec (.readPeer n) s = .next (s.answered 0x07 (.range 1))))
      ∧ (∀ classes : Byte, classes.getLsbD 6 = true ∨ classes.getLsbD 7 = true →
        exec (.clearConditions classes) s = .next (s.answered 0x0B (.range 1))
          ∧ exec (.setAttentionMask classes) s = .next (s.answered 0x0C (.range 1)))
      ∧ exec .readTrace s =
          .next
            ((s.setTrace { s.trace with records := s.trace.records.drop 6 }).answered 0x0D
              (.done (BitVec.ofNat 8 (min 6 s.trace.records.length)
                :: (s.trace.records.take 6).flatMap traceRecordData)))
      ∧ (∀ kind : Byte, exec (.unknownRequest kind) s = .next (s.answered kind .malformed))
      ∧ (s.frontEnd.calRequest = false →
        exec .calibrate s =
          .next
            ((s.setFrontEnd
              (if s.frontEnd.sweep = .idleFe then
                { s.frontEnd with sweep := .calSweep, calRequest := false, samples := [], windowTimer := 9600 }
              else { s.frontEnd with calRequest := true })).answered 0x04 (.done [])))
      ∧ (s.frontEnd.calRequest = true → exec .calibrate s = .next (s.answered 0x04 .busy)))
    ∧ (∀ (s : State) (c : Instr) (kind : Byte), s.port.sending.isSome = true ∨ s.port.busy ≠ [] →
      ((requestBytes c).map (·.1) = some kind ∨ c = .unknownRequest kind) →
      exec c s = .next (if s.port.busy.length < 4 then s.setPort { s.port with busy := s.port.busy ++ [kind] } else s))
    ∧ (∀ (kind : Byte) (a : Answer),
      responseOf kind a =
        { bytes := frameOfBytes (kind ||| 0x80) (answerBytes a), bitsLeft := 10 * (5 + (answerBytes a).length) })
    ∧ PictureLayout ∧ ReadingsLayout ∧ PeerLayout ∧ ClimateLayout ∧ StateLayout ∧ ConditionsLayout ∧ TraceLayout

/-- R133, R172, R174, R175: the receiver takes a start byte in HUNT, takes bytes until a request is complete, and is back in HUNT
after the gap timer. A whole request with a good CRC and no byte error is executed as its row, its kind and payload those of TABLE
12-3; one with a byte error, a wrong CRC, a length above 250, an unknown kind or another payload length is taken as malformed. A
DIRECTIVE request is executed as the row of its directive, whose target counts for SKIP alone (R127); one with no code of TABLE
8-1 is answered BUSY while the DIRECTIVE slot is set and MALFORMED otherwise (R133). A complete request of an occupied port joins
the BUSY list, or goes unanswered where it is full, and each BUSY answer follows the response before it. That a byte that
completes a request has it executed is log entry 15 (DESIGN CHOICE), and that the gap timer runs from the start byte on is log
entry 16 (DEDUCED). -/
def Obligations.ServicePortAssemblesAndAnswers : Prop :=
  ∀ s : State,
    (s.port.rx = .hunt →
        exec (.serviceByteReceived 0x5A true) s =
            .next (s.setPort { s.port with rx := .assembling [] false, gapTimer := 1920 })
          ∧ ∀ (b : Byte) (stop : Bool), b ≠ 0x5A ∨ stop = false → exec (.serviceByteReceived b stop) s = .next s)
      ∧ (∀ (bs : List Byte) (error : Bool) (b : Byte) (stop : Bool), s.port.rx = .assembling bs error →
        (bs.length = 0 ∨ (bs.length = 1 ∧ b.toNat ≤ 250)
            ∨ (2 ≤ bs.length ∧ (bs.getD 1 0).toNat ≤ 250 ∧ bs.length + 1 < 4 + (bs.getD 1 0).toNat) →
          exec (.serviceByteReceived b stop) s =
            .next (s.setPort { s.port with rx := .assembling (bs ++ [b]) (error || !stop), gapTimer := 1920 }))
        ∧ (2 ≤ bs.length → bs.length + 1 = 4 + (bs.getD 1 0).toNat → (bs.getD 1 0).toNat ≤ 250 →
            s.port.sending.isSome = true →
            exec (.serviceByteReceived b stop) s =
              .next
                (s.setPort
                  { s.port with
                    rx := .hunt, gapTimer := 0
                    busy := if s.port.busy.length < 4 then s.port.busy ++ [bs.getD 0 0] else s.port.busy }))
        ∧ (bs.length = 1 → 250 < b.toNat →
            exec (.serviceByteReceived b stop) s =
              exec (.unknownRequest (bs.getD 0 0)) (s.setPort { s.port with rx := .hunt, gapTimer := 0 }))
        ∧ (∀ (kind : Byte) (payload : List Byte) (crc1 : Byte), payload.length ≤ 250 →
            bs = kind :: BitVec.ofNat 8 payload.length :: payload ++ [crc1] →
            (error = false → stop = true →
              [crc1, b] = twoBytes (crc (kind :: BitVec.ofNat 8 payload.length :: payload)).toNat →
              (∀ c : Instr, requestBytes c = some (kind, payload) →
                  exec (.serviceByteReceived b stop) s = exec c (s.setPort { s.port with rx := .hunt, gapTimer := 0 }))
                ∧ (kind.toNat = 0 ∨ 13 < kind.toNat ∨ kind ∈ [0x02#8, 0x04, 0x05, 0x06, 0x08, 0x09, 0x0A, 0x0D] ∧ payload ≠ []
                      ∨ kind ∈ [0x07#8, 0x0B, 0x0C] ∧ payload.length ≠ 1 ∨ kind = 0x03 ∧ payload.length ≠ 7 →
                  exec (.serviceByteReceived b stop) s =
                    exec (.unknownRequest kind) (s.setPort { s.port with rx := .hunt, gapTimer := 0 }))
                ∧ ∀ (byte phase step : Byte) (charge code : Word16), kind = 0x03 →
                  payload = byte :: (twoBytes charge.toNat ++ twoBytes code.toNat ++ [phase, step]) →
                  (∀ k : DirectiveKind, byte.toNat = k.code →
                    exec (.serviceByteReceived b stop) s =
                      exec (originRow charge code phase step k) (s.setPort { s.port with rx := .hunt, gapTimer := 0 }))
                    ∧ ((∀ k : DirectiveKind, byte.toNat ≠ k.code) → s.PortIdle →
                      exec (.serviceByteReceived b stop) s =
                        .next
                          ((s.setPort { s.port with rx := .hunt, gapTimer := 0 }).answered 0x03
                            (if s.bus.slots.directive = none then .malformed else .busy))))
            ∧ (error = true ∨ stop = false
                ∨ [crc1, b] ≠ twoBytes (crc (kind :: BitVec.ofNat 8 payload.length :: payload)).toNat →
              exec (.serviceByteReceived b stop) s =
                exec (.unknownRequest kind) (s.setPort { s.port with rx := .hunt, gapTimer := 0 })))
        ∧ exec .gapTimerExpiry s = .next (s.setPort { s.port with rx := .hunt, gapTimer := 0 }))
      ∧ (∀ r, s.port.sending = some r →
        (s.port.busy = [] → exec .responseEnd s = .next (s.setPort { s.port with sending := none }))
          ∧ ∀ k rest, s.port.busy = k :: rest →
              exec .responseEnd s =
                .next (s.setPort { s.port with sending := some (responseOf k .busy), busy := rest }))

/-! ## What holds at every moment -/

/-- The state after reset has every property that the manual gives the module at every moment. -/
def Obligations.ResetIsSound : Prop := State.reset.Sound

/-- R91, R94, R106: every step keeps the ranks sound (each record valid with its own check, the two charge numbers different)
and the position in step with them (IDLE exactly with the current rank empty, a step only where the record has it). -/
def Obligations.StepsKeepRanksAndPosition : Prop :=
  ∀ s t : State, s.RanksSound → s.PositionSound → step s = .next t → t.RanksSound ∧ t.PositionSound

/-- R14, R141, R142, R146, R149, R150: every step keeps the outputs and I in their ranges, vent and spray apart, and outside LOOPS the
outputs of the regime, which is the one of the mode and the position; in SAFE there is no heat. On a PROBE station the outputs, I,
the settle timer and the deviation count stand at 0, the wet-bulb is not sampled, and WET-BULB FAULT, HEAT CUTOFF and CLIMATE
DEVIATION are not latched. -/
def Obligations.StepsKeepOutputsAndRegime : Prop :=
  ∀ s t : State, step s = .next t →
    (s.RanksSound → s.PositionSound → s.OutputsBounded → s.RegimeSound →
        t.OutputsBounded ∧ t.RegimeSound ∧ (t.schedule.mode = .safe → t.climate.heat = 0))
      ∧ (s.ProbeAtRest → t.ProbeAtRest)

/-- R21, R45, R48, R54, R161, R162, R163, R167, R174: every step keeps the ring within 512 records, the attention output and level as
judged, the line undriven after an address clash, a set OFFER slot naming a rank that holds a record, the line-blocked timer stopped
while no slot is eligible, the own readings table whole and in range, and the BUSY list within four. -/
def Obligations.StepsKeepRingAttentionBusReadingsPort : Prop :=
  ∀ s t : State, step s = .next t →
    (s.RingBounded → t.RingBounded) ∧ (s.AttentionJudged → t.AttentionJudged) ∧ (s.ClashSilent → t.ClashSilent)
      ∧ (s.OfferNamed → t.OfferNamed) ∧ (s.BlockedTimed → t.BlockedTimed)
      ∧ (s.ReadingsSound → t.ReadingsSound) ∧ (s.PortSound → t.PortSound)

/-- R106: within one charge the progress position never decreases: no step that leaves the current rank as it is takes the
position to a lower rank. -/
def Obligations.PositionNeverFallsBack : Prop :=
  ∀ s t : State, s.RanksSound → s.PositionSound → step s = .next t → t.store.current = s.store.current →
    ∀ a b, s.currentRank = some a → t.currentRank = some b → a ≤ b
end

