-- ==== Sys2Proof/Laws/State.lean ====
section
/-! SUPPORT. What each setter of the state leaves and sets: one lemma per field per setter, true by rfl. -/

namespace Sys2Proof.Machine

@[simp] theorem State.setPending_pending (s : State) (v : List Instr) : (s.setPending v).pending = v := rfl
@[simp] theorem State.setPending_wires (s : State) (v : List Instr) : (s.setPending v).wires = s.wires := rfl
@[simp] theorem State.setPending_straps (s : State) (v : List Instr) : (s.setPending v).straps = s.straps := rfl
@[simp] theorem State.setPending_pins (s : State) (v : List Instr) : (s.setPending v).pins = s.pins := rfl
@[simp] theorem State.setPending_frontEnd (s : State) (v : List Instr) : (s.setPending v).frontEnd = s.frontEnd := rfl
@[simp] theorem State.setPending_sensors (s : State) (v : List Instr) : (s.setPending v).sensors = s.sensors := rfl
@[simp] theorem State.setPending_readings (s : State) (v : List Instr) : (s.setPending v).readings = s.readings := rfl
@[simp] theorem State.setPending_bus (s : State) (v : List Instr) : (s.setPending v).bus = s.bus := rfl
@[simp] theorem State.setPending_peers (s : State) (v : List Instr) : (s.setPending v).peers = s.peers := rfl
@[simp] theorem State.setPending_picture (s : State) (v : List Instr) : (s.setPending v).picture = s.picture := rfl
@[simp] theorem State.setPending_store (s : State) (v : List Instr) : (s.setPending v).store = s.store := rfl
@[simp] theorem State.setPending_schedule (s : State) (v : List Instr) : (s.setPending v).schedule = s.schedule := rfl
@[simp] theorem State.setPending_climate (s : State) (v : List Instr) : (s.setPending v).climate = s.climate := rfl
@[simp] theorem State.setPending_attention (s : State) (v : List Instr) : (s.setPending v).attention = s.attention := rfl
@[simp] theorem State.setPending_trace (s : State) (v : List Instr) : (s.setPending v).trace = s.trace := rfl
@[simp] theorem State.setPending_port (s : State) (v : List Instr) : (s.setPending v).port = s.port := rfl
@[simp] theorem State.setPending_freeIndex (s : State) (v : List Instr) : (s.setPending v).freeIndex = s.freeIndex := rfl

@[simp] theorem State.setWires_pending (s : State) (v : Wires) : (s.setWires v).pending = s.pending := rfl
@[simp] theorem State.setWires_wires (s : State) (v : Wires) : (s.setWires v).wires = v := rfl
@[simp] theorem State.setWires_straps (s : State) (v : Wires) : (s.setWires v).straps = s.straps := rfl
@[simp] theorem State.setWires_pins (s : State) (v : Wires) : (s.setWires v).pins = s.pins := rfl
@[simp] theorem State.setWires_frontEnd (s : State) (v : Wires) : (s.setWires v).frontEnd = s.frontEnd := rfl
@[simp] theorem State.setWires_sensors (s : State) (v : Wires) : (s.setWires v).sensors = s.sensors := rfl
@[simp] theorem State.setWires_readings (s : State) (v : Wires) : (s.setWires v).readings = s.readings := rfl
@[simp] theorem State.setWires_bus (s : State) (v : Wires) : (s.setWires v).bus = s.bus := rfl
@[simp] theorem State.setWires_peers (s : State) (v : Wires) : (s.setWires v).peers = s.peers := rfl
@[simp] theorem State.setWires_picture (s : State) (v : Wires) : (s.setWires v).picture = s.picture := rfl
@[simp] theorem State.setWires_store (s : State) (v : Wires) : (s.setWires v).store = s.store := rfl
@[simp] theorem State.setWires_schedule (s : State) (v : Wires) : (s.setWires v).schedule = s.schedule := rfl
@[simp] theorem State.setWires_climate (s : State) (v : Wires) : (s.setWires v).climate = s.climate := rfl
@[simp] theorem State.setWires_attention (s : State) (v : Wires) : (s.setWires v).attention = s.attention := rfl
@[simp] theorem State.setWires_trace (s : State) (v : Wires) : (s.setWires v).trace = s.trace := rfl
@[simp] theorem State.setWires_port (s : State) (v : Wires) : (s.setWires v).port = s.port := rfl
@[simp] theorem State.setWires_freeIndex (s : State) (v : Wires) : (s.setWires v).freeIndex = s.freeIndex := rfl

@[simp] theorem State.setStraps_pending (s : State) (v : Straps) : (s.setStraps v).pending = s.pending := rfl
@[simp] theorem State.setStraps_wires (s : State) (v : Straps) : (s.setStraps v).wires = s.wires := rfl
@[simp] theorem State.setStraps_straps (s : State) (v : Straps) : (s.setStraps v).straps = v := rfl
@[simp] theorem State.setStraps_pins (s : State) (v : Straps) : (s.setStraps v).pins = s.pins := rfl
@[simp] theorem State.setStraps_frontEnd (s : State) (v : Straps) : (s.setStraps v).frontEnd = s.frontEnd := rfl
@[simp] theorem State.setStraps_sensors (s : State) (v : Straps) : (s.setStraps v).sensors = s.sensors := rfl
@[simp] theorem State.setStraps_readings (s : State) (v : Straps) : (s.setStraps v).readings = s.readings := rfl
@[simp] theorem State.setStraps_bus (s : State) (v : Straps) : (s.setStraps v).bus = s.bus := rfl
@[simp] theorem State.setStraps_peers (s : State) (v : Straps) : (s.setStraps v).peers = s.peers := rfl
@[simp] theorem State.setStraps_picture (s : State) (v : Straps) : (s.setStraps v).picture = s.picture := rfl
@[simp] theorem State.setStraps_store (s : State) (v : Straps) : (s.setStraps v).store = s.store := rfl
@[simp] theorem State.setStraps_schedule (s : State) (v : Straps) : (s.setStraps v).schedule = s.schedule := rfl
@[simp] theorem State.setStraps_climate (s : State) (v : Straps) : (s.setStraps v).climate = s.climate := rfl
@[simp] theorem State.setStraps_attention (s : State) (v : Straps) : (s.setStraps v).attention = s.attention := rfl
@[simp] theorem State.setStraps_trace (s : State) (v : Straps) : (s.setStraps v).trace = s.trace := rfl
@[simp] theorem State.setStraps_port (s : State) (v : Straps) : (s.setStraps v).port = s.port := rfl
@[simp] theorem State.setStraps_freeIndex (s : State) (v : Straps) : (s.setStraps v).freeIndex = s.freeIndex := rfl

@[simp] theorem State.setPins_pending (s : State) (v : Pins) : (s.setPins v).pending = s.pending := rfl
@[simp] theorem State.setPins_wires (s : State) (v : Pins) : (s.setPins v).wires = s.wires := rfl
@[simp] theorem State.setPins_straps (s : State) (v : Pins) : (s.setPins v).straps = s.straps := rfl
@[simp] theorem State.setPins_pins (s : State) (v : Pins) : (s.setPins v).pins = v := rfl
@[simp] theorem State.setPins_frontEnd (s : State) (v : Pins) : (s.setPins v).frontEnd = s.frontEnd := rfl
@[simp] theorem State.setPins_sensors (s : State) (v : Pins) : (s.setPins v).sensors = s.sensors := rfl
@[simp] theorem State.setPins_readings (s : State) (v : Pins) : (s.setPins v).readings = s.readings := rfl
@[simp] theorem State.setPins_bus (s : State) (v : Pins) : (s.setPins v).bus = s.bus := rfl
@[simp] theorem State.setPins_peers (s : State) (v : Pins) : (s.setPins v).peers = s.peers := rfl
@[simp] theorem State.setPins_picture (s : State) (v : Pins) : (s.setPins v).picture = s.picture := rfl
@[simp] theorem State.setPins_store (s : State) (v : Pins) : (s.setPins v).store = s.store := rfl
@[simp] theorem State.setPins_schedule (s : State) (v : Pins) : (s.setPins v).schedule = s.schedule := rfl
@[simp] theorem State.setPins_climate (s : State) (v : Pins) : (s.setPins v).climate = s.climate := rfl
@[simp] theorem State.setPins_attention (s : State) (v : Pins) : (s.setPins v).attention = s.attention := rfl
@[simp] theorem State.setPins_trace (s : State) (v : Pins) : (s.setPins v).trace = s.trace := rfl
@[simp] theorem State.setPins_port (s : State) (v : Pins) : (s.setPins v).port = s.port := rfl
@[simp] theorem State.setPins_freeIndex (s : State) (v : Pins) : (s.setPins v).freeIndex = s.freeIndex := rfl

@[simp] theorem State.setFrontEnd_pending (s : State) (v : FrontEnd) : (s.setFrontEnd v).pending = s.pending := rfl
@[simp] theorem State.setFrontEnd_wires (s : State) (v : FrontEnd) : (s.setFrontEnd v).wires = s.wires := rfl
@[simp] theorem State.setFrontEnd_straps (s : State) (v : FrontEnd) : (s.setFrontEnd v).straps = s.straps := rfl
@[simp] theorem State.setFrontEnd_pins (s : State) (v : FrontEnd) : (s.setFrontEnd v).pins = s.pins := rfl
@[simp] theorem State.setFrontEnd_frontEnd (s : State) (v : FrontEnd) : (s.setFrontEnd v).frontEnd = v := rfl
@[simp] theorem State.setFrontEnd_sensors (s : State) (v : FrontEnd) : (s.setFrontEnd v).sensors = s.sensors := rfl
@[simp] theorem State.setFrontEnd_readings (s : State) (v : FrontEnd) : (s.setFrontEnd v).readings = s.readings := rfl
@[simp] theorem State.setFrontEnd_bus (s : State) (v : FrontEnd) : (s.setFrontEnd v).bus = s.bus := rfl
@[simp] theorem State.setFrontEnd_peers (s : State) (v : FrontEnd) : (s.setFrontEnd v).peers = s.peers := rfl
@[simp] theorem State.setFrontEnd_picture (s : State) (v : FrontEnd) : (s.setFrontEnd v).picture = s.picture := rfl
@[simp] theorem State.setFrontEnd_store (s : State) (v : FrontEnd) : (s.setFrontEnd v).store = s.store := rfl
@[simp] theorem State.setFrontEnd_schedule (s : State) (v : FrontEnd) : (s.setFrontEnd v).schedule = s.schedule := rfl
@[simp] theorem State.setFrontEnd_climate (s : State) (v : FrontEnd) : (s.setFrontEnd v).climate = s.climate := rfl
@[simp] theorem State.setFrontEnd_attention (s : State) (v : FrontEnd) : (s.setFrontEnd v).attention = s.attention := rfl
@[simp] theorem State.setFrontEnd_trace (s : State) (v : FrontEnd) : (s.setFrontEnd v).trace = s.trace := rfl
@[simp] theorem State.setFrontEnd_port (s : State) (v : FrontEnd) : (s.setFrontEnd v).port = s.port := rfl
@[simp] theorem State.setFrontEnd_freeIndex (s : State) (v : FrontEnd) : (s.setFrontEnd v).freeIndex = s.freeIndex := rfl

@[simp] theorem State.setSensors_pending (s : State) (v : Sensors) : (s.setSensors v).pending = s.pending := rfl
@[simp] theorem State.setSensors_wires (s : State) (v : Sensors) : (s.setSensors v).wires = s.wires := rfl
@[simp] theorem State.setSensors_straps (s : State) (v : Sensors) : (s.setSensors v).straps = s.straps := rfl
@[simp] theorem State.setSensors_pins (s : State) (v : Sensors) : (s.setSensors v).pins = s.pins := rfl
@[simp] theorem State.setSensors_frontEnd (s : State) (v : Sensors) : (s.setSensors v).frontEnd = s.frontEnd := rfl
@[simp] theorem State.setSensors_sensors (s : State) (v : Sensors) : (s.setSensors v).sensors = v := rfl
@[simp] theorem State.setSensors_readings (s : State) (v : Sensors) : (s.setSensors v).readings = s.readings := rfl
@[simp] theorem State.setSensors_bus (s : State) (v : Sensors) : (s.setSensors v).bus = s.bus := rfl
@[simp] theorem State.setSensors_peers (s : State) (v : Sensors) : (s.setSensors v).peers = s.peers := rfl
@[simp] theorem State.setSensors_picture (s : State) (v : Sensors) : (s.setSensors v).picture = s.picture := rfl
@[simp] theorem State.setSensors_store (s : State) (v : Sensors) : (s.setSensors v).store = s.store := rfl
@[simp] theorem State.setSensors_schedule (s : State) (v : Sensors) : (s.setSensors v).schedule = s.schedule := rfl
@[simp] theorem State.setSensors_climate (s : State) (v : Sensors) : (s.setSensors v).climate = s.climate := rfl
@[simp] theorem State.setSensors_attention (s : State) (v : Sensors) : (s.setSensors v).attention = s.attention := rfl
@[simp] theorem State.setSensors_trace (s : State) (v : Sensors) : (s.setSensors v).trace = s.trace := rfl
@[simp] theorem State.setSensors_port (s : State) (v : Sensors) : (s.setSensors v).port = s.port := rfl
@[simp] theorem State.setSensors_freeIndex (s : State) (v : Sensors) : (s.setSensors v).freeIndex = s.freeIndex := rfl

@[simp] theorem State.setReadings_pending (s : State) (v : List Reading) : (s.setReadings v).pending = s.pending := rfl
@[simp] theorem State.setReadings_wires (s : State) (v : List Reading) : (s.setReadings v).wires = s.wires := rfl
@[simp] theorem State.setReadings_straps (s : State) (v : List Reading) : (s.setReadings v).straps = s.straps := rfl
@[simp] theorem State.setReadings_pins (s : State) (v : List Reading) : (s.setReadings v).pins = s.pins := rfl
@[simp] theorem State.setReadings_frontEnd (s : State) (v : List Reading) : (s.setReadings v).frontEnd = s.frontEnd := rfl
@[simp] theorem State.setReadings_sensors (s : State) (v : List Reading) : (s.setReadings v).sensors = s.sensors := rfl
@[simp] theorem State.setReadings_readings (s : State) (v : List Reading) : (s.setReadings v).readings = v := rfl
@[simp] theorem State.setReadings_bus (s : State) (v : List Reading) : (s.setReadings v).bus = s.bus := rfl
@[simp] theorem State.setReadings_peers (s : State) (v : List Reading) : (s.setReadings v).peers = s.peers := rfl
@[simp] theorem State.setReadings_picture (s : State) (v : List Reading) : (s.setReadings v).picture = s.picture := rfl
@[simp] theorem State.setReadings_store (s : State) (v : List Reading) : (s.setReadings v).store = s.store := rfl
@[simp] theorem State.setReadings_schedule (s : State) (v : List Reading) : (s.setReadings v).schedule = s.schedule := rfl
@[simp] theorem State.setReadings_climate (s : State) (v : List Reading) : (s.setReadings v).climate = s.climate := rfl
@[simp] theorem State.setReadings_attention (s : State) (v : List Reading) : (s.setReadings v).attention = s.attention := rfl
@[simp] theorem State.setReadings_trace (s : State) (v : List Reading) : (s.setReadings v).trace = s.trace := rfl
@[simp] theorem State.setReadings_port (s : State) (v : List Reading) : (s.setReadings v).port = s.port := rfl
@[simp] theorem State.setReadings_freeIndex (s : State) (v : List Reading) : (s.setReadings v).freeIndex = s.freeIndex := rfl

@[simp] theorem State.setBus_pending (s : State) (v : Bus) : (s.setBus v).pending = s.pending := rfl
@[simp] theorem State.setBus_wires (s : State) (v : Bus) : (s.setBus v).wires = s.wires := rfl
@[simp] theorem State.setBus_straps (s : State) (v : Bus) : (s.setBus v).straps = s.straps := rfl
@[simp] theorem State.setBus_pins (s : State) (v : Bus) : (s.setBus v).pins = s.pins := rfl
@[simp] theorem State.setBus_frontEnd (s : State) (v : Bus) : (s.setBus v).frontEnd = s.frontEnd := rfl
@[simp] theorem State.setBus_sensors (s : State) (v : Bus) : (s.setBus v).sensors = s.sensors := rfl
@[simp] theorem State.setBus_readings (s : State) (v : Bus) : (s.setBus v).readings = s.readings := rfl
@[simp] theorem State.setBus_bus (s : State) (v : Bus) : (s.setBus v).bus = v := rfl
@[simp] theorem State.setBus_peers (s : State) (v : Bus) : (s.setBus v).peers = s.peers := rfl
@[simp] theorem State.setBus_picture (s : State) (v : Bus) : (s.setBus v).picture = s.picture := rfl
@[simp] theorem State.setBus_store (s : State) (v : Bus) : (s.setBus v).store = s.store := rfl
@[simp] theorem State.setBus_schedule (s : State) (v : Bus) : (s.setBus v).schedule = s.schedule := rfl
@[simp] theorem State.setBus_climate (s : State) (v : Bus) : (s.setBus v).climate = s.climate := rfl
@[simp] theorem State.setBus_attention (s : State) (v : Bus) : (s.setBus v).attention = s.attention := rfl
@[simp] theorem State.setBus_trace (s : State) (v : Bus) : (s.setBus v).trace = s.trace := rfl
@[simp] theorem State.setBus_port (s : State) (v : Bus) : (s.setBus v).port = s.port := rfl
@[simp] theorem State.setBus_freeIndex (s : State) (v : Bus) : (s.setBus v).freeIndex = s.freeIndex := rfl

@[simp] theorem State.setPeers_pending (s : State) (v : PeerTable) : (s.setPeers v).pending = s.pending := rfl
@[simp] theorem State.setPeers_wires (s : State) (v : PeerTable) : (s.setPeers v).wires = s.wires := rfl
@[simp] theorem State.setPeers_straps (s : State) (v : PeerTable) : (s.setPeers v).straps = s.straps := rfl
@[simp] theorem State.setPeers_pins (s : State) (v : PeerTable) : (s.setPeers v).pins = s.pins := rfl
@[simp] theorem State.setPeers_frontEnd (s : State) (v : PeerTable) : (s.setPeers v).frontEnd = s.frontEnd := rfl
@[simp] theorem State.setPeers_sensors (s : State) (v : PeerTable) : (s.setPeers v).sensors = s.sensors := rfl
@[simp] theorem State.setPeers_readings (s : State) (v : PeerTable) : (s.setPeers v).readings = s.readings := rfl
@[simp] theorem State.setPeers_bus (s : State) (v : PeerTable) : (s.setPeers v).bus = s.bus := rfl
@[simp] theorem State.setPeers_peers (s : State) (v : PeerTable) : (s.setPeers v).peers = v := rfl
@[simp] theorem State.setPeers_picture (s : State) (v : PeerTable) : (s.setPeers v).picture = s.picture := rfl
@[simp] theorem State.setPeers_store (s : State) (v : PeerTable) : (s.setPeers v).store = s.store := rfl
@[simp] theorem State.setPeers_schedule (s : State) (v : PeerTable) : (s.setPeers v).schedule = s.schedule := rfl
@[simp] theorem State.setPeers_climate (s : State) (v : PeerTable) : (s.setPeers v).climate = s.climate := rfl
@[simp] theorem State.setPeers_attention (s : State) (v : PeerTable) : (s.setPeers v).attention = s.attention := rfl
@[simp] theorem State.setPeers_trace (s : State) (v : PeerTable) : (s.setPeers v).trace = s.trace := rfl
@[simp] theorem State.setPeers_port (s : State) (v : PeerTable) : (s.setPeers v).port = s.port := rfl
@[simp] theorem State.setPeers_freeIndex (s : State) (v : PeerTable) : (s.setPeers v).freeIndex = s.freeIndex := rfl

@[simp] theorem State.setPicture_pending (s : State) (v : Option Picture) : (s.setPicture v).pending = s.pending := rfl
@[simp] theorem State.setPicture_wires (s : State) (v : Option Picture) : (s.setPicture v).wires = s.wires := rfl
@[simp] theorem State.setPicture_straps (s : State) (v : Option Picture) : (s.setPicture v).straps = s.straps := rfl
@[simp] theorem State.setPicture_pins (s : State) (v : Option Picture) : (s.setPicture v).pins = s.pins := rfl
@[simp] theorem State.setPicture_frontEnd (s : State) (v : Option Picture) : (s.setPicture v).frontEnd = s.frontEnd := rfl
@[simp] theorem State.setPicture_sensors (s : State) (v : Option Picture) : (s.setPicture v).sensors = s.sensors := rfl
@[simp] theorem State.setPicture_readings (s : State) (v : Option Picture) : (s.setPicture v).readings = s.readings := rfl
@[simp] theorem State.setPicture_bus (s : State) (v : Option Picture) : (s.setPicture v).bus = s.bus := rfl
@[simp] theorem State.setPicture_peers (s : State) (v : Option Picture) : (s.setPicture v).peers = s.peers := rfl
@[simp] theorem State.setPicture_picture (s : State) (v : Option Picture) : (s.setPicture v).picture = v := rfl
@[simp] theorem State.setPicture_store (s : State) (v : Option Picture) : (s.setPicture v).store = s.store := rfl
@[simp] theorem State.setPicture_schedule (s : State) (v : Option Picture) : (s.setPicture v).schedule = s.schedule := rfl
@[simp] theorem State.setPicture_climate (s : State) (v : Option Picture) : (s.setPicture v).climate = s.climate := rfl
@[simp] theorem State.setPicture_attention (s : State) (v : Option Picture) : (s.setPicture v).attention = s.attention := rfl
@[simp] theorem State.setPicture_trace (s : State) (v : Option Picture) : (s.setPicture v).trace = s.trace := rfl
@[simp] theorem State.setPicture_port (s : State) (v : Option Picture) : (s.setPicture v).port = s.port := rfl
@[simp] theorem State.setPicture_freeIndex (s : State) (v : Option Picture) : (s.setPicture v).freeIndex = s.freeIndex := rfl

@[simp] theorem State.setStore_pending (s : State) (v : Store) : (s.setStore v).pending = s.pending := rfl
@[simp] theorem State.setStore_wires (s : State) (v : Store) : (s.setStore v).wires = s.wires := rfl
@[simp] theorem State.setStore_straps (s : State) (v : Store) : (s.setStore v).straps = s.straps := rfl
@[simp] theorem State.setStore_pins (s : State) (v : Store) : (s.setStore v).pins = s.pins := rfl
@[simp] theorem State.setStore_frontEnd (s : State) (v : Store) : (s.setStore v).frontEnd = s.frontEnd := rfl
@[simp] theorem State.setStore_sensors (s : State) (v : Store) : (s.setStore v).sensors = s.sensors := rfl
@[simp] theorem State.setStore_readings (s : State) (v : Store) : (s.setStore v).readings = s.readings := rfl
@[simp] theorem State.setStore_bus (s : State) (v : Store) : (s.setStore v).bus = s.bus := rfl
@[simp] theorem State.setStore_peers (s : State) (v : Store) : (s.setStore v).peers = s.peers := rfl
@[simp] theorem State.setStore_picture (s : State) (v : Store) : (s.setStore v).picture = s.picture := rfl
@[simp] theorem State.setStore_store (s : State) (v : Store) : (s.setStore v).store = v := rfl
@[simp] theorem State.setStore_schedule (s : State) (v : Store) : (s.setStore v).schedule = s.schedule := rfl
@[simp] theorem State.setStore_climate (s : State) (v : Store) : (s.setStore v).climate = s.climate := rfl
@[simp] theorem State.setStore_attention (s : State) (v : Store) : (s.setStore v).attention = s.attention := rfl
@[simp] theorem State.setStore_trace (s : State) (v : Store) : (s.setStore v).trace = s.trace := rfl
@[simp] theorem State.setStore_port (s : State) (v : Store) : (s.setStore v).port = s.port := rfl
@[simp] theorem State.setStore_freeIndex (s : State) (v : Store) : (s.setStore v).freeIndex = s.freeIndex := rfl

@[simp] theorem State.setSchedule_pending (s : State) (v : Schedule) : (s.setSchedule v).pending = s.pending := rfl
@[simp] theorem State.setSchedule_wires (s : State) (v : Schedule) : (s.setSchedule v).wires = s.wires := rfl
@[simp] theorem State.setSchedule_straps (s : State) (v : Schedule) : (s.setSchedule v).straps = s.straps := rfl
@[simp] theorem State.setSchedule_pins (s : State) (v : Schedule) : (s.setSchedule v).pins = s.pins := rfl
@[simp] theorem State.setSchedule_frontEnd (s : State) (v : Schedule) : (s.setSchedule v).frontEnd = s.frontEnd := rfl
@[simp] theorem State.setSchedule_sensors (s : State) (v : Schedule) : (s.setSchedule v).sensors = s.sensors := rfl
@[simp] theorem State.setSchedule_readings (s : State) (v : Schedule) : (s.setSchedule v).readings = s.readings := rfl
@[simp] theorem State.setSchedule_bus (s : State) (v : Schedule) : (s.setSchedule v).bus = s.bus := rfl
@[simp] theorem State.setSchedule_peers (s : State) (v : Schedule) : (s.setSchedule v).peers = s.peers := rfl
@[simp] theorem State.setSchedule_picture (s : State) (v : Schedule) : (s.setSchedule v).picture = s.picture := rfl
@[simp] theorem State.setSchedule_store (s : State) (v : Schedule) : (s.setSchedule v).store = s.store := rfl
@[simp] theorem State.setSchedule_schedule (s : State) (v : Schedule) : (s.setSchedule v).schedule = v := rfl
@[simp] theorem State.setSchedule_climate (s : State) (v : Schedule) : (s.setSchedule v).climate = s.climate := rfl
@[simp] theorem State.setSchedule_attention (s : State) (v : Schedule) : (s.setSchedule v).attention = s.attention := rfl
@[simp] theorem State.setSchedule_trace (s : State) (v : Schedule) : (s.setSchedule v).trace = s.trace := rfl
@[simp] theorem State.setSchedule_port (s : State) (v : Schedule) : (s.setSchedule v).port = s.port := rfl
@[simp] theorem State.setSchedule_freeIndex (s : State) (v : Schedule) : (s.setSchedule v).freeIndex = s.freeIndex := rfl

@[simp] theorem State.setClimate_pending (s : State) (v : Climate) : (s.setClimate v).pending = s.pending := rfl
@[simp] theorem State.setClimate_wires (s : State) (v : Climate) : (s.setClimate v).wires = s.wires := rfl
@[simp] theorem State.setClimate_straps (s : State) (v : Climate) : (s.setClimate v).straps = s.straps := rfl
@[simp] theorem State.setClimate_pins (s : State) (v : Climate) : (s.setClimate v).pins = s.pins := rfl
@[simp] theorem State.setClimate_frontEnd (s : State) (v : Climate) : (s.setClimate v).frontEnd = s.frontEnd := rfl
@[simp] theorem State.setClimate_sensors (s : State) (v : Climate) : (s.setClimate v).sensors = s.sensors := rfl
@[simp] theorem State.setClimate_readings (s : State) (v : Climate) : (s.setClimate v).readings = s.readings := rfl
@[simp] theorem State.setClimate_bus (s : State) (v : Climate) : (s.setClimate v).bus = s.bus := rfl
@[simp] theorem State.setClimate_peers (s : State) (v : Climate) : (s.setClimate v).peers = s.peers := rfl
@[simp] theorem State.setClimate_picture (s : State) (v : Climate) : (s.setClimate v).picture = s.picture := rfl
@[simp] theorem State.setClimate_store (s : State) (v : Climate) : (s.setClimate v).store = s.store := rfl
@[simp] theorem State.setClimate_schedule (s : State) (v : Climate) : (s.setClimate v).schedule = s.schedule := rfl
@[simp] theorem State.setClimate_climate (s : State) (v : Climate) : (s.setClimate v).climate = v := rfl
@[simp] theorem State.setClimate_attention (s : State) (v : Climate) : (s.setClimate v).attention = s.attention := rfl
@[simp] theorem State.setClimate_trace (s : State) (v : Climate) : (s.setClimate v).trace = s.trace := rfl
@[simp] theorem State.setClimate_port (s : State) (v : Climate) : (s.setClimate v).port = s.port := rfl
@[simp] theorem State.setClimate_freeIndex (s : State) (v : Climate) : (s.setClimate v).freeIndex = s.freeIndex := rfl

@[simp] theorem State.setAttention_pending (s : State) (v : Attention) : (s.setAttention v).pending = s.pending := rfl
@[simp] theorem State.setAttention_wires (s : State) (v : Attention) : (s.setAttention v).wires = s.wires := rfl
@[simp] theorem State.setAttention_straps (s : State) (v : Attention) : (s.setAttention v).straps = s.straps := rfl
@[simp] theorem State.setAttention_pins (s : State) (v : Attention) : (s.setAttention v).pins = s.pins := rfl
@[simp] theorem State.setAttention_frontEnd (s : State) (v : Attention) : (s.setAttention v).frontEnd = s.frontEnd := rfl
@[simp] theorem State.setAttention_sensors (s : State) (v : Attention) : (s.setAttention v).sensors = s.sensors := rfl
@[simp] theorem State.setAttention_readings (s : State) (v : Attention) : (s.setAttention v).readings = s.readings := rfl
@[simp] theorem State.setAttention_bus (s : State) (v : Attention) : (s.setAttention v).bus = s.bus := rfl
@[simp] theorem State.setAttention_peers (s : State) (v : Attention) : (s.setAttention v).peers = s.peers := rfl
@[simp] theorem State.setAttention_picture (s : State) (v : Attention) : (s.setAttention v).picture = s.picture := rfl
@[simp] theorem State.setAttention_store (s : State) (v : Attention) : (s.setAttention v).store = s.store := rfl
@[simp] theorem State.setAttention_schedule (s : State) (v : Attention) : (s.setAttention v).schedule = s.schedule := rfl
@[simp] theorem State.setAttention_climate (s : State) (v : Attention) : (s.setAttention v).climate = s.climate := rfl
@[simp] theorem State.setAttention_attention (s : State) (v : Attention) : (s.setAttention v).attention = v := rfl
@[simp] theorem State.setAttention_trace (s : State) (v : Attention) : (s.setAttention v).trace = s.trace := rfl
@[simp] theorem State.setAttention_port (s : State) (v : Attention) : (s.setAttention v).port = s.port := rfl
@[simp] theorem State.setAttention_freeIndex (s : State) (v : Attention) : (s.setAttention v).freeIndex = s.freeIndex := rfl

@[simp] theorem State.setTrace_pending (s : State) (v : Trace) : (s.setTrace v).pending = s.pending := rfl
@[simp] theorem State.setTrace_wires (s : State) (v : Trace) : (s.setTrace v).wires = s.wires := rfl
@[simp] theorem State.setTrace_straps (s : State) (v : Trace) : (s.setTrace v).straps = s.straps := rfl
@[simp] theorem State.setTrace_pins (s : State) (v : Trace) : (s.setTrace v).pins = s.pins := rfl
@[simp] theorem State.setTrace_frontEnd (s : State) (v : Trace) : (s.setTrace v).frontEnd = s.frontEnd := rfl
@[simp] theorem State.setTrace_sensors (s : State) (v : Trace) : (s.setTrace v).sensors = s.sensors := rfl
@[simp] theorem State.setTrace_readings (s : State) (v : Trace) : (s.setTrace v).readings = s.readings := rfl
@[simp] theorem State.setTrace_bus (s : State) (v : Trace) : (s.setTrace v).bus = s.bus := rfl
@[simp] theorem State.setTrace_peers (s : State) (v : Trace) : (s.setTrace v).peers = s.peers := rfl
@[simp] theorem State.setTrace_picture (s : State) (v : Trace) : (s.setTrace v).picture = s.picture := rfl
@[simp] theorem State.setTrace_store (s : State) (v : Trace) : (s.setTrace v).store = s.store := rfl
@[simp] theorem State.setTrace_schedule (s : State) (v : Trace) : (s.setTrace v).schedule = s.schedule := rfl
@[simp] theorem State.setTrace_climate (s : State) (v : Trace) : (s.setTrace v).climate = s.climate := rfl
@[simp] theorem State.setTrace_attention (s : State) (v : Trace) : (s.setTrace v).attention = s.attention := rfl
@[simp] theorem State.setTrace_trace (s : State) (v : Trace) : (s.setTrace v).trace = v := rfl
@[simp] theorem State.setTrace_port (s : State) (v : Trace) : (s.setTrace v).port = s.port := rfl
@[simp] theorem State.setTrace_freeIndex (s : State) (v : Trace) : (s.setTrace v).freeIndex = s.freeIndex := rfl

@[simp] theorem State.setPort_pending (s : State) (v : Port) : (s.setPort v).pending = s.pending := rfl
@[simp] theorem State.setPort_wires (s : State) (v : Port) : (s.setPort v).wires = s.wires := rfl
@[simp] theorem State.setPort_straps (s : State) (v : Port) : (s.setPort v).straps = s.straps := rfl
@[simp] theorem State.setPort_pins (s : State) (v : Port) : (s.setPort v).pins = s.pins := rfl
@[simp] theorem State.setPort_frontEnd (s : State) (v : Port) : (s.setPort v).frontEnd = s.frontEnd := rfl
@[simp] theorem State.setPort_sensors (s : State) (v : Port) : (s.setPort v).sensors = s.sensors := rfl
@[simp] theorem State.setPort_readings (s : State) (v : Port) : (s.setPort v).readings = s.readings := rfl
@[simp] theorem State.setPort_bus (s : State) (v : Port) : (s.setPort v).bus = s.bus := rfl
@[simp] theorem State.setPort_peers (s : State) (v : Port) : (s.setPort v).peers = s.peers := rfl
@[simp] theorem State.setPort_picture (s : State) (v : Port) : (s.setPort v).picture = s.picture := rfl
@[simp] theorem State.setPort_store (s : State) (v : Port) : (s.setPort v).store = s.store := rfl
@[simp] theorem State.setPort_schedule (s : State) (v : Port) : (s.setPort v).schedule = s.schedule := rfl
@[simp] theorem State.setPort_climate (s : State) (v : Port) : (s.setPort v).climate = s.climate := rfl
@[simp] theorem State.setPort_attention (s : State) (v : Port) : (s.setPort v).attention = s.attention := rfl
@[simp] theorem State.setPort_trace (s : State) (v : Port) : (s.setPort v).trace = s.trace := rfl
@[simp] theorem State.setPort_port (s : State) (v : Port) : (s.setPort v).port = v := rfl
@[simp] theorem State.setPort_freeIndex (s : State) (v : Port) : (s.setPort v).freeIndex = s.freeIndex := rfl

@[simp] theorem State.setFreeIndex_pending (s : State) (v : Nat) : (s.setFreeIndex v).pending = s.pending := rfl
@[simp] theorem State.setFreeIndex_wires (s : State) (v : Nat) : (s.setFreeIndex v).wires = s.wires := rfl
@[simp] theorem State.setFreeIndex_straps (s : State) (v : Nat) : (s.setFreeIndex v).straps = s.straps := rfl
@[simp] theorem State.setFreeIndex_pins (s : State) (v : Nat) : (s.setFreeIndex v).pins = s.pins := rfl
@[simp] theorem State.setFreeIndex_frontEnd (s : State) (v : Nat) : (s.setFreeIndex v).frontEnd = s.frontEnd := rfl
@[simp] theorem State.setFreeIndex_sensors (s : State) (v : Nat) : (s.setFreeIndex v).sensors = s.sensors := rfl
@[simp] theorem State.setFreeIndex_readings (s : State) (v : Nat) : (s.setFreeIndex v).readings = s.readings := rfl
@[simp] theorem State.setFreeIndex_bus (s : State) (v : Nat) : (s.setFreeIndex v).bus = s.bus := rfl
@[simp] theorem State.setFreeIndex_peers (s : State) (v : Nat) : (s.setFreeIndex v).peers = s.peers := rfl
@[simp] theorem State.setFreeIndex_picture (s : State) (v : Nat) : (s.setFreeIndex v).picture = s.picture := rfl
@[simp] theorem State.setFreeIndex_store (s : State) (v : Nat) : (s.setFreeIndex v).store = s.store := rfl
@[simp] theorem State.setFreeIndex_schedule (s : State) (v : Nat) : (s.setFreeIndex v).schedule = s.schedule := rfl
@[simp] theorem State.setFreeIndex_climate (s : State) (v : Nat) : (s.setFreeIndex v).climate = s.climate := rfl
@[simp] theorem State.setFreeIndex_attention (s : State) (v : Nat) : (s.setFreeIndex v).attention = s.attention := rfl
@[simp] theorem State.setFreeIndex_trace (s : State) (v : Nat) : (s.setFreeIndex v).trace = s.trace := rfl
@[simp] theorem State.setFreeIndex_port (s : State) (v : Nat) : (s.setFreeIndex v).port = s.port := rfl
@[simp] theorem State.setFreeIndex_freeIndex (s : State) (v : Nat) : (s.setFreeIndex v).freeIndex = v := rfl

end Sys2Proof.Machine
end

