-- ==== Sys2Proof/Laws/Frames.lean ====
section
/-! SUPPORT. Which blocks each shared operation leaves alone: one lemma per operation and block, so that no later proof
unfolds an operation for a block it does not touch. -/

-- One proof after another: in parallel they open more threads than the package's check allows.
set_option Elab.async false

namespace Sys2Proof.Machine

/-- `writeRecord` changes no block but `trace`, `attention`. -/
@[simp] theorem writeRecord_keeps (r : TraceRecord) (s : State) :
    (writeRecord r s).pending = s.pending ∧ (writeRecord r s).wires = s.wires
      ∧ (writeRecord r s).straps = s.straps ∧ (writeRecord r s).pins = s.pins
      ∧ (writeRecord r s).frontEnd = s.frontEnd ∧ (writeRecord r s).sensors = s.sensors
      ∧ (writeRecord r s).readings = s.readings ∧ (writeRecord r s).bus = s.bus
      ∧ (writeRecord r s).peers = s.peers ∧ (writeRecord r s).picture = s.picture
      ∧ (writeRecord r s).store = s.store ∧ (writeRecord r s).schedule = s.schedule
      ∧ (writeRecord r s).climate = s.climate ∧ (writeRecord r s).port = s.port
      ∧ (writeRecord r s).freeIndex = s.freeIndex := by
  unfold writeRecord; split <;> simp

/-- `writeTrace` changes no block but `trace`, `attention`. -/
@[simp] theorem writeTrace_keeps (k : TraceKind) (s : State) :
    (writeTrace k s).pending = s.pending ∧ (writeTrace k s).wires = s.wires ∧ (writeTrace k s).straps = s.straps
      ∧ (writeTrace k s).pins = s.pins ∧ (writeTrace k s).frontEnd = s.frontEnd
      ∧ (writeTrace k s).sensors = s.sensors ∧ (writeTrace k s).readings = s.readings
      ∧ (writeTrace k s).bus = s.bus ∧ (writeTrace k s).peers = s.peers ∧ (writeTrace k s).picture = s.picture
      ∧ (writeTrace k s).store = s.store ∧ (writeTrace k s).schedule = s.schedule
      ∧ (writeTrace k s).climate = s.climate ∧ (writeTrace k s).port = s.port
      ∧ (writeTrace k s).freeIndex = s.freeIndex := by
  simp [writeTrace]

/-- `latch` changes no block but `trace`, `attention`. -/
@[simp] theorem latch_keeps (c : Condition) (s : State) :
    (latch c s).pending = s.pending ∧ (latch c s).wires = s.wires ∧ (latch c s).straps = s.straps
      ∧ (latch c s).pins = s.pins ∧ (latch c s).frontEnd = s.frontEnd ∧ (latch c s).sensors = s.sensors
      ∧ (latch c s).readings = s.readings ∧ (latch c s).bus = s.bus ∧ (latch c s).peers = s.peers
      ∧ (latch c s).picture = s.picture ∧ (latch c s).store = s.store ∧ (latch c s).schedule = s.schedule
      ∧ (latch c s).climate = s.climate ∧ (latch c s).port = s.port ∧ (latch c s).freeIndex = s.freeIndex := by
  unfold latch; split
  · simp
  · dsimp only; split <;> simp

/-- Folding `latch` over any conditions keeps what each latching keeps. -/
theorem foldl_latch_induct (P : State → State → Prop) (hr : ∀ s, P s s)
    (ht : ∀ s c t, P (latch c s) t → P s t) (cs : List Condition) (s : State) : P s (cs.foldl (fun s c => latch c s) s) := by
  induction cs generalizing s with
  | nil => exact hr s
  | cons c cs ih => exact ht s c _ (ih (latch c s))

/-- `latchAll` changes no block but `trace`, `attention`. -/
@[simp] theorem latchAll_keeps (cs : List Condition) (s : State) :
    (latchAll cs s).pending = s.pending ∧ (latchAll cs s).wires = s.wires ∧ (latchAll cs s).straps = s.straps
      ∧ (latchAll cs s).pins = s.pins ∧ (latchAll cs s).frontEnd = s.frontEnd
      ∧ (latchAll cs s).sensors = s.sensors ∧ (latchAll cs s).readings = s.readings
      ∧ (latchAll cs s).bus = s.bus ∧ (latchAll cs s).peers = s.peers ∧ (latchAll cs s).picture = s.picture
      ∧ (latchAll cs s).store = s.store ∧ (latchAll cs s).schedule = s.schedule
      ∧ (latchAll cs s).climate = s.climate ∧ (latchAll cs s).port = s.port
      ∧ (latchAll cs s).freeIndex = s.freeIndex := by
  exact foldl_latch_induct
    (fun s t =>
      t.pending = s.pending ∧ t.wires = s.wires ∧ t.straps = s.straps ∧ t.pins = s.pins
        ∧ t.frontEnd = s.frontEnd ∧ t.sensors = s.sensors ∧ t.readings = s.readings ∧ t.bus = s.bus
        ∧ t.peers = s.peers ∧ t.picture = s.picture ∧ t.store = s.store ∧ t.schedule = s.schedule
        ∧ t.climate = s.climate ∧ t.port = s.port ∧ t.freeIndex = s.freeIndex) 
    (fun _ => by simp) (fun s c t h => by simpa using h) _ s

/-- `judgeRegime` changes no block but `climate`. -/
@[simp] theorem judgeRegime_keeps (s : State) :
    (judgeRegime s).pending = s.pending ∧ (judgeRegime s).wires = s.wires ∧ (judgeRegime s).straps = s.straps
      ∧ (judgeRegime s).pins = s.pins ∧ (judgeRegime s).frontEnd = s.frontEnd
      ∧ (judgeRegime s).sensors = s.sensors ∧ (judgeRegime s).readings = s.readings
      ∧ (judgeRegime s).bus = s.bus ∧ (judgeRegime s).peers = s.peers ∧ (judgeRegime s).picture = s.picture
      ∧ (judgeRegime s).store = s.store ∧ (judgeRegime s).schedule = s.schedule
      ∧ (judgeRegime s).attention = s.attention ∧ (judgeRegime s).trace = s.trace
      ∧ (judgeRegime s).port = s.port ∧ (judgeRegime s).freeIndex = s.freeIndex := by
  unfold judgeRegime; dsimp only; split <;> simp

/-- `climateEntry` changes no block but `climate`. -/
@[simp] theorem climateEntry_keeps (p : Position) (s : State) :
    (climateEntry p s).pending = s.pending ∧ (climateEntry p s).wires = s.wires
      ∧ (climateEntry p s).straps = s.straps ∧ (climateEntry p s).pins = s.pins
      ∧ (climateEntry p s).frontEnd = s.frontEnd ∧ (climateEntry p s).sensors = s.sensors
      ∧ (climateEntry p s).readings = s.readings ∧ (climateEntry p s).bus = s.bus
      ∧ (climateEntry p s).peers = s.peers ∧ (climateEntry p s).picture = s.picture
      ∧ (climateEntry p s).store = s.store ∧ (climateEntry p s).schedule = s.schedule
      ∧ (climateEntry p s).attention = s.attention ∧ (climateEntry p s).trace = s.trace
      ∧ (climateEntry p s).port = s.port ∧ (climateEntry p s).freeIndex = s.freeIndex := by
  simp [climateEntry]

/-- `climateMode` changes no block but `climate`. -/
@[simp] theorem climateMode_keeps (s : State) :
    (climateMode s).pending = s.pending ∧ (climateMode s).wires = s.wires ∧ (climateMode s).straps = s.straps
      ∧ (climateMode s).pins = s.pins ∧ (climateMode s).frontEnd = s.frontEnd
      ∧ (climateMode s).sensors = s.sensors ∧ (climateMode s).readings = s.readings
      ∧ (climateMode s).bus = s.bus ∧ (climateMode s).peers = s.peers ∧ (climateMode s).picture = s.picture
      ∧ (climateMode s).store = s.store ∧ (climateMode s).schedule = s.schedule
      ∧ (climateMode s).attention = s.attention ∧ (climateMode s).trace = s.trace
      ∧ (climateMode s).port = s.port ∧ (climateMode s).freeIndex = s.freeIndex := by
  simp [climateMode]

/-- `climateAbort` changes no block but `climate`. -/
@[simp] theorem climateAbort_keeps (s : State) :
    (climateAbort s).pending = s.pending ∧ (climateAbort s).wires = s.wires ∧ (climateAbort s).straps = s.straps
      ∧ (climateAbort s).pins = s.pins ∧ (climateAbort s).frontEnd = s.frontEnd
      ∧ (climateAbort s).sensors = s.sensors ∧ (climateAbort s).readings = s.readings
      ∧ (climateAbort s).bus = s.bus ∧ (climateAbort s).peers = s.peers ∧ (climateAbort s).picture = s.picture
      ∧ (climateAbort s).store = s.store ∧ (climateAbort s).schedule = s.schedule
      ∧ (climateAbort s).attention = s.attention ∧ (climateAbort s).trace = s.trace
      ∧ (climateAbort s).port = s.port ∧ (climateAbort s).freeIndex = s.freeIndex := by
  simp [climateAbort]

/-- `enterPosition` changes no block but `schedule`, `climate`, `trace`, `attention`. -/
@[simp] theorem enterPosition_keeps (p : Position) (k : Cause) (cs : List Condition) (s : State) :
    (enterPosition p k cs s).pending = s.pending ∧ (enterPosition p k cs s).wires = s.wires
      ∧ (enterPosition p k cs s).straps = s.straps ∧ (enterPosition p k cs s).pins = s.pins
      ∧ (enterPosition p k cs s).frontEnd = s.frontEnd ∧ (enterPosition p k cs s).sensors = s.sensors
      ∧ (enterPosition p k cs s).readings = s.readings ∧ (enterPosition p k cs s).bus = s.bus
      ∧ (enterPosition p k cs s).peers = s.peers ∧ (enterPosition p k cs s).picture = s.picture
      ∧ (enterPosition p k cs s).store = s.store ∧ (enterPosition p k cs s).port = s.port
      ∧ (enterPosition p k cs s).freeIndex = s.freeIndex := by
  simp [enterPosition]

/-- `changeMode` changes no block but `schedule`, `climate`, `trace`, `attention`. -/
@[simp] theorem changeMode_keeps (m : Mode) (cs : List Condition) (s : State) :
    (changeMode m cs s).pending = s.pending ∧ (changeMode m cs s).wires = s.wires
      ∧ (changeMode m cs s).straps = s.straps ∧ (changeMode m cs s).pins = s.pins
      ∧ (changeMode m cs s).frontEnd = s.frontEnd ∧ (changeMode m cs s).sensors = s.sensors
      ∧ (changeMode m cs s).readings = s.readings ∧ (changeMode m cs s).bus = s.bus
      ∧ (changeMode m cs s).peers = s.peers ∧ (changeMode m cs s).picture = s.picture
      ∧ (changeMode m cs s).store = s.store ∧ (changeMode m cs s).port = s.port
      ∧ (changeMode m cs s).freeIndex = s.freeIndex := by
  simp [changeMode]

/-- `enterSafe` changes no block but `schedule`, `climate`, `trace`, `attention`. -/
@[simp] theorem enterSafe_keeps (o : SafeOrigin) (cs : List Condition) (s : State) :
    (enterSafe o cs s).pending = s.pending ∧ (enterSafe o cs s).wires = s.wires
      ∧ (enterSafe o cs s).straps = s.straps ∧ (enterSafe o cs s).pins = s.pins
      ∧ (enterSafe o cs s).frontEnd = s.frontEnd ∧ (enterSafe o cs s).sensors = s.sensors
      ∧ (enterSafe o cs s).readings = s.readings ∧ (enterSafe o cs s).bus = s.bus
      ∧ (enterSafe o cs s).peers = s.peers ∧ (enterSafe o cs s).picture = s.picture
      ∧ (enterSafe o cs s).store = s.store ∧ (enterSafe o cs s).port = s.port
      ∧ (enterSafe o cs s).freeIndex = s.freeIndex := by
  unfold enterSafe; split <;> simp

/-- `testWarmup` changes no block but `schedule`, `climate`, `trace`, `attention`. -/
@[simp] theorem testWarmup_keeps (s : State) :
    (testWarmup s).pending = s.pending ∧ (testWarmup s).wires = s.wires ∧ (testWarmup s).straps = s.straps
      ∧ (testWarmup s).pins = s.pins ∧ (testWarmup s).frontEnd = s.frontEnd ∧ (testWarmup s).sensors = s.sensors
      ∧ (testWarmup s).readings = s.readings ∧ (testWarmup s).bus = s.bus ∧ (testWarmup s).peers = s.peers
      ∧ (testWarmup s).picture = s.picture ∧ (testWarmup s).store = s.store ∧ (testWarmup s).port = s.port
      ∧ (testWarmup s).freeIndex = s.freeIndex := by
  unfold testWarmup; split <;> simp

/-- `testCool` changes no block but `schedule`, `climate`, `trace`, `attention`. -/
@[simp] theorem testCool_keeps (s : State) :
    (testCool s).pending = s.pending ∧ (testCool s).wires = s.wires ∧ (testCool s).straps = s.straps
      ∧ (testCool s).pins = s.pins ∧ (testCool s).frontEnd = s.frontEnd ∧ (testCool s).sensors = s.sensors
      ∧ (testCool s).readings = s.readings ∧ (testCool s).bus = s.bus ∧ (testCool s).peers = s.peers
      ∧ (testCool s).picture = s.picture ∧ (testCool s).store = s.store ∧ (testCool s).port = s.port
      ∧ (testCool s).freeIndex = s.freeIndex := by
  unfold testCool; split <;> simp

/-- `testGather` changes no block but `schedule`, `climate`, `trace`, `attention`. -/
@[simp] theorem testGather_keeps (s : State) :
    (testGather s).pending = s.pending ∧ (testGather s).wires = s.wires ∧ (testGather s).straps = s.straps
      ∧ (testGather s).pins = s.pins ∧ (testGather s).frontEnd = s.frontEnd ∧ (testGather s).sensors = s.sensors
      ∧ (testGather s).readings = s.readings ∧ (testGather s).bus = s.bus ∧ (testGather s).peers = s.peers
      ∧ (testGather s).picture = s.picture ∧ (testGather s).store = s.store ∧ (testGather s).port = s.port
      ∧ (testGather s).freeIndex = s.freeIndex := by
  unfold testGather; split <;> simp

/-- `testCondition` changes no block but `schedule`, `climate`, `trace`, `attention`. -/
@[simp] theorem testCondition_keeps (s : State) :
    (testCondition s).pending = s.pending ∧ (testCondition s).wires = s.wires
      ∧ (testCondition s).straps = s.straps ∧ (testCondition s).pins = s.pins
      ∧ (testCondition s).frontEnd = s.frontEnd ∧ (testCondition s).sensors = s.sensors
      ∧ (testCondition s).readings = s.readings ∧ (testCondition s).bus = s.bus
      ∧ (testCondition s).peers = s.peers ∧ (testCondition s).picture = s.picture
      ∧ (testCondition s).store = s.store ∧ (testCondition s).port = s.port
      ∧ (testCondition s).freeIndex = s.freeIndex := by
  unfold testCondition; split <;> simp

/-- `exitsAtOnce` changes no block but `schedule`, `climate`, `trace`, `attention`. -/
@[simp] theorem exitsAtOnce_keeps (s : State) :
    (exitsAtOnce s).pending = s.pending ∧ (exitsAtOnce s).wires = s.wires ∧ (exitsAtOnce s).straps = s.straps
      ∧ (exitsAtOnce s).pins = s.pins ∧ (exitsAtOnce s).frontEnd = s.frontEnd
      ∧ (exitsAtOnce s).sensors = s.sensors ∧ (exitsAtOnce s).readings = s.readings
      ∧ (exitsAtOnce s).bus = s.bus ∧ (exitsAtOnce s).peers = s.peers ∧ (exitsAtOnce s).picture = s.picture
      ∧ (exitsAtOnce s).store = s.store ∧ (exitsAtOnce s).port = s.port
      ∧ (exitsAtOnce s).freeIndex = s.freeIndex := by
  unfold exitsAtOnce; split <;> simp

/-- `enter` changes no block but `schedule`, `climate`, `trace`, `attention`. -/
@[simp] theorem enter_keeps (p : Position) (k : Cause) (s : State) :
    (enter p k s).pending = s.pending ∧ (enter p k s).wires = s.wires ∧ (enter p k s).straps = s.straps
      ∧ (enter p k s).pins = s.pins ∧ (enter p k s).frontEnd = s.frontEnd ∧ (enter p k s).sensors = s.sensors
      ∧ (enter p k s).readings = s.readings ∧ (enter p k s).bus = s.bus ∧ (enter p k s).peers = s.peers
      ∧ (enter p k s).picture = s.picture ∧ (enter p k s).store = s.store ∧ (enter p k s).port = s.port
      ∧ (enter p k s).freeIndex = s.freeIndex := by
  simp [enter]

/-- `startCalSweep` changes no block but `frontEnd`. -/
@[simp] theorem startCalSweep_keeps (s : State) :
    (startCalSweep s).pending = s.pending ∧ (startCalSweep s).wires = s.wires
      ∧ (startCalSweep s).straps = s.straps ∧ (startCalSweep s).pins = s.pins
      ∧ (startCalSweep s).sensors = s.sensors ∧ (startCalSweep s).readings = s.readings
      ∧ (startCalSweep s).bus = s.bus ∧ (startCalSweep s).peers = s.peers
      ∧ (startCalSweep s).picture = s.picture ∧ (startCalSweep s).store = s.store
      ∧ (startCalSweep s).schedule = s.schedule ∧ (startCalSweep s).climate = s.climate
      ∧ (startCalSweep s).attention = s.attention ∧ (startCalSweep s).trace = s.trace
      ∧ (startCalSweep s).port = s.port ∧ (startCalSweep s).freeIndex = s.freeIndex := by
  simp [startCalSweep]

/-- `startProbeSweep` changes no block but `frontEnd`. -/
@[simp] theorem startProbeSweep_keeps (s : State) :
    (startProbeSweep s).pending = s.pending ∧ (startProbeSweep s).wires = s.wires
      ∧ (startProbeSweep s).straps = s.straps ∧ (startProbeSweep s).pins = s.pins
      ∧ (startProbeSweep s).sensors = s.sensors ∧ (startProbeSweep s).readings = s.readings
      ∧ (startProbeSweep s).bus = s.bus ∧ (startProbeSweep s).peers = s.peers
      ∧ (startProbeSweep s).picture = s.picture ∧ (startProbeSweep s).store = s.store
      ∧ (startProbeSweep s).schedule = s.schedule ∧ (startProbeSweep s).climate = s.climate
      ∧ (startProbeSweep s).attention = s.attention ∧ (startProbeSweep s).trace = s.trace
      ∧ (startProbeSweep s).port = s.port ∧ (startProbeSweep s).freeIndex = s.freeIndex := by
  simp [startProbeSweep]

/-- `requestCalibration` changes no block but `frontEnd`. -/
@[simp] theorem requestCalibration_keeps (s : State) :
    (requestCalibration s).pending = s.pending ∧ (requestCalibration s).wires = s.wires
      ∧ (requestCalibration s).straps = s.straps ∧ (requestCalibration s).pins = s.pins
      ∧ (requestCalibration s).sensors = s.sensors ∧ (requestCalibration s).readings = s.readings
      ∧ (requestCalibration s).bus = s.bus ∧ (requestCalibration s).peers = s.peers
      ∧ (requestCalibration s).picture = s.picture ∧ (requestCalibration s).store = s.store
      ∧ (requestCalibration s).schedule = s.schedule ∧ (requestCalibration s).climate = s.climate
      ∧ (requestCalibration s).attention = s.attention ∧ (requestCalibration s).trace = s.trace
      ∧ (requestCalibration s).port = s.port ∧ (requestCalibration s).freeIndex = s.freeIndex := by
  unfold requestCalibration; split <;> simp

/-- `promoteStore` changes no block but `store`, `bus`. -/
@[simp] theorem promoteStore_keeps (s : State) :
    (promoteStore s).pending = s.pending ∧ (promoteStore s).wires = s.wires ∧ (promoteStore s).straps = s.straps
      ∧ (promoteStore s).pins = s.pins ∧ (promoteStore s).frontEnd = s.frontEnd
      ∧ (promoteStore s).sensors = s.sensors ∧ (promoteStore s).readings = s.readings
      ∧ (promoteStore s).peers = s.peers ∧ (promoteStore s).picture = s.picture
      ∧ (promoteStore s).schedule = s.schedule ∧ (promoteStore s).climate = s.climate
      ∧ (promoteStore s).attention = s.attention ∧ (promoteStore s).trace = s.trace
      ∧ (promoteStore s).port = s.port ∧ (promoteStore s).freeIndex = s.freeIndex := by
  simp [promoteStore]

/-- `promoteTimers` changes no block but `schedule`, `trace`. -/
@[simp] theorem promoteTimers_keeps (s : State) :
    (promoteTimers s).pending = s.pending ∧ (promoteTimers s).wires = s.wires
      ∧ (promoteTimers s).straps = s.straps ∧ (promoteTimers s).pins = s.pins
      ∧ (promoteTimers s).frontEnd = s.frontEnd ∧ (promoteTimers s).sensors = s.sensors
      ∧ (promoteTimers s).readings = s.readings ∧ (promoteTimers s).bus = s.bus
      ∧ (promoteTimers s).peers = s.peers ∧ (promoteTimers s).picture = s.picture
      ∧ (promoteTimers s).store = s.store ∧ (promoteTimers s).climate = s.climate
      ∧ (promoteTimers s).attention = s.attention ∧ (promoteTimers s).port = s.port
      ∧ (promoteTimers s).freeIndex = s.freeIndex := by
  simp [promoteTimers]

/-- `promote` changes no block but `schedule`, `climate`, `trace`, `attention`, `store`, `bus`, `frontEnd`. -/
@[simp] theorem promote_keeps (k : Cause) (s : State) :
    (promote k s).pending = s.pending ∧ (promote k s).wires = s.wires ∧ (promote k s).straps = s.straps
      ∧ (promote k s).pins = s.pins ∧ (promote k s).sensors = s.sensors ∧ (promote k s).readings = s.readings
      ∧ (promote k s).peers = s.peers ∧ (promote k s).picture = s.picture ∧ (promote k s).port = s.port
      ∧ (promote k s).freeIndex = s.freeIndex := by
  simp [promote]

/-- `abortCharge` changes no block but `schedule`, `climate`, `trace`, `attention`, `store`, `bus`. -/
@[simp] theorem abortCharge_keeps (s : State) :
    (abortCharge s).pending = s.pending ∧ (abortCharge s).wires = s.wires ∧ (abortCharge s).straps = s.straps
      ∧ (abortCharge s).pins = s.pins ∧ (abortCharge s).frontEnd = s.frontEnd
      ∧ (abortCharge s).sensors = s.sensors ∧ (abortCharge s).readings = s.readings
      ∧ (abortCharge s).peers = s.peers ∧ (abortCharge s).picture = s.picture ∧ (abortCharge s).port = s.port
      ∧ (abortCharge s).freeIndex = s.freeIndex := by
  simp [abortCharge]

/-- `remarkReadings` changes no block but `readings`. -/
@[simp] theorem remarkReadings_keeps (s : State) :
    (remarkReadings s).pending = s.pending ∧ (remarkReadings s).wires = s.wires
      ∧ (remarkReadings s).straps = s.straps ∧ (remarkReadings s).pins = s.pins
      ∧ (remarkReadings s).frontEnd = s.frontEnd ∧ (remarkReadings s).sensors = s.sensors
      ∧ (remarkReadings s).bus = s.bus ∧ (remarkReadings s).peers = s.peers
      ∧ (remarkReadings s).picture = s.picture ∧ (remarkReadings s).store = s.store
      ∧ (remarkReadings s).schedule = s.schedule ∧ (remarkReadings s).climate = s.climate
      ∧ (remarkReadings s).attention = s.attention ∧ (remarkReadings s).trace = s.trace
      ∧ (remarkReadings s).port = s.port ∧ (remarkReadings s).freeIndex = s.freeIndex := by
  simp [remarkReadings]

/-- `judgeDrying` changes no block but `schedule`, `climate`, `trace`, `attention`. -/
@[simp] theorem judgeDrying_keeps (r : ChargeRecord) (p : Picture) (k : Nat) (s : State) :
    (judgeDrying r p k s).pending = s.pending ∧ (judgeDrying r p k s).wires = s.wires
      ∧ (judgeDrying r p k s).straps = s.straps ∧ (judgeDrying r p k s).pins = s.pins
      ∧ (judgeDrying r p k s).frontEnd = s.frontEnd ∧ (judgeDrying r p k s).sensors = s.sensors
      ∧ (judgeDrying r p k s).readings = s.readings ∧ (judgeDrying r p k s).bus = s.bus
      ∧ (judgeDrying r p k s).peers = s.peers ∧ (judgeDrying r p k s).picture = s.picture
      ∧ (judgeDrying r p k s).store = s.store ∧ (judgeDrying r p k s).port = s.port
      ∧ (judgeDrying r p k s).freeIndex = s.freeIndex := by
  unfold judgeDrying; repeat (first | split | simp)

/-- `judgePicture` changes no block but `schedule`, `climate`, `trace`, `attention`. -/
@[simp] theorem judgePicture_keeps (s : State) :
    (judgePicture s).pending = s.pending ∧ (judgePicture s).wires = s.wires ∧ (judgePicture s).straps = s.straps
      ∧ (judgePicture s).pins = s.pins ∧ (judgePicture s).frontEnd = s.frontEnd
      ∧ (judgePicture s).sensors = s.sensors ∧ (judgePicture s).readings = s.readings
      ∧ (judgePicture s).bus = s.bus ∧ (judgePicture s).peers = s.peers ∧ (judgePicture s).picture = s.picture
      ∧ (judgePicture s).store = s.store ∧ (judgePicture s).port = s.port
      ∧ (judgePicture s).freeIndex = s.freeIndex := by
  unfold judgePicture; repeat (first | split | simp)

/-- `followReport` changes no block but `schedule`, `climate`, `trace`, `attention`. -/
@[simp] theorem followReport_keeps (n : Nat) (d : ReportData) (s : State) :
    (followReport n d s).pending = s.pending ∧ (followReport n d s).wires = s.wires
      ∧ (followReport n d s).straps = s.straps ∧ (followReport n d s).pins = s.pins
      ∧ (followReport n d s).frontEnd = s.frontEnd ∧ (followReport n d s).sensors = s.sensors
      ∧ (followReport n d s).readings = s.readings ∧ (followReport n d s).bus = s.bus
      ∧ (followReport n d s).peers = s.peers ∧ (followReport n d s).picture = s.picture
      ∧ (followReport n d s).store = s.store ∧ (followReport n d s).port = s.port
      ∧ (followReport n d s).freeIndex = s.freeIndex := by
  unfold followReport; split <;> simp

/-- `showSchedule` changes no block but `schedule`, `climate`, `trace`, `attention`. -/
@[simp] theorem showSchedule_keeps (n : Nat) (d : ReportData) (s : State) :
    (showSchedule n d s).pending = s.pending ∧ (showSchedule n d s).wires = s.wires
      ∧ (showSchedule n d s).straps = s.straps ∧ (showSchedule n d s).pins = s.pins
      ∧ (showSchedule n d s).frontEnd = s.frontEnd ∧ (showSchedule n d s).sensors = s.sensors
      ∧ (showSchedule n d s).readings = s.readings ∧ (showSchedule n d s).bus = s.bus
      ∧ (showSchedule n d s).peers = s.peers ∧ (showSchedule n d s).picture = s.picture
      ∧ (showSchedule n d s).store = s.store ∧ (showSchedule n d s).port = s.port
      ∧ (showSchedule n d s).freeIndex = s.freeIndex := by
  simp [showSchedule]

/-- `lateJoin` changes no block but `schedule`, `climate`, `trace`, `attention`, `store`, `bus`, `frontEnd`. -/
@[simp] theorem lateJoin_keeps (n : Nat) (d : ReportData) (s : State) :
    (lateJoin n d s).pending = s.pending ∧ (lateJoin n d s).wires = s.wires ∧ (lateJoin n d s).straps = s.straps
      ∧ (lateJoin n d s).pins = s.pins ∧ (lateJoin n d s).sensors = s.sensors
      ∧ (lateJoin n d s).readings = s.readings ∧ (lateJoin n d s).peers = s.peers
      ∧ (lateJoin n d s).picture = s.picture ∧ (lateJoin n d s).port = s.port
      ∧ (lateJoin n d s).freeIndex = s.freeIndex := by
  unfold lateJoin; split <;> simp

/-- `reoffer` changes no block but `bus`. -/
@[simp] theorem reoffer_keeps (n : Nat) (d : ReportData) (s : State) :
    (reoffer n d s).pending = s.pending ∧ (reoffer n d s).wires = s.wires ∧ (reoffer n d s).straps = s.straps
      ∧ (reoffer n d s).pins = s.pins ∧ (reoffer n d s).frontEnd = s.frontEnd
      ∧ (reoffer n d s).sensors = s.sensors ∧ (reoffer n d s).readings = s.readings
      ∧ (reoffer n d s).peers = s.peers ∧ (reoffer n d s).picture = s.picture ∧ (reoffer n d s).store = s.store
      ∧ (reoffer n d s).schedule = s.schedule ∧ (reoffer n d s).climate = s.climate
      ∧ (reoffer n d s).attention = s.attention ∧ (reoffer n d s).trace = s.trace
      ∧ (reoffer n d s).port = s.port ∧ (reoffer n d s).freeIndex = s.freeIndex := by
  unfold reoffer; split <;> simp

/-- `acceptReport` changes no block but `schedule`, `climate`, `trace`, `attention`, `store`, `bus`, `frontEnd`, `peers`. -/
@[simp] theorem acceptReport_keeps (n : Nat) (d : ReportData) (s : State) :
    (acceptReport n d s).pending = s.pending ∧ (acceptReport n d s).wires = s.wires
      ∧ (acceptReport n d s).straps = s.straps ∧ (acceptReport n d s).pins = s.pins
      ∧ (acceptReport n d s).sensors = s.sensors ∧ (acceptReport n d s).readings = s.readings
      ∧ (acceptReport n d s).picture = s.picture ∧ (acceptReport n d s).port = s.port
      ∧ (acceptReport n d s).freeIndex = s.freeIndex := by
  simp [acceptReport, writeEntry]

/-- `endRun` changes no block but `bus`. -/
@[simp] theorem endRun_keeps (s : State) :
    (endRun s).pending = s.pending ∧ (endRun s).wires = s.wires ∧ (endRun s).straps = s.straps
      ∧ (endRun s).pins = s.pins ∧ (endRun s).frontEnd = s.frontEnd ∧ (endRun s).sensors = s.sensors
      ∧ (endRun s).readings = s.readings ∧ (endRun s).peers = s.peers ∧ (endRun s).picture = s.picture
      ∧ (endRun s).store = s.store ∧ (endRun s).schedule = s.schedule ∧ (endRun s).climate = s.climate
      ∧ (endRun s).attention = s.attention ∧ (endRun s).trace = s.trace ∧ (endRun s).port = s.port
      ∧ (endRun s).freeIndex = s.freeIndex := by
  simp [endRun]

/-- `cancelOnHearing` changes no block but `bus`. -/
@[simp] theorem cancelOnHearing_keeps (f : Frame) (s : State) :
    (cancelOnHearing f s).pending = s.pending ∧ (cancelOnHearing f s).wires = s.wires
      ∧ (cancelOnHearing f s).straps = s.straps ∧ (cancelOnHearing f s).pins = s.pins
      ∧ (cancelOnHearing f s).frontEnd = s.frontEnd ∧ (cancelOnHearing f s).sensors = s.sensors
      ∧ (cancelOnHearing f s).readings = s.readings ∧ (cancelOnHearing f s).peers = s.peers
      ∧ (cancelOnHearing f s).picture = s.picture ∧ (cancelOnHearing f s).store = s.store
      ∧ (cancelOnHearing f s).schedule = s.schedule ∧ (cancelOnHearing f s).climate = s.climate
      ∧ (cancelOnHearing f s).attention = s.attention ∧ (cancelOnHearing f s).trace = s.trace
      ∧ (cancelOnHearing f s).port = s.port ∧ (cancelOnHearing f s).freeIndex = s.freeIndex := by
  unfold cancelOnHearing; split <;> simp

/-- `climatePeriod` changes no block but `climate`. -/
@[simp] theorem climatePeriod_keeps (s : State) :
    (climatePeriod s).pending = s.pending ∧ (climatePeriod s).wires = s.wires
      ∧ (climatePeriod s).straps = s.straps ∧ (climatePeriod s).pins = s.pins
      ∧ (climatePeriod s).frontEnd = s.frontEnd ∧ (climatePeriod s).sensors = s.sensors
      ∧ (climatePeriod s).readings = s.readings ∧ (climatePeriod s).bus = s.bus
      ∧ (climatePeriod s).peers = s.peers ∧ (climatePeriod s).picture = s.picture
      ∧ (climatePeriod s).store = s.store ∧ (climatePeriod s).schedule = s.schedule
      ∧ (climatePeriod s).attention = s.attention ∧ (climatePeriod s).trace = s.trace
      ∧ (climatePeriod s).port = s.port ∧ (climatePeriod s).freeIndex = s.freeIndex := by
  unfold climatePeriod; repeat (first | split | simp)

/-- `judgeDeviation` changes no block but `climate`, `attention`, `trace`. -/
@[simp] theorem judgeDeviation_keeps (s : State) :
    (judgeDeviation s).pending = s.pending ∧ (judgeDeviation s).wires = s.wires
      ∧ (judgeDeviation s).straps = s.straps ∧ (judgeDeviation s).pins = s.pins
      ∧ (judgeDeviation s).frontEnd = s.frontEnd ∧ (judgeDeviation s).sensors = s.sensors
      ∧ (judgeDeviation s).readings = s.readings ∧ (judgeDeviation s).bus = s.bus
      ∧ (judgeDeviation s).peers = s.peers ∧ (judgeDeviation s).picture = s.picture
      ∧ (judgeDeviation s).store = s.store ∧ (judgeDeviation s).schedule = s.schedule
      ∧ (judgeDeviation s).port = s.port ∧ (judgeDeviation s).freeIndex = s.freeIndex := by
  unfold judgeDeviation
  split
  · dsimp only; split
    · split <;> simp
    · simp
  · simp

/-- `setpointRamp` changes no block but `climate`. -/
@[simp] theorem setpointRamp_keeps (s : State) :
    (setpointRamp s).pending = s.pending ∧ (setpointRamp s).wires = s.wires ∧ (setpointRamp s).straps = s.straps
      ∧ (setpointRamp s).pins = s.pins ∧ (setpointRamp s).frontEnd = s.frontEnd
      ∧ (setpointRamp s).sensors = s.sensors ∧ (setpointRamp s).readings = s.readings
      ∧ (setpointRamp s).bus = s.bus ∧ (setpointRamp s).peers = s.peers ∧ (setpointRamp s).picture = s.picture
      ∧ (setpointRamp s).store = s.store ∧ (setpointRamp s).schedule = s.schedule
      ∧ (setpointRamp s).attention = s.attention ∧ (setpointRamp s).trace = s.trace
      ∧ (setpointRamp s).port = s.port ∧ (setpointRamp s).freeIndex = s.freeIndex := by
  unfold setpointRamp; repeat (first | split | simp)

/-- `buildPicture` changes no block but `picture`. -/
@[simp] theorem buildPicture_keeps (s : State) :
    (buildPicture s).pending = s.pending ∧ (buildPicture s).wires = s.wires ∧ (buildPicture s).straps = s.straps
      ∧ (buildPicture s).pins = s.pins ∧ (buildPicture s).frontEnd = s.frontEnd
      ∧ (buildPicture s).sensors = s.sensors ∧ (buildPicture s).readings = s.readings
      ∧ (buildPicture s).bus = s.bus ∧ (buildPicture s).peers = s.peers ∧ (buildPicture s).store = s.store
      ∧ (buildPicture s).schedule = s.schedule ∧ (buildPicture s).climate = s.climate
      ∧ (buildPicture s).attention = s.attention ∧ (buildPicture s).trace = s.trace
      ∧ (buildPicture s).port = s.port ∧ (buildPicture s).freeIndex = s.freeIndex := by
  simp [buildPicture]

/-- `latchPictureShort` changes no block but `trace`, `attention`. -/
@[simp] theorem latchPictureShort_keeps (s : State) :
    (latchPictureShort s).pending = s.pending ∧ (latchPictureShort s).wires = s.wires
      ∧ (latchPictureShort s).straps = s.straps ∧ (latchPictureShort s).pins = s.pins
      ∧ (latchPictureShort s).frontEnd = s.frontEnd ∧ (latchPictureShort s).sensors = s.sensors
      ∧ (latchPictureShort s).readings = s.readings ∧ (latchPictureShort s).bus = s.bus
      ∧ (latchPictureShort s).peers = s.peers ∧ (latchPictureShort s).picture = s.picture
      ∧ (latchPictureShort s).store = s.store ∧ (latchPictureShort s).schedule = s.schedule
      ∧ (latchPictureShort s).climate = s.climate ∧ (latchPictureShort s).port = s.port
      ∧ (latchPictureShort s).freeIndex = s.freeIndex := by
  unfold latchPictureShort; repeat (first | split | simp)

/-- `convertReadings` changes no block but `readings`. -/
@[simp] theorem convertReadings_keeps (s : State) :
    (convertReadings s).pending = s.pending ∧ (convertReadings s).wires = s.wires
      ∧ (convertReadings s).straps = s.straps ∧ (convertReadings s).pins = s.pins
      ∧ (convertReadings s).frontEnd = s.frontEnd ∧ (convertReadings s).sensors = s.sensors
      ∧ (convertReadings s).bus = s.bus ∧ (convertReadings s).peers = s.peers
      ∧ (convertReadings s).picture = s.picture ∧ (convertReadings s).store = s.store
      ∧ (convertReadings s).schedule = s.schedule ∧ (convertReadings s).climate = s.climate
      ∧ (convertReadings s).attention = s.attention ∧ (convertReadings s).trace = s.trace
      ∧ (convertReadings s).port = s.port ∧ (convertReadings s).freeIndex = s.freeIndex := by
  simp [convertReadings]

/-- `writeOwnEntry` changes no block but `peers`. -/
@[simp] theorem writeOwnEntry_keeps (s : State) :
    (writeOwnEntry s).pending = s.pending ∧ (writeOwnEntry s).wires = s.wires
      ∧ (writeOwnEntry s).straps = s.straps ∧ (writeOwnEntry s).pins = s.pins
      ∧ (writeOwnEntry s).frontEnd = s.frontEnd ∧ (writeOwnEntry s).sensors = s.sensors
      ∧ (writeOwnEntry s).readings = s.readings ∧ (writeOwnEntry s).bus = s.bus
      ∧ (writeOwnEntry s).picture = s.picture ∧ (writeOwnEntry s).store = s.store
      ∧ (writeOwnEntry s).schedule = s.schedule ∧ (writeOwnEntry s).climate = s.climate
      ∧ (writeOwnEntry s).attention = s.attention ∧ (writeOwnEntry s).trace = s.trace
      ∧ (writeOwnEntry s).port = s.port ∧ (writeOwnEntry s).freeIndex = s.freeIndex := by
  simp [writeOwnEntry]

/-- `leaveProbeSweep` changes no block but `frontEnd`. -/
@[simp] theorem leaveProbeSweep_keeps (s : State) :
    (leaveProbeSweep s).pending = s.pending ∧ (leaveProbeSweep s).wires = s.wires
      ∧ (leaveProbeSweep s).straps = s.straps ∧ (leaveProbeSweep s).pins = s.pins
      ∧ (leaveProbeSweep s).sensors = s.sensors ∧ (leaveProbeSweep s).readings = s.readings
      ∧ (leaveProbeSweep s).bus = s.bus ∧ (leaveProbeSweep s).peers = s.peers
      ∧ (leaveProbeSweep s).picture = s.picture ∧ (leaveProbeSweep s).store = s.store
      ∧ (leaveProbeSweep s).schedule = s.schedule ∧ (leaveProbeSweep s).climate = s.climate
      ∧ (leaveProbeSweep s).attention = s.attention ∧ (leaveProbeSweep s).trace = s.trace
      ∧ (leaveProbeSweep s).port = s.port ∧ (leaveProbeSweep s).freeIndex = s.freeIndex := by
  unfold leaveProbeSweep; split <;> simp

/-- `dryBulbLoss` changes no block but `readings`, `climate`. -/
@[simp] theorem dryBulbLoss_keeps (s : State) :
    (dryBulbLoss s).pending = s.pending ∧ (dryBulbLoss s).wires = s.wires ∧ (dryBulbLoss s).straps = s.straps
      ∧ (dryBulbLoss s).pins = s.pins ∧ (dryBulbLoss s).frontEnd = s.frontEnd
      ∧ (dryBulbLoss s).sensors = s.sensors ∧ (dryBulbLoss s).bus = s.bus ∧ (dryBulbLoss s).peers = s.peers
      ∧ (dryBulbLoss s).picture = s.picture ∧ (dryBulbLoss s).store = s.store
      ∧ (dryBulbLoss s).schedule = s.schedule ∧ (dryBulbLoss s).attention = s.attention
      ∧ (dryBulbLoss s).trace = s.trace ∧ (dryBulbLoss s).port = s.port
      ∧ (dryBulbLoss s).freeIndex = s.freeIndex := by
  unfold dryBulbLoss; dsimp only; split <;> simp

/-- `wetBulbLoss` changes no block but `climate`. -/
@[simp] theorem wetBulbLoss_keeps (s : State) :
    (wetBulbLoss s).pending = s.pending ∧ (wetBulbLoss s).wires = s.wires ∧ (wetBulbLoss s).straps = s.straps
      ∧ (wetBulbLoss s).pins = s.pins ∧ (wetBulbLoss s).frontEnd = s.frontEnd
      ∧ (wetBulbLoss s).sensors = s.sensors ∧ (wetBulbLoss s).readings = s.readings
      ∧ (wetBulbLoss s).bus = s.bus ∧ (wetBulbLoss s).peers = s.peers ∧ (wetBulbLoss s).picture = s.picture
      ∧ (wetBulbLoss s).store = s.store ∧ (wetBulbLoss s).schedule = s.schedule
      ∧ (wetBulbLoss s).attention = s.attention ∧ (wetBulbLoss s).trace = s.trace
      ∧ (wetBulbLoss s).port = s.port ∧ (wetBulbLoss s).freeIndex = s.freeIndex := by
  unfold wetBulbLoss; split <;> simp

/-- `sampleDry` changes no block but `sensors`, `readings`, `climate`. -/
@[simp] theorem sampleDry_keeps (v : Int) (s : State) :
    (sampleDry v s).pending = s.pending ∧ (sampleDry v s).wires = s.wires ∧ (sampleDry v s).straps = s.straps
      ∧ (sampleDry v s).pins = s.pins ∧ (sampleDry v s).frontEnd = s.frontEnd ∧ (sampleDry v s).bus = s.bus
      ∧ (sampleDry v s).peers = s.peers ∧ (sampleDry v s).picture = s.picture ∧ (sampleDry v s).store = s.store
      ∧ (sampleDry v s).schedule = s.schedule ∧ (sampleDry v s).attention = s.attention
      ∧ (sampleDry v s).trace = s.trace ∧ (sampleDry v s).port = s.port
      ∧ (sampleDry v s).freeIndex = s.freeIndex := by
  unfold sampleDry; dsimp only; split <;> simp

/-- `sampleWet` changes no block but `sensors`, `climate`. -/
@[simp] theorem sampleWet_keeps (v : Int) (s : State) :
    (sampleWet v s).pending = s.pending ∧ (sampleWet v s).wires = s.wires ∧ (sampleWet v s).straps = s.straps
      ∧ (sampleWet v s).pins = s.pins ∧ (sampleWet v s).frontEnd = s.frontEnd
      ∧ (sampleWet v s).readings = s.readings ∧ (sampleWet v s).bus = s.bus ∧ (sampleWet v s).peers = s.peers
      ∧ (sampleWet v s).picture = s.picture ∧ (sampleWet v s).store = s.store
      ∧ (sampleWet v s).schedule = s.schedule ∧ (sampleWet v s).attention = s.attention
      ∧ (sampleWet v s).trace = s.trace ∧ (sampleWet v s).port = s.port
      ∧ (sampleWet v s).freeIndex = s.freeIndex := by
  unfold sampleWet; split
  · dsimp only; split <;> simp
  · simp

/-- `samplePeriod` changes no block but `sensors`, `readings`, `climate`, `trace`, `attention`. -/
@[simp] theorem samplePeriod_keeps (d w : Int) (s : State) :
    (samplePeriod d w s).pending = s.pending ∧ (samplePeriod d w s).wires = s.wires
      ∧ (samplePeriod d w s).straps = s.straps ∧ (samplePeriod d w s).pins = s.pins
      ∧ (samplePeriod d w s).frontEnd = s.frontEnd ∧ (samplePeriod d w s).bus = s.bus
      ∧ (samplePeriod d w s).peers = s.peers ∧ (samplePeriod d w s).picture = s.picture
      ∧ (samplePeriod d w s).store = s.store ∧ (samplePeriod d w s).schedule = s.schedule
      ∧ (samplePeriod d w s).port = s.port ∧ (samplePeriod d w s).freeIndex = s.freeIndex := by
  simp [samplePeriod]

/-- `periodExits` changes no block but `schedule`, `climate`, `trace`, `attention`. -/
@[simp] theorem periodExits_keeps (s : State) :
    (periodExits s).pending = s.pending ∧ (periodExits s).wires = s.wires ∧ (periodExits s).straps = s.straps
      ∧ (periodExits s).pins = s.pins ∧ (periodExits s).frontEnd = s.frontEnd
      ∧ (periodExits s).sensors = s.sensors ∧ (periodExits s).readings = s.readings
      ∧ (periodExits s).bus = s.bus ∧ (periodExits s).peers = s.peers ∧ (periodExits s).picture = s.picture
      ∧ (periodExits s).store = s.store ∧ (periodExits s).port = s.port
      ∧ (periodExits s).freeIndex = s.freeIndex := by
  unfold periodExits; split <;> simp

/-- `countReversal` changes no block but `schedule`. -/
@[simp] theorem countReversal_keeps (s : State) :
    (countReversal s).pending = s.pending ∧ (countReversal s).wires = s.wires
      ∧ (countReversal s).straps = s.straps ∧ (countReversal s).pins = s.pins
      ∧ (countReversal s).frontEnd = s.frontEnd ∧ (countReversal s).sensors = s.sensors
      ∧ (countReversal s).readings = s.readings ∧ (countReversal s).bus = s.bus
      ∧ (countReversal s).peers = s.peers ∧ (countReversal s).picture = s.picture
      ∧ (countReversal s).store = s.store ∧ (countReversal s).climate = s.climate
      ∧ (countReversal s).attention = s.attention ∧ (countReversal s).trace = s.trace
      ∧ (countReversal s).port = s.port ∧ (countReversal s).freeIndex = s.freeIndex := by
  unfold countReversal; repeat (first | split | simp)

/-- `startSettle` changes no block but `climate`. -/
@[simp] theorem startSettle_keeps (s : State) :
    (startSettle s).pending = s.pending ∧ (startSettle s).wires = s.wires ∧ (startSettle s).straps = s.straps
      ∧ (startSettle s).pins = s.pins ∧ (startSettle s).frontEnd = s.frontEnd
      ∧ (startSettle s).sensors = s.sensors ∧ (startSettle s).readings = s.readings
      ∧ (startSettle s).bus = s.bus ∧ (startSettle s).peers = s.peers ∧ (startSettle s).picture = s.picture
      ∧ (startSettle s).store = s.store ∧ (startSettle s).schedule = s.schedule
      ∧ (startSettle s).attention = s.attention ∧ (startSettle s).trace = s.trace
      ∧ (startSettle s).port = s.port ∧ (startSettle s).freeIndex = s.freeIndex := by
  unfold startSettle; split <;> simp

/-- `countMinute` changes no block but `schedule`. -/
@[simp] theorem countMinute_keeps (s : State) :
    (countMinute s).pending = s.pending ∧ (countMinute s).wires = s.wires ∧ (countMinute s).straps = s.straps
      ∧ (countMinute s).pins = s.pins ∧ (countMinute s).frontEnd = s.frontEnd
      ∧ (countMinute s).sensors = s.sensors ∧ (countMinute s).readings = s.readings
      ∧ (countMinute s).bus = s.bus ∧ (countMinute s).peers = s.peers ∧ (countMinute s).picture = s.picture
      ∧ (countMinute s).store = s.store ∧ (countMinute s).climate = s.climate
      ∧ (countMinute s).attention = s.attention ∧ (countMinute s).trace = s.trace
      ∧ (countMinute s).port = s.port ∧ (countMinute s).freeIndex = s.freeIndex := by
  unfold countMinute; split <;> simp

/-- `takeSnapshot` changes no block but `trace`, `attention`. -/
@[simp] theorem takeSnapshot_keeps (s : State) :
    (takeSnapshot s).pending = s.pending ∧ (takeSnapshot s).wires = s.wires ∧ (takeSnapshot s).straps = s.straps
      ∧ (takeSnapshot s).pins = s.pins ∧ (takeSnapshot s).frontEnd = s.frontEnd
      ∧ (takeSnapshot s).sensors = s.sensors ∧ (takeSnapshot s).readings = s.readings
      ∧ (takeSnapshot s).bus = s.bus ∧ (takeSnapshot s).peers = s.peers ∧ (takeSnapshot s).picture = s.picture
      ∧ (takeSnapshot s).store = s.store ∧ (takeSnapshot s).schedule = s.schedule
      ∧ (takeSnapshot s).climate = s.climate ∧ (takeSnapshot s).port = s.port
      ∧ (takeSnapshot s).freeIndex = s.freeIndex := by
  simp [takeSnapshot]

/-- `tickSnapshot` changes no block but `trace`, `attention`. -/
@[simp] theorem tickSnapshot_keeps (s : State) :
    (tickSnapshot s).pending = s.pending ∧ (tickSnapshot s).wires = s.wires ∧ (tickSnapshot s).straps = s.straps
      ∧ (tickSnapshot s).pins = s.pins ∧ (tickSnapshot s).frontEnd = s.frontEnd
      ∧ (tickSnapshot s).sensors = s.sensors ∧ (tickSnapshot s).readings = s.readings
      ∧ (tickSnapshot s).bus = s.bus ∧ (tickSnapshot s).peers = s.peers ∧ (tickSnapshot s).picture = s.picture
      ∧ (tickSnapshot s).store = s.store ∧ (tickSnapshot s).schedule = s.schedule
      ∧ (tickSnapshot s).climate = s.climate ∧ (tickSnapshot s).port = s.port
      ∧ (tickSnapshot s).freeIndex = s.freeIndex := by
  unfold tickSnapshot; split
  · simp
  · split <;> simp

/-- `tickStep` changes no block but `schedule`. -/
@[simp] theorem tickStep_keeps (s : State) :
    (tickStep s).pending = s.pending ∧ (tickStep s).wires = s.wires ∧ (tickStep s).straps = s.straps
      ∧ (tickStep s).pins = s.pins ∧ (tickStep s).frontEnd = s.frontEnd ∧ (tickStep s).sensors = s.sensors
      ∧ (tickStep s).readings = s.readings ∧ (tickStep s).bus = s.bus ∧ (tickStep s).peers = s.peers
      ∧ (tickStep s).picture = s.picture ∧ (tickStep s).store = s.store ∧ (tickStep s).climate = s.climate
      ∧ (tickStep s).attention = s.attention ∧ (tickStep s).trace = s.trace ∧ (tickStep s).port = s.port
      ∧ (tickStep s).freeIndex = s.freeIndex := by
  unfold tickStep; repeat (first | split | simp)

/-- `tickOvertime` changes no block but `schedule`, `trace`, `attention`. -/
@[simp] theorem tickOvertime_keeps (s : State) :
    (tickOvertime s).pending = s.pending ∧ (tickOvertime s).wires = s.wires ∧ (tickOvertime s).straps = s.straps
      ∧ (tickOvertime s).pins = s.pins ∧ (tickOvertime s).frontEnd = s.frontEnd
      ∧ (tickOvertime s).sensors = s.sensors ∧ (tickOvertime s).readings = s.readings
      ∧ (tickOvertime s).bus = s.bus ∧ (tickOvertime s).peers = s.peers ∧ (tickOvertime s).picture = s.picture
      ∧ (tickOvertime s).store = s.store ∧ (tickOvertime s).climate = s.climate ∧ (tickOvertime s).port = s.port
      ∧ (tickOvertime s).freeIndex = s.freeIndex := by
  unfold tickOvertime
  split
  · split
    · dsimp only; split <;> simp
    · simp
  · simp

/-- `tickCondition` changes no block but `schedule`, `climate`, `trace`, `attention`. -/
@[simp] theorem tickCondition_keeps (s : State) :
    (tickCondition s).pending = s.pending ∧ (tickCondition s).wires = s.wires
      ∧ (tickCondition s).straps = s.straps ∧ (tickCondition s).pins = s.pins
      ∧ (tickCondition s).frontEnd = s.frontEnd ∧ (tickCondition s).sensors = s.sensors
      ∧ (tickCondition s).readings = s.readings ∧ (tickCondition s).bus = s.bus
      ∧ (tickCondition s).peers = s.peers ∧ (tickCondition s).picture = s.picture
      ∧ (tickCondition s).store = s.store ∧ (tickCondition s).port = s.port
      ∧ (tickCondition s).freeIndex = s.freeIndex := by
  unfold tickCondition; split <;> simp

/-- `storeStart` changes no block but `schedule`, `climate`, `trace`, `attention`, `store`, `bus`, `frontEnd`. -/
@[simp] theorem storeStart_keeps (n k : Nat) (s : State) :
    (storeStart n k s).pending = s.pending ∧ (storeStart n k s).wires = s.wires
      ∧ (storeStart n k s).straps = s.straps ∧ (storeStart n k s).pins = s.pins
      ∧ (storeStart n k s).sensors = s.sensors ∧ (storeStart n k s).readings = s.readings
      ∧ (storeStart n k s).peers = s.peers ∧ (storeStart n k s).picture = s.picture
      ∧ (storeStart n k s).port = s.port ∧ (storeStart n k s).freeIndex = s.freeIndex := by
  unfold storeStart; repeat (first | split | simp)

/-- `applyHold` changes no block but `schedule`, `climate`, `trace`, `attention`. -/
@[simp] theorem applyHold_keeps (s : State) :
    (applyHold s).pending = s.pending ∧ (applyHold s).wires = s.wires ∧ (applyHold s).straps = s.straps
      ∧ (applyHold s).pins = s.pins ∧ (applyHold s).frontEnd = s.frontEnd ∧ (applyHold s).sensors = s.sensors
      ∧ (applyHold s).readings = s.readings ∧ (applyHold s).bus = s.bus ∧ (applyHold s).peers = s.peers
      ∧ (applyHold s).picture = s.picture ∧ (applyHold s).store = s.store ∧ (applyHold s).port = s.port
      ∧ (applyHold s).freeIndex = s.freeIndex := by
  unfold applyHold; split <;> simp

/-- `applyResume` changes no block but `schedule`, `climate`, `trace`, `attention`. -/
@[simp] theorem applyResume_keeps (s : State) :
    (applyResume s).pending = s.pending ∧ (applyResume s).wires = s.wires ∧ (applyResume s).straps = s.straps
      ∧ (applyResume s).pins = s.pins ∧ (applyResume s).frontEnd = s.frontEnd
      ∧ (applyResume s).sensors = s.sensors ∧ (applyResume s).readings = s.readings
      ∧ (applyResume s).bus = s.bus ∧ (applyResume s).peers = s.peers ∧ (applyResume s).picture = s.picture
      ∧ (applyResume s).store = s.store ∧ (applyResume s).port = s.port
      ∧ (applyResume s).freeIndex = s.freeIndex := by
  unfold applyResume; split <;> simp

/-- `applyResetSafe` changes no block but `schedule`, `climate`, `trace`, `attention`. -/
@[simp] theorem applyResetSafe_keeps (s : State) :
    (applyResetSafe s).pending = s.pending ∧ (applyResetSafe s).wires = s.wires
      ∧ (applyResetSafe s).straps = s.straps ∧ (applyResetSafe s).pins = s.pins
      ∧ (applyResetSafe s).frontEnd = s.frontEnd ∧ (applyResetSafe s).sensors = s.sensors
      ∧ (applyResetSafe s).readings = s.readings ∧ (applyResetSafe s).bus = s.bus
      ∧ (applyResetSafe s).peers = s.peers ∧ (applyResetSafe s).picture = s.picture
      ∧ (applyResetSafe s).store = s.store ∧ (applyResetSafe s).port = s.port
      ∧ (applyResetSafe s).freeIndex = s.freeIndex := by
  unfold applyResetSafe; split <;> simp

/-- `applySkip` changes no block but `schedule`, `climate`, `trace`, `attention`. -/
@[simp] theorem applySkip_keeps (p : Option Position) (s : State) :
    (applySkip p s).pending = s.pending ∧ (applySkip p s).wires = s.wires ∧ (applySkip p s).straps = s.straps
      ∧ (applySkip p s).pins = s.pins ∧ (applySkip p s).frontEnd = s.frontEnd
      ∧ (applySkip p s).sensors = s.sensors ∧ (applySkip p s).readings = s.readings
      ∧ (applySkip p s).bus = s.bus ∧ (applySkip p s).peers = s.peers ∧ (applySkip p s).picture = s.picture
      ∧ (applySkip p s).store = s.store ∧ (applySkip p s).port = s.port
      ∧ (applySkip p s).freeIndex = s.freeIndex := by
  unfold applySkip; repeat (first | split | simp)

/-- `applyDirective` changes no block but `schedule`, `climate`, `trace`, `attention`, `store`, `bus`. -/
@[simp] theorem applyDirective_keeps (k : DirectiveKind) (p : Option Position) (s : State) :
    (applyDirective k p s).pending = s.pending ∧ (applyDirective k p s).wires = s.wires
      ∧ (applyDirective k p s).straps = s.straps ∧ (applyDirective k p s).pins = s.pins
      ∧ (applyDirective k p s).frontEnd = s.frontEnd ∧ (applyDirective k p s).sensors = s.sensors
      ∧ (applyDirective k p s).readings = s.readings ∧ (applyDirective k p s).peers = s.peers
      ∧ (applyDirective k p s).picture = s.picture ∧ (applyDirective k p s).port = s.port
      ∧ (applyDirective k p s).freeIndex = s.freeIndex := by
  cases k <;> simp [applyDirective]

/-- `judgeDirective` changes no block but `schedule`, `climate`, `trace`, `attention`, `store`, `bus`, `frontEnd`. -/
@[simp] theorem judgeDirective_keeps (k : DirectiveKind) (n m : Nat) (p : Option Position) (s : State) :
    (judgeDirective k n m p s).pending = s.pending ∧ (judgeDirective k n m p s).wires = s.wires
      ∧ (judgeDirective k n m p s).straps = s.straps ∧ (judgeDirective k n m p s).pins = s.pins
      ∧ (judgeDirective k n m p s).sensors = s.sensors ∧ (judgeDirective k n m p s).readings = s.readings
      ∧ (judgeDirective k n m p s).peers = s.peers ∧ (judgeDirective k n m p s).picture = s.picture
      ∧ (judgeDirective k n m p s).port = s.port ∧ (judgeDirective k n m p s).freeIndex = s.freeIndex := by
  unfold judgeDirective; repeat (first | split | simp)

/-- `ownDirective` changes no block but `schedule`, `climate`, `trace`, `attention`, `store`, `bus`, `frontEnd`. -/
@[simp] theorem ownDirective_keeps (k : DirectiveKind) (f : Frame) (s : State) :
    (ownDirective k f s).pending = s.pending ∧ (ownDirective k f s).wires = s.wires
      ∧ (ownDirective k f s).straps = s.straps ∧ (ownDirective k f s).pins = s.pins
      ∧ (ownDirective k f s).sensors = s.sensors ∧ (ownDirective k f s).readings = s.readings
      ∧ (ownDirective k f s).peers = s.peers ∧ (ownDirective k f s).picture = s.picture
      ∧ (ownDirective k f s).port = s.port ∧ (ownDirective k f s).freeIndex = s.freeIndex := by
  unfold ownDirective; split <;> simp

/-- `stageOffer` changes no block but `store`, `trace`, `attention`. -/
@[simp] theorem stageOffer_keeps (r : ChargeRecord) (s : State) :
    (stageOffer r s).pending = s.pending ∧ (stageOffer r s).wires = s.wires ∧ (stageOffer r s).straps = s.straps
      ∧ (stageOffer r s).pins = s.pins ∧ (stageOffer r s).frontEnd = s.frontEnd
      ∧ (stageOffer r s).sensors = s.sensors ∧ (stageOffer r s).readings = s.readings
      ∧ (stageOffer r s).bus = s.bus ∧ (stageOffer r s).peers = s.peers ∧ (stageOffer r s).picture = s.picture
      ∧ (stageOffer r s).schedule = s.schedule ∧ (stageOffer r s).climate = s.climate
      ∧ (stageOffer r s).port = s.port ∧ (stageOffer r s).freeIndex = s.freeIndex := by
  unfold stageOffer; repeat (first | split | simp)

/-- `ownOffer` changes no block but `store`, `bus`, `trace`, `attention`. -/
@[simp] theorem ownOffer_keeps (f : Frame) (s : State) :
    (ownOffer f s).pending = s.pending ∧ (ownOffer f s).wires = s.wires ∧ (ownOffer f s).straps = s.straps
      ∧ (ownOffer f s).pins = s.pins ∧ (ownOffer f s).frontEnd = s.frontEnd ∧ (ownOffer f s).sensors = s.sensors
      ∧ (ownOffer f s).readings = s.readings ∧ (ownOffer f s).peers = s.peers
      ∧ (ownOffer f s).picture = s.picture ∧ (ownOffer f s).schedule = s.schedule
      ∧ (ownOffer f s).climate = s.climate ∧ (ownOffer f s).port = s.port
      ∧ (ownOffer f s).freeIndex = s.freeIndex := by
  unfold ownOffer; dsimp only; repeat (first | split | simp)

/-- `ownReport` changes no block but `schedule`, `climate`, `trace`, `attention`, `store`, `bus`, `frontEnd`, `peers`. -/
@[simp] theorem ownReport_keeps (f : Frame) (s : State) :
    (ownReport f s).pending = s.pending ∧ (ownReport f s).wires = s.wires ∧ (ownReport f s).straps = s.straps
      ∧ (ownReport f s).pins = s.pins ∧ (ownReport f s).sensors = s.sensors
      ∧ (ownReport f s).readings = s.readings ∧ (ownReport f s).picture = s.picture
      ∧ (ownReport f s).port = s.port ∧ (ownReport f s).freeIndex = s.freeIndex := by
  unfold ownReport; repeat (first | split | simp)

/-- `ownSafeFrame` changes no block but `schedule`, `climate`, `trace`, `attention`. -/
@[simp] theorem ownSafeFrame_keeps (f : Frame) (s : State) :
    (ownSafeFrame f s).pending = s.pending ∧ (ownSafeFrame f s).wires = s.wires
      ∧ (ownSafeFrame f s).straps = s.straps ∧ (ownSafeFrame f s).pins = s.pins
      ∧ (ownSafeFrame f s).frontEnd = s.frontEnd ∧ (ownSafeFrame f s).sensors = s.sensors
      ∧ (ownSafeFrame f s).readings = s.readings ∧ (ownSafeFrame f s).bus = s.bus
      ∧ (ownSafeFrame f s).peers = s.peers ∧ (ownSafeFrame f s).picture = s.picture
      ∧ (ownSafeFrame f s).store = s.store ∧ (ownSafeFrame f s).port = s.port
      ∧ (ownSafeFrame f s).freeIndex = s.freeIndex := by
  simp [ownSafeFrame]

/-- `ownAnyDirective` changes no block but `schedule`, `climate`, `trace`, `attention`, `store`, `bus`, `frontEnd`. -/
@[simp] theorem ownAnyDirective_keeps (f : Frame) (s : State) :
    (ownAnyDirective f s).pending = s.pending ∧ (ownAnyDirective f s).wires = s.wires
      ∧ (ownAnyDirective f s).straps = s.straps ∧ (ownAnyDirective f s).pins = s.pins
      ∧ (ownAnyDirective f s).sensors = s.sensors ∧ (ownAnyDirective f s).readings = s.readings
      ∧ (ownAnyDirective f s).peers = s.peers ∧ (ownAnyDirective f s).picture = s.picture
      ∧ (ownAnyDirective f s).port = s.port ∧ (ownAnyDirective f s).freeIndex = s.freeIndex := by
  unfold ownAnyDirective; split <;> simp

/-- `setClash` changes no block but `bus`, `trace`, `attention`. -/
@[simp] theorem setClash_keeps (s : State) :
    (setClash s).pending = s.pending ∧ (setClash s).wires = s.wires ∧ (setClash s).straps = s.straps
      ∧ (setClash s).pins = s.pins ∧ (setClash s).frontEnd = s.frontEnd ∧ (setClash s).sensors = s.sensors
      ∧ (setClash s).readings = s.readings ∧ (setClash s).peers = s.peers ∧ (setClash s).picture = s.picture
      ∧ (setClash s).store = s.store ∧ (setClash s).schedule = s.schedule ∧ (setClash s).climate = s.climate
      ∧ (setClash s).port = s.port ∧ (setClash s).freeIndex = s.freeIndex := by
  simp [setClash]

/-- `discardRun` changes no block but `bus`. -/
@[simp] theorem discardRun_keeps (s : State) :
    (discardRun s).pending = s.pending ∧ (discardRun s).wires = s.wires ∧ (discardRun s).straps = s.straps
      ∧ (discardRun s).pins = s.pins ∧ (discardRun s).frontEnd = s.frontEnd ∧ (discardRun s).sensors = s.sensors
      ∧ (discardRun s).readings = s.readings ∧ (discardRun s).peers = s.peers
      ∧ (discardRun s).picture = s.picture ∧ (discardRun s).store = s.store
      ∧ (discardRun s).schedule = s.schedule ∧ (discardRun s).climate = s.climate
      ∧ (discardRun s).attention = s.attention ∧ (discardRun s).trace = s.trace ∧ (discardRun s).port = s.port
      ∧ (discardRun s).freeIndex = s.freeIndex := by
  unfold discardRun; split <;> simp

/-- `takeRun .report ownReport` changes no block but `schedule`, `climate`, `trace`, `attention`, `store`, `bus`, `frontEnd`, `peers`. -/
@[simp] theorem takeRun_ownReport_keeps (run : List LineByte) (s : State) :
    (takeRun .report ownReport run s).pending = s.pending ∧ (takeRun .report ownReport run s).wires = s.wires
      ∧ (takeRun .report ownReport run s).straps = s.straps ∧ (takeRun .report ownReport run s).pins = s.pins
      ∧ (takeRun .report ownReport run s).sensors = s.sensors
      ∧ (takeRun .report ownReport run s).readings = s.readings
      ∧ (takeRun .report ownReport run s).picture = s.picture ∧ (takeRun .report ownReport run s).port = s.port
      ∧ (takeRun .report ownReport run s).freeIndex = s.freeIndex := by
  unfold takeRun takeMeanwhile; repeat (first | split | simp)

/-- `takeRun .offer ownOffer` changes no block but `store`, `bus`, `trace`, `attention`. -/
@[simp] theorem takeRun_ownOffer_keeps (run : List LineByte) (s : State) :
    (takeRun .offer ownOffer run s).pending = s.pending ∧ (takeRun .offer ownOffer run s).wires = s.wires
      ∧ (takeRun .offer ownOffer run s).straps = s.straps ∧ (takeRun .offer ownOffer run s).pins = s.pins
      ∧ (takeRun .offer ownOffer run s).frontEnd = s.frontEnd
      ∧ (takeRun .offer ownOffer run s).sensors = s.sensors
      ∧ (takeRun .offer ownOffer run s).readings = s.readings ∧ (takeRun .offer ownOffer run s).peers = s.peers
      ∧ (takeRun .offer ownOffer run s).picture = s.picture
      ∧ (takeRun .offer ownOffer run s).schedule = s.schedule
      ∧ (takeRun .offer ownOffer run s).climate = s.climate ∧ (takeRun .offer ownOffer run s).port = s.port
      ∧ (takeRun .offer ownOffer run s).freeIndex = s.freeIndex := by
  unfold takeRun takeMeanwhile; repeat (first | split | simp)

/-- `takeRun .safe ownSafeFrame` changes no block but `schedule`, `climate`, `trace`, `attention`, `bus`. -/
@[simp] theorem takeRun_ownSafeFrame_keeps (run : List LineByte) (s : State) :
    (takeRun .safe ownSafeFrame run s).pending = s.pending ∧ (takeRun .safe ownSafeFrame run s).wires = s.wires
      ∧ (takeRun .safe ownSafeFrame run s).straps = s.straps ∧ (takeRun .safe ownSafeFrame run s).pins = s.pins
      ∧ (takeRun .safe ownSafeFrame run s).frontEnd = s.frontEnd
      ∧ (takeRun .safe ownSafeFrame run s).sensors = s.sensors
      ∧ (takeRun .safe ownSafeFrame run s).readings = s.readings
      ∧ (takeRun .safe ownSafeFrame run s).peers = s.peers
      ∧ (takeRun .safe ownSafeFrame run s).picture = s.picture
      ∧ (takeRun .safe ownSafeFrame run s).store = s.store ∧ (takeRun .safe ownSafeFrame run s).port = s.port
      ∧ (takeRun .safe ownSafeFrame run s).freeIndex = s.freeIndex := by
  unfold takeRun takeMeanwhile; repeat (first | split | simp)

/-- `takeRun .directive ownAnyDirective` changes no block but `schedule`, `climate`, `trace`, `attention`, `store`, `bus`, `frontEnd`. -/
@[simp] theorem takeRun_ownAnyDirective_keeps (run : List LineByte) (s : State) :
    (takeRun .directive ownAnyDirective run s).pending = s.pending
      ∧ (takeRun .directive ownAnyDirective run s).wires = s.wires
      ∧ (takeRun .directive ownAnyDirective run s).straps = s.straps
      ∧ (takeRun .directive ownAnyDirective run s).pins = s.pins
      ∧ (takeRun .directive ownAnyDirective run s).sensors = s.sensors
      ∧ (takeRun .directive ownAnyDirective run s).readings = s.readings
      ∧ (takeRun .directive ownAnyDirective run s).peers = s.peers
      ∧ (takeRun .directive ownAnyDirective run s).picture = s.picture
      ∧ (takeRun .directive ownAnyDirective run s).port = s.port
      ∧ (takeRun .directive ownAnyDirective run s).freeIndex = s.freeIndex := by
  unfold takeRun takeMeanwhile; repeat (first | split | simp)

/-- `takeRun .directive (ownDirective d)` changes no block but `schedule`, `climate`, `trace`, `attention`, `store`, `bus`, `frontEnd`. -/
@[simp] theorem takeRun_ownDirective_keeps (d : DirectiveKind) (run : List LineByte) (s : State) :
    (takeRun .directive (ownDirective d) run s).pending = s.pending
      ∧ (takeRun .directive (ownDirective d) run s).wires = s.wires
      ∧ (takeRun .directive (ownDirective d) run s).straps = s.straps
      ∧ (takeRun .directive (ownDirective d) run s).pins = s.pins
      ∧ (takeRun .directive (ownDirective d) run s).sensors = s.sensors
      ∧ (takeRun .directive (ownDirective d) run s).readings = s.readings
      ∧ (takeRun .directive (ownDirective d) run s).peers = s.peers
      ∧ (takeRun .directive (ownDirective d) run s).picture = s.picture
      ∧ (takeRun .directive (ownDirective d) run s).port = s.port
      ∧ (takeRun .directive (ownDirective d) run s).freeIndex = s.freeIndex := by
  unfold takeRun takeMeanwhile; repeat (first | split | simp)

/-- `takeHeardRun` changes no block but `schedule`, `climate`, `trace`, `attention`, `store`, `bus`, `frontEnd`, `peers`. -/
@[simp] theorem takeHeardRun_keeps (run : List LineByte) (s : State) :
    (takeHeardRun run s).pending = s.pending ∧ (takeHeardRun run s).wires = s.wires
      ∧ (takeHeardRun run s).straps = s.straps ∧ (takeHeardRun run s).pins = s.pins
      ∧ (takeHeardRun run s).sensors = s.sensors ∧ (takeHeardRun run s).readings = s.readings
      ∧ (takeHeardRun run s).picture = s.picture ∧ (takeHeardRun run s).port = s.port
      ∧ (takeHeardRun run s).freeIndex = s.freeIndex := by
  unfold takeHeardRun; split <;> simp

end Sys2Proof.Machine
end

