-- ==== Sys2Proof/Laws/Attention.lean ====
section
/-! SUPPORT. What latching does: a condition latched stays latched with its stamp, the output and the level stay judged, the
ring stays within its bound. -/

-- One proof after another: in parallel they open more threads than the package's check allows.
set_option Elab.async false

namespace Sys2Proof.Machine

theorem Condition.index_inj {c d : Condition} : c.index = d.index ↔ c = d := by
  constructor
  · intro h; cases c <;> cases d <;> first | rfl | exact absurd h (by decide)
  · rintro rfl; rfl

theorem Condition.mem_all (c : Condition) : c ∈ Condition.all := by cases c <;> decide

/-- A stamp after a setting: the set one, or as before. -/
theorem Attention.stamp_setStamp (a : Attention) (c d : Condition) (t : Option Nat) :
    (a.setStamp c t).stamp d = if d = c then t else a.stamp d := by
  unfold Attention.stamp Attention.setStamp
  by_cases h : d = c
  · subst h; simp
  · have : c.index.val ≠ d.index.val := fun e => h (Condition.index_inj.1 (Fin.ext e)).symm
    simp [h, this]

@[simp] theorem Attention.stamp_judged (a : Attention) (d : Condition) : a.judged.stamp d = a.stamp d := rfl

@[simp] theorem Attention.latched_judged (a : Attention) (d : Condition) : a.judged.latched d = a.latched d := rfl

/-- What one latching leaves of every stamp (R158). -/
theorem Attention.stamp_latch (a : Attention) (c d : Condition) (m : Nat) :
    (a.latch c m).stamp d = if d = c ∧ a.stamp c = none then some m else a.stamp d := by
  unfold Attention.latch Attention.latched
  cases h : a.stamp c with
  | some t => simp
  | none => simp [Attention.stamp_setStamp]

/-- An attention unit whose output and level are as judged, with FATAL enabled (R161, R162, R163). -/
def Attention.Judged (a : Attention) : Prop :=
  a.mask.getLsbD 0 = true ∧ a.output = a.outputOf ∧ a.level = a.levelOf

theorem Attention.judged_judged (a : Attention) (h : a.mask.getLsbD 0 = true) : a.judged.Judged := ⟨h, rfl, rfl⟩

theorem Attention.Judged.latch {a : Attention} (h : a.Judged) (c : Condition) (m : Nat) : (a.latch c m).Judged := by
  unfold Attention.latch; split
  · exact h
  · exact Attention.judged_judged _ h.1

theorem Attention.mask_latch (a : Attention) (c : Condition) (m : Nat) : (a.latch c m).mask = a.mask := by
  unfold Attention.latch; split <;> rfl

/-! ## From one attention unit and ring to those after latchings and record writes -/

/-- The relation of every operation that only latches conditions and writes records: stamps stay, the mask stays, a judged
output stays judged, a bounded ring stays bounded. -/
structure Latches (s t : State) : Prop where
  stamps : ∀ c m, s.attention.stamp c = some m → t.attention.stamp c = some m
  mask : t.attention.mask = s.attention.mask
  judged : s.attention.Judged → t.attention.Judged
  ring : s.RingBounded → t.RingBounded

theorem Latches.refl (s : State) : Latches s s := ⟨fun _ _ h => h, rfl, id, id⟩

theorem Latches.trans {s t u : State} (h : Latches s t) (k : Latches t u) : Latches s u :=
  ⟨fun c m x => k.stamps c m (h.stamps c m x), k.mask.trans h.mask, k.judged ∘ h.judged, k.ring ∘ h.ring⟩

/-- States with one attention unit and one list of records. -/
theorem Latches.of_eq {s t : State} (ha : t.attention = s.attention) (ht : t.trace.records = s.trace.records) :
    Latches s t :=
  ⟨fun c m h => by rw [ha]; exact h, by rw [ha], fun h => by rw [ha]; exact h,
    fun h => by unfold State.RingBounded at *; rw [ht]; exact h⟩

theorem Latches.latched {s t : State} (h : Latches s t) {c : Condition} (hc : s.attention.latched c = true) :
    t.attention.latched c = true := by
  obtain ⟨m, hm⟩ := Option.isSome_iff_exists.1 hc
  exact Option.isSome_iff_exists.2 ⟨m, h.stamps c m hm⟩

theorem Attention.stamp_latch_keeps (a : Attention) (c d : Condition) (m n : Nat) (h : a.stamp d = some n) :
    (a.latch c m).stamp d = some n := by
  rw [Attention.stamp_latch]
  split
  · rename_i hh; rw [hh.1, hh.2] at h; exact absurd h (by simp)
  · exact h

theorem writeRecord_latches (r : TraceRecord) (s : State) : Latches s (writeRecord r s) := by
  unfold writeRecord
  split
  · rename_i h
    exact ⟨fun c m x => by simpa using x, by simp, by simp, fun _ => by
      simp only [State.RingBounded, State.setTrace_trace, List.length_append, List.length_singleton]; omega⟩
  · rename_i h
    refine ⟨fun c m x => ?_, by simp [Attention.mask_latch], fun x => ?_, fun hb => ?_⟩
    · simpa using Attention.stamp_latch_keeps _ _ _ _ _ x
    · simpa using x.latch _ _
    · unfold State.RingBounded at hb
      have hp : 1 ≤ ringSize := by decide
      simp only [State.RingBounded, State.setAttention_trace, State.setTrace_trace, List.length_append,
        List.length_singleton, List.length_tail]
      omega

theorem writeTrace_latches (k : TraceKind) (s : State) : Latches s (writeTrace k s) := writeRecord_latches _ _

theorem latch_latches (c : Condition) (s : State) : Latches s (latch c s) := by
  unfold latch
  split
  · exact Latches.refl s
  · have h : Latches s (s.setAttention (s.attention.latch c s.schedule.minute)) :=
      ⟨fun d m x => by simpa using Attention.stamp_latch_keeps _ _ _ _ _ x, by simp [Attention.mask_latch],
        fun x => by simpa using x.latch _ _, id⟩
    dsimp only
    split
    · exact h
    · exact h.trans (writeTrace_latches _ _)

/-- A latching leaves its condition latched (R158). -/
theorem latch_latched (c : Condition) (s : State) : (latch c s).attention.latched c = true := by
  unfold latch
  split
  · assumption
  · have h : (s.setAttention (s.attention.latch c s.schedule.minute)).attention.latched c = true := by
      simp only [State.setAttention_attention, Attention.latched, Attention.stamp_latch]
      cases s.attention.stamp c <;> simp
    dsimp only
    split
    · exact h
    · exact (writeTrace_latches _ _).latched h

theorem foldl_latch_latches (cs : List Condition) (s : State) : Latches s (cs.foldl (fun s c => latch c s) s) :=
  foldl_latch_induct Latches Latches.refl (fun s c _ h => (latch_latches c s).trans h) cs s

theorem latchAll_latches (cs : List Condition) (s : State) : Latches s (latchAll cs s) := foldl_latch_latches _ s

theorem foldl_latch_latched (cs : List Condition) (s : State) (c : Condition) (h : c ∈ cs) :
    (cs.foldl (fun s c => latch c s) s).attention.latched c = true := by
  induction cs generalizing s with
  | nil => cases h
  | cons d ds ih =>
    simp only [List.foldl_cons]
    rcases List.mem_cons.1 h with rfl | h
    · exact (foldl_latch_latches ds _).latched (latch_latched _ _)
    · exact ih _ h

/-- Every condition of an event is latched (R159). -/
theorem latchAll_latched (cs : List Condition) (s : State) (c : Condition) (h : c ∈ cs) :
    (latchAll cs s).attention.latched c = true :=
  foldl_latch_latched _ _ _ (by simpa using ⟨Condition.mem_all c, h⟩)

@[simp] theorem latchAll_nil (s : State) : latchAll [] s = s := by simp [latchAll]

/-- The record written is in the ring, at its new end (R167). -/
theorem writeRecord_getLast (r : TraceRecord) (s : State) : (writeRecord r s).trace.records.getLast? = some r := by
  unfold writeRecord; split <;> simp

theorem writeTrace_getLast (k : TraceKind) (s : State) :
    (writeTrace k s).trace.records.getLast? = some (s.traceRecord k) := writeRecord_getLast _ _

end Sys2Proof.Machine
end

