-- ==== Sys2Proof/Laws/Line.lean ====
section
/-! SUPPORT. What one bit time of the kiln bus line can do, and how long bytes and frames are on it. -/

set_option Elab.async false

namespace Sys2Proof.Machine

theorem Level.wired_comm (a b : Level) : a.wired b = b.wired a := by cases a <;> cases b <;> rfl

theorem Level.wired_eq_dominant (a b : Level) : a.wired b = .dominant ↔ a = .dominant ∨ b = .dominant := by
  cases a <;> cases b <;> decide

@[simp] theorem Level.wired_recessive_left (l : Level) : Level.recessive.wired l = l := rfl

@[simp] theorem Level.bit_ofBit (b : Bool) : (Level.ofBit b).bit = b := by cases b <;> rfl

theorem byteLevels_length (b : Byte) : (byteLevels b).length = byteTime := rfl

theorem frameLevels_length (bytes : List Byte) : (frameLevels bytes).length = busBits bytes := by
  induction bytes with
  | nil => rfl
  | cons b bs ih =>
    have h : (frameLevels (b :: bs)).length = (byteLevels b).length + (frameLevels bs).length := by
      simp [frameLevels]
    rw [h, ih, byteLevels_length]
    simp [busBits, Nat.mul_add, Nat.add_comm]

/-- One bit time on the line, said once: outside a byte only the count, a start bit's fields and the last level can change;
within a byte the byte's progress, the run's bytes and the attempt's release. -/
theorem Bus.lineTick_cases (b : Bus) (others : Level) :
    (b.byteBits = 0 ∧ b.lineTick others = b.between (b.drives.wired others))
      ∨ (b.byteBits ≠ 0
        ∧ b.lineTick others =
          { b.sampled (b.drives.wired others) with
            attempt := b.attempt.map fun a => a.readBack b.drives (b.drives.wired others) }) := by
  unfold Bus.lineTick
  by_cases h : b.byteBits = 0
  · exact .inl ⟨h, by simp [h]⟩
  · exact .inr ⟨h, by simp [h]⟩

theorem Bus.between_slots (b : Bus) (l : Level) : (b.between l).slots = b.slots := by
  unfold Bus.between; split <;> rfl

theorem Bus.between_clash (b : Bus) (l : Level) : (b.between l).clash = b.clash := by
  unfold Bus.between; split <;> rfl

theorem Bus.between_attempt (b : Bus) (l : Level) : (b.between l).attempt = b.attempt := by
  unfold Bus.between; split <;> rfl

theorem Bus.between_blockedTimer (b : Bus) (l : Level) : (b.between l).blockedTimer = b.blockedTimer := by
  unfold Bus.between; split <;> rfl

theorem Bus.sampled_slots (b : Bus) (l : Level) : (b.sampled l).slots = b.slots := by
  unfold Bus.sampled; split <;> [skip; split] <;> rfl

theorem Bus.sampled_clash (b : Bus) (l : Level) : (b.sampled l).clash = b.clash := by
  unfold Bus.sampled; split <;> [skip; split] <;> rfl

theorem Bus.sampled_blockedTimer (b : Bus) (l : Level) : (b.sampled l).blockedTimer = b.blockedTimer := by
  unfold Bus.sampled; split <;> [skip; split] <;> rfl

@[simp] theorem Bus.lineTick_slots (b : Bus) (others : Level) : (b.lineTick others).slots = b.slots := by
  obtain ⟨-, h⟩ | ⟨-, h⟩ := b.lineTick_cases others <;> rw [h]
  · exact b.between_slots _
  · exact b.sampled_slots _

@[simp] theorem Bus.lineTick_clash (b : Bus) (others : Level) : (b.lineTick others).clash = b.clash := by
  obtain ⟨-, h⟩ | ⟨-, h⟩ := b.lineTick_cases others <;> rw [h]
  · exact b.between_clash _
  · exact b.sampled_clash _

@[simp] theorem Bus.lineTick_blockedTimer (b : Bus) (others : Level) :
    (b.lineTick others).blockedTimer = b.blockedTimer := by
  obtain ⟨-, h⟩ | ⟨-, h⟩ := b.lineTick_cases others <;> rw [h]
  · exact b.between_blockedTimer _
  · exact b.sampled_blockedTimer _

/-- A bit time neither begins nor ends an attempt. -/
@[simp] theorem Bus.lineTick_attempt_isSome (b : Bus) (others : Level) :
    (b.lineTick others).attempt.isSome = b.attempt.isSome := by
  obtain ⟨-, h⟩ | ⟨-, h⟩ := b.lineTick_cases others <;> rw [h]
  · rw [b.between_attempt]
  · simp

/-! ## The slots and the line-blocked timer (R54) -/

/-- A slot is eligible exactly when one of the four kinds' is. -/
theorem anyEligible_iff (sl : Slots) : sl.anyEligible = true ↔ ∃ k, sl.eligible k = true := by
  simp only [Slots.anyEligible, List.any_eq_true]
  exact ⟨fun ⟨k, _, h⟩ => ⟨k, h⟩, fun ⟨k, h⟩ => ⟨k, by cases k <;> decide, h⟩⟩

@[simp] theorem withSlots_slots (b : Bus) (sl : Slots) : (b.withSlots sl).slots = sl := rfl
@[simp] theorem withSlots_clash (b : Bus) (sl : Slots) : (b.withSlots sl).clash = b.clash := rfl
@[simp] theorem withSlots_attempt (b : Bus) (sl : Slots) : (b.withSlots sl).attempt = b.attempt := rfl

/-- After a change of the slots the line-blocked timer runs only where one is eligible (R54). -/
theorem withSlots_timed (b : Bus) (sl : Slots) (h : (b.withSlots sl).blockedTimer ≠ 0) : sl.anyEligible = true := by
  cases hs : sl.anyEligible
  · simp [Bus.withSlots, hs] at h
  · rfl

/-- The line-blocked timer of a bus controller runs only while a slot is eligible (R54). -/
def Bus.Timed (b : Bus) : Prop := b.blockedTimer ≠ 0 → b.slots.anyEligible = true

theorem timed_iff (s : State) : s.BlockedTimed ↔ s.bus.Timed := by
  unfold State.BlockedTimed Bus.Timed; rw [anyEligible_iff]

theorem setSafeSlot_timed {b : Bus} (h : b.Timed) : b.setSafeSlot.Timed := by
  unfold Bus.setSafeSlot; split
  · exact h
  · exact withSlots_timed _ _

theorem setReportSlot_timed {b : Bus} (h : b.Timed) : b.setReportSlot.Timed := by
  unfold Bus.setReportSlot; split
  · exact h
  · exact withSlots_timed _ _

theorem setOfferSlot_timed {b : Bus} (h : b.Timed) (r : Rank) : (b.setOfferSlot r).Timed := by
  unfold Bus.setOfferSlot; split
  · exact h
  · exact withSlots_timed _ _

theorem setDirectiveSlot_timed {b : Bus} (h : b.Timed) (d : DirectiveSlot) : (b.setDirectiveSlot d).Timed := by
  unfold Bus.setDirectiveSlot; split
  · exact h
  · exact withSlots_timed _ _

theorem emptyOffer_timed {b : Bus} (h : b.Timed) (r : Rank) : (b.emptyOffer r).Timed := by
  unfold Bus.emptyOffer; split
  · split
    · exact withSlots_timed _ _
    · exact h
  · exact h

theorem turnOffer_timed {b : Bus} (h : b.Timed) : b.turnOffer.Timed := by
  intro hb
  have : b.turnOffer.slots.anyEligible = b.slots.anyEligible := by
    simp [Bus.turnOffer, Slots.anyEligible, FrameKind.all, Slots.eligible, Slots.failedOf]
  rw [this]; exact h hb

end Sys2Proof.Machine
end

