-- ==== Sys2Proof/Laws/Operations.lean ====
section
/-! SUPPORT. What each shared operation can do to the conditions and the ring, and what an entry and a change of mode do to the
schedule controller: said once, for later proofs to cite. -/

-- One proof after another: in parallel they open more threads than the package's check allows.
set_option Elab.async false

namespace Sys2Proof.Machine

/-! ## The climate controller's parts leave the attention unit and the ring alone -/

theorem setClimate_latches (s : State) (c : Climate) : Latches s (s.setClimate c) := Latches.of_eq rfl rfl

theorem setSchedule_latches (s : State) (c : Schedule) : Latches s (s.setSchedule c) := Latches.of_eq rfl rfl

theorem setBus_latches (s : State) (b : Bus) : Latches s (s.setBus b) := Latches.of_eq rfl rfl

theorem climatePeriod_latches (s : State) : Latches s (climatePeriod s) := Latches.of_eq (by simp) (by simp)

theorem judgeDeviation_latches (s : State) : Latches s (judgeDeviation s) := by
  unfold judgeDeviation
  split
  · dsimp only
    split
    · split
      · exact (setClimate_latches s _).trans (latch_latches _ _)
      · exact setClimate_latches s _
    · exact setClimate_latches s _
  · exact setClimate_latches s _

/-! ## Entries (R108) -/

/-- What an entry does: the schedule controller as TABLE 7-2 has it, the conditions of its event and STEP ADVANCED or PHASE
ENTERED latched, and nothing unlatched. -/
theorem enterPosition_latches (p : Position) (k : Cause) (cs : List Condition) (s : State) :
    Latches s (enterPosition p k cs s) := by
  unfold enterPosition
  dsimp only
  refine Latches.trans (Latches.of_eq ?_ ?_) ((writeTrace_latches _ _).trans (latchAll_latches _ _)) <;> simp

@[simp] theorem enterPosition_schedule (p : Position) (k : Cause) (cs : List Condition) (s : State) :
    (enterPosition p k cs s).schedule = entrySchedule s.currentRecord p s.schedule := by simp [enterPosition]

theorem enterPosition_latched (p : Position) (k : Cause) (cs : List Condition) (s : State) :
    (∀ c ∈ cs, (enterPosition p k cs s).attention.latched c = true)
      ∧ (enterPosition p k cs s).attention.latched
          (if withinDrying s.schedule.position p then .stepAdvanced else .phaseEntered) = true :=
  ⟨fun _ h => latchAll_latched _ _ _ (List.mem_append_left _ h),
    latchAll_latched _ _ _ (List.mem_append_right _ (List.mem_singleton.2 rfl))⟩

theorem testWarmup_latches (s : State) : Latches s (testWarmup s) := by
  unfold testWarmup; split
  · exact enterPosition_latches _ _ _ _
  · exact Latches.refl _

theorem testCool_latches (s : State) : Latches s (testCool s) := by
  unfold testCool; split
  · exact enterPosition_latches _ _ _ _
  · exact Latches.refl _

theorem testGather_latches (s : State) : Latches s (testGather s) := by
  unfold testGather; split
  · exact (enterPosition_latches _ _ _ _).trans (testWarmup_latches _)
  · exact Latches.refl _

theorem testCondition_latches (s : State) : Latches s (testCondition s) := by
  unfold testCondition; split
  · exact (enterPosition_latches _ _ _ _).trans (testCool_latches _)
  · exact Latches.refl _

theorem exitsAtOnce_latches (s : State) : Latches s (exitsAtOnce s) := by
  unfold exitsAtOnce
  split
  · exact testGather_latches _
  · exact testWarmup_latches _
  · exact testCondition_latches _
  · exact testCool_latches _
  all_goals exact Latches.refl _

theorem enter_latches (p : Position) (k : Cause) (s : State) : Latches s (enter p k s) :=
  (enterPosition_latches p k [] s).trans (exitsAtOnce_latches _)

theorem enter_latched (p : Position) (k : Cause) (s : State) :
    (enter p k s).attention.latched
      (if withinDrying s.schedule.position p then .stepAdvanced else .phaseEntered) = true :=
  (exitsAtOnce_latches _).latched (enterPosition_latched p k [] s).2

/-- An entry to a step of DRYING, to EQUALIZE or to COMPLETE tests nothing at once (TABLE 7-2). -/
theorem enter_stays {p : Position} (h : (∃ k, p = .drying k) ∨ p = .equalize ∨ p = .complete) (k : Cause)
    (s : State) : enter p k s = enterPosition p k [] s := by
  have hp : (enterPosition p k [] s).schedule.position = p := by simp [entrySchedule]
  unfold enter exitsAtOnce
  rw [hp]
  rcases h with ⟨j, rfl⟩ | rfl | rfl <;> rfl

/-! ## Changes of mode (R130, R136) -/

theorem changeMode_latches (m : Mode) (cs : List Condition) (s : State) : Latches s (changeMode m cs s) := by
  unfold changeMode
  refine Latches.trans (Latches.of_eq ?_ ?_) ((writeTrace_latches _ _).trans (latchAll_latches _ _)) <;> simp

@[simp] theorem changeMode_schedule (m : Mode) (cs : List Condition) (s : State) :
    (changeMode m cs s).schedule = { s.schedule with mode := m } := by simp [changeMode]

theorem changeMode_latched (m : Mode) (cs : List Condition) (s : State) :
    ∀ c ∈ cs, (changeMode m cs s).attention.latched c = true := fun _ h => latchAll_latched _ _ _ h

/-- The climate controller after a change of mode: the regime of the mode and the position (R146). -/
theorem changeMode_regime (m : Mode) (cs : List Condition) (s : State) :
    (changeMode m cs s).climate.regime = regimeOf m s.schedule.position := by
  simp only [changeMode, latchAll_keeps, writeTrace_keeps, climateMode]
  unfold judgeRegime
  dsimp only
  split <;> simp

theorem enterSafe_latches (o : SafeOrigin) (cs : List Condition) (s : State) : Latches s (enterSafe o cs s) := by
  unfold enterSafe; split
  · exact latchAll_latches _ _
  · exact (setSchedule_latches s _).trans (changeMode_latches _ _ _)

/-! ## Promotion and ABORT (R101, R132) -/

theorem promote_latches (k : Cause) (s : State) : Latches s (promote k s) := by
  unfold promote
  refine Latches.trans (Latches.of_eq ?_ ?_) (enter_latches _ _ _)
  · simp
  · simp [promoteTimers]

theorem abortCharge_latches (s : State) : Latches s (abortCharge s) := by
  unfold abortCharge
  dsimp only
  refine Latches.trans (Latches.of_eq ?_ ?_) (writeRecord_latches _ _) <;> simp

/-! ## Pictures, reports, directives -/

theorem judgeDrying_latches (r : ChargeRecord) (p : Picture) (k : Nat) (s : State) :
    Latches s (judgeDrying r p k s) := by
  unfold judgeDrying
  repeat' first | split | exact enter_latches _ _ _ | exact Latches.refl _

theorem judgePicture_latches (s : State) : Latches s (judgePicture s) := by
  unfold judgePicture
  repeat' first | split | exact judgeDrying_latches _ _ _ _ | exact enter_latches _ _ _ | exact Latches.refl _

theorem followReport_latches (n : Nat) (d : ReportData) (s : State) : Latches s (followReport n d s) := by
  unfold followReport; split
  · exact enter_latches _ _ _
  · exact Latches.refl _

theorem acceptReport_latches (n : Nat) (d : ReportData) (s : State) : Latches s (acceptReport n d s) := by
  unfold acceptReport showSchedule
  refine Latches.trans ?_ ((testGather_latches _).trans (followReport_latches _ _ _))
  refine Latches.trans (t := reoffer n d (latchAll (reportConditions s.store.current n d) (writeEntry n d s))) ?_ ?_
  · have h : Latches s (writeEntry n d s) := Latches.of_eq rfl rfl
    exact (h.trans (latchAll_latches (reportConditions s.store.current n d) _)).trans
      (Latches.of_eq (by simp) (by simp))
  · unfold lateJoin; split
    · exact promote_latches _ _
    · exact Latches.refl _

theorem storeStart_latches (n k : Nat) (s : State) : Latches s (storeStart n k s) := by
  unfold storeStart
  repeat' first | split | exact promote_latches _ _ | exact latch_latches _ _ | exact Latches.refl _

theorem applyDirective_latches (k : DirectiveKind) (p : Option Position) (s : State) :
    Latches s (applyDirective k p s) := by
  cases k <;> simp only [applyDirective, applyHold, applyResume, applySkip, applyResetSafe]
  case start => exact Latches.refl _
  case abort => exact abortCharge_latches _
  case resume =>
    split
    · exact (changeMode_latches _ _ _).trans (exitsAtOnce_latches _)
    · exact Latches.refl _
  all_goals
    repeat' first
      | split | exact changeMode_latches _ _ _ | exact enter_latches _ _ _ | exact Latches.refl _

theorem judgeDirective_latches (k : DirectiveKind) (n m : Nat) (p : Option Position) (s : State) :
    Latches s (judgeDirective k n m p s) := by
  unfold judgeDirective
  repeat' first
    | split | exact storeStart_latches _ _ _ | exact applyDirective_latches _ _ _ | exact latch_latches _ _
    | exact Latches.refl _

theorem ownDirective_latches (k : DirectiveKind) (f : Frame) (s : State) : Latches s (ownDirective k f s) := by
  unfold ownDirective; split
  · exact judgeDirective_latches _ _ _ _ _
  · exact Latches.refl _

theorem ownAnyDirective_latches (f : Frame) (s : State) : Latches s (ownAnyDirective f s) := by
  unfold ownAnyDirective; split
  · exact ownDirective_latches _ _ _
  · exact Latches.refl _

/-! ## Runs taken (R43 to R45) -/

theorem ownReport_latches (f : Frame) (s : State) : Latches s (ownReport f s) := by
  unfold ownReport
  repeat' first | split | exact acceptReport_latches _ _ _ | exact Latches.refl _

theorem cancelOnHearing_latches (f : Frame) (s : State) : Latches s (cancelOnHearing f s) :=
  Latches.of_eq (by simp) (by simp)

theorem ownOffer_latches (f : Frame) (s : State) : Latches s (ownOffer f s) := by
  unfold ownOffer stageOffer
  refine (cancelOnHearing_latches f s).trans ?_
  dsimp only
  repeat' first
    | split | exact latch_latches _ _ | exact Latches.refl _ | exact Latches.of_eq rfl rfl

theorem ownSafeFrame_latches (f : Frame) (s : State) : Latches s (ownSafeFrame f s) := enterSafe_latches _ _ _

theorem setClash_latches (s : State) : Latches s (setClash s) := (setBus_latches s _).trans (latch_latches _ _)

theorem endRun_latches (s : State) : Latches s (endRun s) := setBus_latches s _

/-- Nor does a frame taken while an own attempt runs. -/
theorem takeMeanwhile_latches (k : FrameKind) (owner : Frame → State → State) (run : List LineByte) (s : State)
    (h : ∀ f t, Latches t (owner f t)) : Latches s (takeMeanwhile k owner run s) := by
  unfold takeMeanwhile
  split
  · exact Latches.refl _
  · split
    · exact Latches.refl _
    · exact h _ _

/-- Taking a run unlatches nothing where its owner does not. -/
theorem takeRun_latches (k : FrameKind) (owner : Frame → State → State) (run : List LineByte) (s : State)
    (h : ∀ f t, Latches t (owner f t)) : Latches s (takeRun k owner run s) := by
  unfold takeRun
  split
  · split
    · exact endRun_latches s
    · refine Latches.trans ?_ (h _ _)
      split
      · exact (endRun_latches s).trans (setClash_latches _)
      · exact endRun_latches s
  · split
    · exact takeMeanwhile_latches k owner run s h
    · exact Latches.refl _

theorem takeHeardRun_latches (run : List LineByte) (s : State) : Latches s (takeHeardRun run s) := by
  unfold takeHeardRun discardRun
  repeat' first
    | split | exact takeRun_latches _ _ _ _ ownReport_latches | exact takeRun_latches _ _ _ _ ownOffer_latches
    | exact takeRun_latches _ _ _ _ ownSafeFrame_latches | exact takeRun_latches _ _ _ _ ownAnyDirective_latches
    | exact endRun_latches _ | exact Latches.refl _

end Sys2Proof.Machine
end

