-- ==== Sys2Proof/Laws/Peers.lean ====
section
/-! SUPPORT. The peer table's entries, and the run that the receiver hands to an owner. -/

namespace Sys2Proof.Machine

/-- An entry after a setting: the set one, or as before (R60). -/
theorem setEntry_entry (p : PeerTable) (n m : Nat) (e : Option HeldEntry) :
    (p.setEntry n e).entry m = if m = n ∧ 1 ≤ n ∧ n ≤ 32 then e else p.entry m := by
  unfold PeerTable.setEntry PeerTable.entry
  by_cases h : 1 ≤ n ∧ n ≤ 32
  · simp only [h, dite_true, and_true]
    by_cases hm : m = n
    · subst hm; simp [h]
    · simp only [hm, if_false]
      by_cases h2 : 1 ≤ m ∧ m ≤ 32
      · simp only [h2, and_self, dite_true, Vector.getElem_set]
        rw [if_neg (by omega)]
      · simp [h2]
  · simp [h]

@[simp] theorem setEntry_reportTimer (p : PeerTable) (n : Nat) (e : Option HeldEntry) :
    (p.setEntry n e).reportTimer = p.reportTimer := by unfold PeerTable.setEntry; split <;> rfl

/-- A frame heard is handed to its owner, and sets no address clash (R44, R45). -/
theorem hears_heardFrame {s : State} {k : FrameKind} {run : List LineByte} {f : Frame} (h : s.Hears k run f) :
    s.bus.runEnds = true ∧ s.heardFrame k run = some f ∧ s.clashes f = false := by
  obtain ⟨ho, ha, h1, h2, h3, h4, h5⟩ := h
  exact ⟨by simp [Bus.runEnds, ho, ha], by simp [State.heardFrame, h1, h2, h3, State.isOwnRun, h4],
    by
      by_cases hs : f.station = s.straps.station
      · simp [State.clashes, (h5 hs).1]
      · simp [State.clashes, hs]⟩

/-- What a run does whose frame is heard (R44): its owner takes it, once the run is over. -/
theorem takeRun_of_hears {s : State} {k : FrameKind} {run : List LineByte} {f : Frame} (h : s.Hears k run f)
    (owner : Frame → State → State) : takeRun k owner run s = owner f (endRun s) := by
  obtain ⟨ho, hf, hc⟩ := hears_heardFrame h
  simp [takeRun, ho, hf, hc]

/-- A REPORT that is heard is another station's (R62). -/
theorem hears_report_other {s : State} {run : List LineByte} {f : Frame} (h : s.Hears .report run f) :
    f.station ≠ s.straps.station := by
  obtain ⟨_, _, _, _, _, _, h5⟩ := h
  exact fun hs => (h5 hs).2 rfl

/-- A run whose frame is not handed to an owner ends, where a run can end, and does nothing else (R43, R44). -/
theorem takeRun_of_none {s : State} {k : FrameKind} {run : List LineByte} (h : s.heardFrame k run = none)
    (owner : Frame → State → State) : takeRun k owner run s = discardRun s := by
  simp [takeRun, takeMeanwhile, discardRun, h]

/-- While an own attempt runs, another station's frame goes to its owner with the line as it is (R105). -/
theorem takeRun_of_attempt {s : State} {k : FrameKind} {run : List LineByte} {f : Frame} (ho : s.bus.runOpen = true)
    (ha : s.bus.attempt ≠ none) (hf : s.heardFrame k run = some f) (hs : f.station ≠ s.straps.station)
    (owner : Frame → State → State) : takeRun k owner run s = owner f s := by
  obtain ⟨a, ha⟩ := Option.ne_none_iff_exists'.mp ha
  simp [takeRun, takeMeanwhile, Bus.runEnds, ho, ha, hf, hs]

/-- A run that never began is not taken (R43). -/
theorem takeRun_of_closed {s : State} (h : s.bus.runOpen = false) (k : FrameKind) (owner : Frame → State → State)
    (run : List LineByte) : takeRun k owner run s = s := by
  simp [takeRun, Bus.runEnds, h]

/-- A well-formed frame's station number is one of the table's (R43). -/
theorem judgeRun_station {run : List LineByte} {f : Frame} (h : judgeRun run = some f) :
    1 ≤ f.station ∧ f.station ≤ 32 := by
  unfold judgeRun at h
  dsimp only at h
  repeat' split at h
  all_goals first
    | (injection h with h; subst h; dsimp only; omega)
    | cases h

end Sys2Proof.Machine
end

