-- ==== Sys2Proof/Tests/Slice0.lean ====
section
/-! SUPPORT. Small tests against the manual's own worked examples, and for each statement with hypotheses a theorem that
shows concrete states and operands meeting all of them. -/

-- One proof after another: in parallel they open more threads than the package's check allows.
set_option Elab.async false

namespace Sys2Proof.Tests

open Sys2Proof Sys2Proof.Machine

/-! ## States and runs to test on -/

/-- The state an event answers, none for a refusal. -/
def ran (c : Instr) (s : State) : Option State :=
  match exec c s with
  | .next t => some t
  | _ => none

/-- The two steps of a short schedule. -/
def sampleSteps : List ScheduleStep :=
  [{ advanceMc := 200, dryBulb := 550, depression := 80, basis := .minutes, hold := 60, maximum := 100 },
   { advanceMc := 140, dryBulb := 600, depression := 120, basis := .reversals, hold := 4, maximum := 0 }]

/-- The record of charge 417 of chapters 5 and 9, with a short schedule: stations 3, 7 and 12, quorum 5. -/
def sampleRecord : ChargeRecord where
  chargeNumber := 417
  chargeCode := 9
  roster := 0x00000844#32
  quorum := 5
  masks := Vector.ofFn fun i => if i.val = 2 then 0x03 else if i.val = 6 then 0x19 else if i.val = 11 then 0x26 else 0
  tempCoeff := 80
  sweepInterval := 60
  traceInterval := 30
  warmBand := 20
  rampRate := 10
  kp := 120
  ki := 8
  kv := 50
  ks := 40
  deadBand := 10
  deviationBand := 50
  deviationTime := 20
  settleWindow := 60
  safeVent := 800
  finalTarget := 80
  equalizeOffset := 20
  equalizeDepression := 60
  equalizeMaximum := 100
  conditionDepression := 20
  conditionTime := 60
  coolEnd := 300
  curve := [⟨560, 600⟩, ⟨800, 200⟩, ⟨1160, 60⟩]
  steps := sampleSteps

/-- The record with its check. -/
def sampleRanked : RankedRecord := { record := sampleRecord, check := 0x5C3E }

/-- Station 7 of kiln 2 as a ZONE station in DRYING(step 1), in RUN, with both sensors valid and a run in progress on the line. -/
def zone : State :=
  { State.reset with
    straps := { station := 7, kiln := 2, role := .zone }
    bus := { State.reset.bus with runOpen := true }
    store := { staged := none, current := some sampleRanked, holdoff := 0 }
    schedule := { State.reset.schedule with position := .drying 1, overtime := 5 }
    sensors :=
      { controlTimer := 76800
        dry := { state := .valid, lastValid := some 632, holdTimer := 0 }
        wet := { state := .valid, lastValid := some 596, holdTimer := 0 } }
    climate :=
      { State.reset.climate with
        targetDry := some 550, targetDep := some 80, spActive := some 650, activeDep := some 80, regime := .loops
        integral := 300, heat := 512 } }

/-- `zone` in another position. -/
def zoneAt (p : Position) : State := zone.setSchedule { zone.schedule with position := p }

/-- `zone` in another mode. -/
def zoneIn (m : Mode) : State := zone.setSchedule { zone.schedule with mode := m }

/-- `zone` in IDLE and a mode, with no record. -/
def emptyIn (m : Mode) : State :=
  (zone.setSchedule { zone.schedule with position := .idle, mode := m }).setStore
    { staged := none, current := none, holdoff := 0 }

/-- A state with the dry-bulb at a value. -/
def dryAt (t : Int) (s : State) : State :=
  s.setSensors { s.sensors with dry := { s.sensors.dry with lastValid := some t } }

/-- A station with a sweep in progress. -/
def sweeping (k : SweepState) (samples : List Nat) (s : State) : State :=
  s.setFrontEnd { s.frontEnd with sweep := k, samples := samples }

/-- A PROBE station after a calibration sweep's last window. -/
def calibrating (samples : List Nat) : State := sweeping .calSweep samples State.reset

/-- A run of bytes as a station sends a frame. -/
def runOf (f : Frame) : List LineByte := (frameBytes f).map lineByte

/-- A report of station 3 in a position. -/
def reportAt (p : Position) : ReportData where
  role := .probe
  charge := 417
  check := 0x5C3E
  position := p
  mode := .run
  basis := 5
  controlling := some 139
  dryBulb := some 548
  readings :=
    [{ channel := 1, mc := some 113, flags := ReadingFlags.none }, { channel := 2, mc := some 142, flags := ReadingFlags.none }]

/-- A report of charge 418 of station 3. -/
def strayReport : ReportData := { reportAt .cool with charge := 418 }

/-- A frame of station 3 of kiln 2 under charge 417. -/
def frameFrom (k : FrameKind) (payload : List Byte) : Frame :=
  { kind := k.code, kiln := 2, station := 3, charge := 417, payload := payload }

/-- A directive of station 3 for charge 417, code 9. -/
def directiveFrame (k : DirectiveKind) (phase step : Byte) : Frame :=
  frameFrom .directive ([byteOf k.code] ++ be16 9 ++ [phase, step])

/-- A state with the bus changed. -/
def withBus (f : Bus → Bus) (s : State) : State := s.setBus (f s.bus)

/-- A set DIRECTIVE slot with transmissions remaining. -/
def directiveSlot (remaining : Nat) : DirectiveSlot :=
  { kind := .hold, charge := 417, code := 9, targetPhase := 0, targetStep := 0, remaining := remaining, failed := 0 }

/-- All four slots set. -/
def fullSlots : Slots :=
  { safe := some 0, directive := some (directiveSlot 3), spacing := 0
    offer := some { rank := .current, failed := 0 }, report := some 2 }

/-! ## Well-formed operands -/

theorem test_powerOn_station_0_refused : exec (.powerOn 0 0 .probe false false) State.reset = .refused .noSuchSetting := rfl
theorem test_powerOn_station_33_refused :
    Instr.wellFormed (.powerOn 33 0 .probe false false) = false
      ∧ exec (.powerOn 33 0 .probe false false) State.reset = .refused .noSuchSetting := ⟨rfl, rfl⟩
theorem test_powerOn_kiln_16_refused :
    Instr.wellFormed (.powerOn 1 16 .zone true true) = false
      ∧ exec (.powerOn 1 16 .zone true true) State.reset = .refused .noSuchSetting := ⟨rfl, rfl⟩
theorem test_peerEntryStale_33_refused :
    Instr.wellFormed (.peerEntryStale 33) = false ∧ exec (.peerEntryStale 33) zone = .refused .noSuchEntry := ⟨rfl, rfl⟩
theorem test_peerEntryEmptied_0_refused :
    Instr.wellFormed (.peerEntryEmptied 0) = false ∧ exec (.peerEntryEmptied 0) zone = .refused .noSuchEntry := ⟨rfl, rfl⟩

/-- R18: power-on with the straps of log entry 1 gives State.reset from any state. -/
theorem test_powerOn_is_reset : ran (.powerOn 1 0 .probe false false) zone = some State.reset := by decide +kernel

/-! ## Arithmetic of the manual -/

/-- R42: the CRC of the bytes 0x31 to 0x39. -/
theorem test_crc_check_value :
    crc [0x31, 0x32, 0x33, 0x34, 0x35, 0x36, 0x37, 0x38, 0x39] = 0x29B1#16 := by decide +kernel

/-- TABLE 1-3, sweeps a to d in turn. -/
theorem test_table_1_3 :
    calibrationOk [704, 707, 706, 707, 1009, 1013, 1010, 1012] = true
      ∧ calibrationOk [724, 727, 726, 728, 1010, 1012, 1011, 1011] = false
      ∧ calibrationOk [690, 712, 695, 709, 1008, 1011, 1010, 1009] = false
      ∧ (calibrating [704, 705, 705, 704, 1010, 1013, 1011, 1012]).frontEnd.calibrated.mLo = 705
      ∧ (calibrating [704, 705, 705, 704, 1010, 1013, 1011, 1012]).frontEnd.calibrated.mHi = 1012 := by decide +kernel

/-- The inputs of 2.10. -/
def workedInputs : ConversionInputs :=
  { mLo := 706, mHi := 1011, refFault := false, dryBulb := some 650, curve := defaultCurve, coeff := 80 }

/-- The samples of TABLE 2-5. -/
def workedSamples : List Nat :=
  [842, 851, 846, 849, 930, 912, 934, 908, 520, 522, 519, 523, 1190, 1193, 1191, 1194, 1400, 1400, 1400, 1400,
   361, 364, 362, 363, 760, 766, 762, 764, 929, 931, 930, 930]

/-- TABLE 2-5: grades and moisture values of one sweep. -/
theorem test_table_2_5 :
    (convertSweep workedInputs workedSamples).map (fun r => (r.grade, r.mc)) =
      [(839, some 113), (911, some 89), (518, some 384), (1178, some 38), (1383, none), (363, none), (756, some 147),
       (920, some 86)] := by decide +kernel

/-- TABLE 2-5: the flags, in the order OPEN, SHORT, UNSTEADY, WET-LIMIT, DRY-LIMIT, INVALID. -/
theorem test_table_2_5_flags :
    (convertSweep workedInputs workedSamples).map (fun r => r.flags.toByte.toNat) = [0, 4, 8, 16, 1, 2, 0, 0] := by
  decide +kernel

/-- TABLE 2-7, and 2.10.5. -/
theorem test_table_2_7 :
    moistureOf 177 (tempFactor 80 1300) = 44 ∧ moistureOf 177 (tempFactor 80 (-400)) = 262
      ∧ moistureOf 600 (tempFactor 80 (-400)) = 800 ∧ moistureOf 165 (tempFactor 80 1075) = 50
      ∧ tempFactor 3 205 = 9998 ∧ tempFactor 3 195 = 10002 := by decide +kernel

/-- TABLE 5-3: the readings station 7 accepts. -/
def table53 : List Extreme :=
  [⟨128, 7, 1⟩, ⟨97, 7, 4⟩, ⟨151, 7, 5⟩, ⟨113, 3, 1⟩, ⟨142, 3, 2⟩, ⟨120, 12, 2⟩, ⟨135, 12, 3⟩]

/-- TABLE 5-4. -/
theorem test_table_5_4 :
    pictureOf (some sampleRecord) table53 =
      { charge := 417, quorum := 5, basis := 7, sufficient := true, wettest := some ⟨151, 7, 5⟩
        driest := some ⟨97, 7, 4⟩, mean := some 127, controlling := some 139, wetCount := some 7
        dryCount := some 0 } := by decide +kernel

/-- TABLE 5-5: ties. -/
theorem test_table_5_5 :
    pictureOf (some sampleRecord)
        [⟨151, 7, 1⟩, ⟨97, 7, 4⟩, ⟨151, 7, 5⟩, ⟨142, 3, 1⟩, ⟨151, 3, 2⟩, ⟨97, 12, 2⟩, ⟨142, 12, 3⟩] =
      { charge := 417, quorum := 5, basis := 7, sufficient := true, wettest := some ⟨151, 3, 2⟩
        driest := some ⟨97, 7, 4⟩, mean := some 133, controlling := some 149, wetCount := some 7
        dryCount := some 0 } := by decide +kernel

/-- TABLE 5-6, rows 3 to 5, and TABLE 5-7. -/
theorem test_table_5_6 :
    ([[142, 141], [151, 97, 128], [151, 97, 128, 135, 113], [384, 147, 113, 86, 38]].map
      fun (v : List Nat) => (controllingMc v, meanMc v)) =
      [(some 142, some 142), (some 140, some 125), (some 138, some 125), (some 215, some 154)] := by decide +kernel

/-- TABLE 9-4, and the spray and dead band rows of TABLE 9-5. -/
theorem test_table_9_4 :
    (ran (.controlPeriod 632 596) zone).map (fun t => (t.climate.integral, t.climate.heat, t.climate.vent, t.climate.spray))
        = some (314, 530, 80, 0)
      ∧ (ran (.controlPeriod 632 541) zone).map (fun t => (t.climate.vent, t.climate.spray)) = some (0, 76)
      ∧ (ran (.controlPeriod 632 580) zone).map (fun t => (t.climate.vent, t.climate.spray)) = some (0, 0) := by
  decide +kernel

/-- TABLE 9-5: I and heat at their limits. -/
theorem test_table_9_5 :
    (nextIntegral sampleRecord 1000 400 60, heatOutput sampleRecord 60 400) = (400, 1000)
      ∧ (nextIntegral sampleRecord 0 150 (-30), heatOutput sampleRecord (-30) 150) = (150, 0)
      ∧ (nextIntegral sampleRecord 940 990 5, heatOutput sampleRecord 5 994) = (994, 1000)
      ∧ nextIntegral sampleRecord 700 995 10 = 1000
      ∧ (nextIntegral { sampleRecord with ki := 5 } 300 200 (-3), heatOutput sampleRecord (-3) 198) = (198, 162) := by
  decide +kernel

/-- 12.5: the READ READINGS response of a full table is 87 bytes, 870 bit times. -/
theorem test_readReadings_length :
    (ran .readReadings (zone.setReadings (convertSweep workedInputs workedSamples))).map
        (fun t => t.port.sending.map fun r => (r.bytes.length, r.bitsLeft)) = some (some (87, 870)) := by decide +kernel

/-- TABLE 12-5: a CALIBRATE that finds a response being sent is owed a BUSY answer and sets no flag. -/
theorem test_table_12_5 :
    (ran .calibrate (zone.setPort { zone.port with sending := some (responseOf 0x06 (.done [])) })).map
        (fun t => (t.port.busy, t.frontEnd.calRequest)) = some ([0x04], false)
      ∧ (responseOf 0x04 .busy).bitsLeft = 60 := by decide +kernel

/-- R130 and TABLE 10-1: a HOLD heard from station 3 holds the station. -/
theorem test_hold_heard :
    (ran (.holdDirectiveReceived (runOf (directiveFrame .hold 0 0))) zone).map (·.schedule.mode) = some .held := by
  decide +kernel

/-- R135, R163: an assertion latches SAFE, drives the output, and opens the vents to the record's safe position. -/
theorem test_emergency :
    (ran .emergencyAssertion zone).map
        (fun t => (t.schedule.mode, t.attention.output, t.attention.level, t.climate.vent, t.bus.slots.safe)) =
      some (.safe, true, some .fatal, 800, some 0) := by decide +kernel

/-- TABLE 3-1 and TABLE 3-7: the levels of station-number bytes 5, 9 and 13, the first data bits 1, 0, 1, 0 and so on. -/
theorem test_station_bytes :
    (byteLevels 0x05 =
        [.dominant, .recessive, .dominant, .recessive, .dominant, .dominant, .dominant, .dominant, .dominant, .recessive,
          .recessive])
      ∧ ([0x05, 0x09, 0x0D].map fun b : Byte => ((byteLevels b).drop 1).take 4) =
        [[.recessive, .dominant, .recessive, .dominant], [.recessive, .dominant, .dominant, .recessive],
          [.recessive, .dominant, .recessive, .recessive]] := by decide +kernel

/-- R38: a byte with its parity bit turned, and one whose stop bit is dominant, have byte errors. -/
theorem test_byte_errors :
    byteError (sampledByte (((byteLevels 0x05).drop 1).set 8 .dominant)) = true
      ∧ byteError (sampledByte (((byteLevels 0x05).drop 1).set 9 .dominant)) = true
      ∧ byteError (sampledByte ((byteLevels 0x05).drop 1)) = false := by decide +kernel

/-- Station 7 driving the station-number byte 5 of TABLE 3-7, whose data bit 2 comes next, against another station's 9. -/
def meeting : State :=
  (withBus
    (fun b => { b with attempt := some { kind := .safe, bytes := [0x05], released := false }, byteBits := 8 })
    zone).setWires { kiln := [.dominant], service := [false] }

/-- R49, TABLE 3-8: the station sends recessive, reads dominant and releases the line; the service line's start bit is seen. -/
theorem test_released_on_difference :
    (countAll meeting).bus.attempt = some { kind := .safe, bytes := [0x05], released := true }
      ∧ (countAll meeting).bus.lastLevel = .dominant ∧ (countAll meeting).port.rxBits = some [] := by decide +kernel

/-- R49: the attempt fails at the end of its byte, and not before. -/
theorem test_fails_at_byte_end :
    fallingEvents meeting (countAll meeting) = []
      ∧ fallingEvents (withBus (fun b => { b with byteBits := 1 }) (countAll meeting))
          (countAll (withBus (fun b => { b with byteBits := 1 }) (countAll meeting))) = [.attemptFail] := by decide +kernel

/-- R43: a run in progress at power-on is dropped, for no run has begun after more than 20 quiet bit times. -/
theorem test_run_at_power_on_dropped :
    ran (.safeFrameReceived (runOf (frameFrom .safe [1]))) (State.reset.setStraps zone.straps)
      = some (State.reset.setStraps zone.straps) := by decide +kernel

/-- R44, R45, R158: an ABORT under the own number stamps ADDRESS CLASH with the minute before the ABORT. -/
theorem test_clash_stamp :
    (ran (.abortDirectiveReceived (runOf { directiveFrame .abort 0 0 with station := 7 }))
        (zone.setSchedule { zone.schedule with minute := 77 })).map
        (fun t => (t.attention.stamp .addressClash, t.schedule.minute)) = some (some 77, 0) := by decide +kernel

/-- R132, R167: the ABORT record that overruns the ring stamps TRACE OVERRUN with its own minute. -/
theorem test_overrun_stamp :
    (ran (.abortDirectiveReceived (runOf (directiveFrame .abort 0 0)))
        ((zone.setSchedule { zone.schedule with minute := 77 }).setTrace
          { zone.trace with records := List.replicate 512 (zone.traceRecord .snapshot) })).map
        (fun t => (t.attention.stamp .traceOverrun, t.trace.records.length)) = some (some 77, 512) := by decide +kernel

/-- R172: the next byte's start bit stops a gap timer in its last bit time, and the request is not abandoned. -/
theorem test_gap_timer_stops_at_start_bit :
    (ran .gapTimerExpiry (zone.setPort { zone.port with rx := .assembling [5] false, gapTimer := 1 })).map (·.port.rx)
        = some .hunt
      ∧ (tick ((zone.setPort { zone.port with rx := .assembling [5] false, gapTimer := 1 }).setWires
          { kiln := [], service := [false] })).port
        = { zone.port with rx := .assembling [5] false, rxBits := some [], rxLast := false } := by decide +kernel

/-! ## Hypotheses of the statements, met

Each theorem is named after its statement and shows, for every clause of it that has hypotheses, concrete values that meet
them all together. -/

/-- Reset with silent wires; and an own recessive bit met by a dominant one, with a start bit on the service line. -/
theorem witness_IdleBitTimeOnlyCounts :
    (State.reset.pending = [] ∧ fallingEvents State.reset (countAll State.reset) = []
        ∧ State.reset.wires.kiln.headD .recessive = .recessive ∧ State.reset.wires.service.headD true = true)
      ∧ meeting.pending = [] ∧ fallingEvents meeting (countAll meeting) = []
      ∧ (([0x05] : List Byte).flatMap byteLevels).getD (11 * 1 - meeting.bus.byteBits) .recessive = .recessive
      ∧ meeting.wires.kiln.headD .recessive = .dominant ∧ meeting.wires.service.headD true = false := by decide +kernel

/-- `zone` in the last bit time before each event of the statement alone. -/
def lastBitTimes : List (State × ClockEvent) :=
  [(zone.setPeers { zone.peers with reportTimer := 1 }, .reportTimer),
   (zone.setFrontEnd { zone.frontEnd with intervalTimer := 1 }, .sweepInterval),
   (zone.setFrontEnd { zone.frontEnd with calTimer := 1 }, .calibrationTimer),
   (zone.setSensors { zone.sensors with dry := { zone.sensors.dry with state := .holding, holdTimer := 1 } },
     .holdTimer .dryBulb),
   (zone.setSensors { zone.sensors with wet := { zone.sensors.wet with state := .holding, holdTimer := 1 } },
     .holdTimer .wetBulb),
   (zone.setClimate { zone.climate with settleTimer := 1 }, .settleTimer),
   (withBus (fun b => { b with attempt := some { kind := .safe, bytes := [0x05], released := false }, byteBits := 1 }) zone,
     .attemptComplete),
   (withBus (fun b => { b with slots := { b.slots with spacing := 1 } }) zone, .spacingTimer),
   (withBus (fun b => { b with quiet := 39 }) zone, .quietGap),
   (withBus (fun b => { b with blockedTimer := 1 }) zone, .lineBlockedTimer),
   (zone.setStore { zone.store with holdoff := 1 }, .reofferHoldoff),
   (zone.setSchedule { zone.schedule with minuteTimer := 1 }, .minuteTick),
   (zone.setSchedule { zone.schedule with gatherTimer := 1 }, .gatherTimer),
   (zone.setPort { zone.port with sending := some { bytes := [], bitsLeft := 1 } }, .responseEnd)]

/-- `zone` with an entry of station 3 of an age in bit times. -/
def aged (st : EntryState) (age : Nat) : State :=
  zone.setPeers (zone.peers.setEntry 3 (some { state := st, data := reportAt .cool, age }))

/-- `zone` in the last bit time before a window's end of a sweep. -/
def windowEnding (k : SweepState) : State := zone.setFrontEnd { zone.frontEnd with sweep := k, windowTimer := 1 }

/-- `zone` in the last bit time before its SAFE frame may begin, with the levels that come on the kiln bus. -/
def beginning (kiln : List Level) : State :=
  (withBus (fun b => { b with slots := { b.slots with safe := some 0 }, quiet := 53 }) zone).setWires
    { zone.wires with kiln := kiln }

/-- `zone` in the last bit time of the gap timer, with the bits that come on the receive wire. -/
def gapEnding (service : List Bool) : State :=
  (zone.setPort { zone.port with rx := .assembling [5] false, gapTimer := 1 }).setWires { kiln := [], service := service }

/-- `zone` in the bit time before each of the events that are not taken as a row alone, or whose row has an operand. -/
def lastBitTimesApart : List (State × ClockEvent) :=
  [(aged .fresh 575999, .entryStale 3), (aged .stale 1919999, .entryEmptied 3), (gapEnding [], .gapTimer),
   (gapEnding [false], .gapTimer),
   (zone.setPort { zone.port with rxBits := some [true, false, true, false, true, false, true, false] }, .serviceByte),
   (windowEnding .idleFe, .windowEnd), (windowEnding .calSweep, .windowEnd), (windowEnding .probeSweep, .windowEnd),
   (zone.setSensors { zone.sensors with controlTimer := 1 }, .controlPeriod),
   (withBus (fun b => { b with attempt := some { kind := .safe, bytes := [0x05], released := true }, byteBits := 1 }) zone,
     .attemptFail),
   (beginning [], .attemptBegin), (beginning [.recessive, .dominant], .attemptBegin)]

/-- `zone` in the last bit time before the end of a run that the line has shown. -/
def runEnding (f : Frame) : State := withBus (fun b => { b with quiet := 20, runBytes := some (runOf f) }) zone

/-- Each event alone at its bit time; the ends of runs of all four kinds, of another kind, and of one that is discarded. -/
theorem witness_IdleBitTimeTakesReportTimer :
    (lastBitTimes.all fun x => x.1.pending.isEmpty && fallingEvents x.1 (countAll x.1) == [x.2]) = true
      ∧ (([FrameKind.report, .offer, .safe, .directive].map fun k => frameFrom k [byteOf 2]).all fun f =>
          (runEnding f).pending.isEmpty && fallingEvents (runEnding f) (countAll (runEnding f)) == [.runEnd]
            && (countAll (runEnding f)).bus.runBytes == some (runOf f) && judgeRun (runOf f) == some f) = true
      ∧ (lastBitTimesApart.all fun x => x.1.pending.isEmpty && fallingEvents x.1 (countAll x.1) == [x.2]) = true
      ∧ (gapEnding []).pending = [] ∧ (countAll (gapEnding [])).port.gapTimer = 1
      ∧ (countAll (gapEnding [false])).port.gapTimer = 0
      ∧ (countAll (beginning [])).wires.kiln.headD .recessive = .recessive
      ∧ (countAll (beginning [.recessive, .dominant])).wires.kiln.headD .recessive = .dominant
      ∧ judgeRun (runOf { frameFrom .safe [1] with kind := 0x55 }) = some { frameFrom .safe [1] with kind := 0x55 }
      ∧ (0x55#8 ∉ [0x1E#8, 0x2D, 0x3C, 0x4B]) ∧ judgeRun [] = none
      ∧ fallingEvents (runEnding { frameFrom .safe [1] with kind := 0x55 })
          (countAll (runEnding { frameFrom .safe [1] with kind := 0x55 })) = [.runEnd]
      ∧ 6 < (0x09 : Byte).toNat ∧ (frameFrom .directive [0x09]).payload.head? = some 0x09
      ∧ [FrameKind.report, .offer, .safe, .directive].map (·.code) = [0x4B, 0x3C, 0x1E, 0x2D]
      ∧ (frameFrom .directive [byteOf 2]).payload.head? = some (BitVec.ofNat 8 DirectiveKind.hold.code) := by
  decide +kernel

theorem witness_WellFormedCommandsComplete :
    Instr.wellFormed (.powerOn 32 15 .zone true false) = true ∧ Instr.wellFormed (.powerOn 33 15 .zone true false) = false
      ∧ Instr.wellFormed (.peerEntryStale 1) = true ∧ Instr.wellFormed (.peerEntryStale 0) = false
      ∧ Instr.wellFormed .minuteTick = true := by decide

theorem witness_CommandsKeepStrapsAndQueue :
    (∃ t, exec .clearStaged zone = .next t) ∧ ∀ n k r e f, Instr.clearStaged ≠ .powerOn n k r e f :=
  ⟨⟨_, rfl⟩, by intro n k r e f h; cases h⟩

theorem witness_PowerOnSetsEveryBlock : (1 : Nat) ≤ 32 ∧ (32 : Nat) ≤ 32 ∧ (15 : Nat) ≤ 15 := by decide

theorem witness_PowerOnWithEmergencyEntersSafe : (1 : Nat) ≤ 1 ∧ (1 : Nat) ≤ 32 ∧ (0 : Nat) ≤ 15 := by decide

theorem witness_WindowEndStoresSample :
    (∃ s : State, s.frontEnd.sweep = .calSweep ∧ s.frontEnd.samples.length = 7)
      ∧ ∃ s : State, s.frontEnd.sweep = .probeSweep ∧ s.frontEnd.samples.length = 31 :=
  ⟨⟨calibrating [700, 700, 700, 700, 1000, 1000, 1000], by decide +kernel⟩,
    ⟨sweeping .probeSweep (workedSamples.take 31) zone, by decide +kernel⟩⟩

/-- Means at 675 and 1025, spreads at 16. -/
theorem witness_CalibrationSucceeds :
    (calibrating [667, 683, 675, 675, 1017, 1033, 1025, 1025]).frontEnd.sweep = .calSweep
      ∧ (calibrating [667, 683, 675, 675, 1017, 1033, 1025, 1025]).frontEnd.samples
          = [667, 683, 675, 675, 1017, 1033, 1025, 1025]
      ∧ 675 ≤ (667 + 683 + 675 + 675 + 2) / 4 ∧ (667 + 683 + 675 + 675 + 2) / 4 ≤ 725
      ∧ 975 ≤ (1017 + 1033 + 1025 + 1025 + 2) / 4 ∧ (1017 + 1033 + 1025 + 1025 + 2) / 4 ≤ 1025
      ∧ max (max 667 683) (max 675 675) - min (min 667 683) (min 675 675) ≤ 16
      ∧ max (max 1017 1033) (max 1025 1025) - min (min 1017 1033) (min 1025 1025) ≤ 16 := by decide +kernel

/-- Each ground of failure at its first value: means 674, 726, 974, 1026, and a spread of 17 on either side. -/
theorem witness_CalibrationFails :
    (calibrating [674, 674, 674, 674, 1000, 1000, 1000, 1000]).frontEnd.sweep = .calSweep
      ∧ (674 + 674 + 674 + 674 + 2) / 4 < 675 ∧ 725 < (726 + 726 + 726 + 726 + 2) / 4
      ∧ (974 + 974 + 974 + 974 + 2) / 4 < 975 ∧ 1025 < (1026 + 1026 + 1026 + 1026 + 2) / 4
      ∧ 16 < max (max 700 717) (max 700 700) - min (min 700 717) (min 700 700)
      ∧ 16 < max (max 1000 1017) (max 1000 1000) - min (min 1000 1017) (min 1000 1000) := by decide +kernel

theorem witness_ProbeSweepCompletes :
    (sweeping .probeSweep workedSamples zone).frontEnd.sweep = .probeSweep
      ∧ (sweeping .probeSweep workedSamples zone).frontEnd.samples.length = 32
      ∧ 1 ≤ (sweeping .probeSweep workedSamples zone).straps.station
      ∧ (sweeping .probeSweep workedSamples zone).straps.station ≤ 32 := by decide +kernel

theorem witness_SweepTimersExpire :
    (sweeping .idleFe [] zone).frontEnd.sweep = .idleFe ∧ (sweeping .calSweep [] zone).frontEnd.sweep = .calSweep
      ∧ (sweeping .probeSweep [] zone).frontEnd.sweep ≠ .idleFe := by decide +kernel

/-- Grades 1301, 1300, 400 and 399 under the power-on pair, spreads 16 and 17, and the two limits beside a valid curve; a reading
with a value and a dry-bulb, the ends of its curve, and a station with a current record and without one. -/
theorem witness_ConversionClassifies :
    (convertChannel { workedInputs with mLo := 700, mHi := 1000 } 1 [1301, 1301, 1301, 1301]).flags.openCircuit = true
      ∧ (convertChannel { workedInputs with mLo := 700, mHi := 1000 } 1 [1300, 1300, 1300, 1300]).flags.dryLimit = true
      ∧ (convertChannel { workedInputs with mLo := 700, mHi := 1000 } 1 [400, 400, 400, 400]).flags.wetLimit = true
      ∧ (convertChannel { workedInputs with mLo := 700, mHi := 1000 } 1 [399, 399, 399, 399]).flags.shortCircuit = true
      ∧ (convertChannel workedInputs 1 [847, 855, 863, 847]).flags.unsteady = false
      ∧ (convertChannel workedInputs 1 [847, 855, 864, 847]).flags.unsteady = true
      ∧ (convertChannel workedInputs 1 [842, 851, 846, 849]).mc = some 113
      ∧ (convertChannel { workedInputs with dryBulb := none } 1 [842, 851, 846, 849]).flags.invalid = true
      ∧ curveValid workedInputs.curve = true ∧ workedInputs.dryBulb = some 650
      ∧ workedInputs.curve.head? = some ⟨560, 600⟩ ∧ workedInputs.curve.getLast? = some ⟨1160, 60⟩
      ∧ zone.store.current = some sampleRanked ∧ State.reset.store.current = none ∧ (0 : Int) < 1 := by decide +kernel

theorem witness_CorrectedGradeBounded :
    (675 : Nat) ≤ 675 ∧ (675 : Nat) ≤ 725 ∧ (975 : Nat) ≤ 1025 ∧ (1025 : Nat) ≤ 1025 ∧ (300 : Nat) ≤ 1400
      ∧ (1400 : Nat) ≤ 1400 := by decide

/-- The two ends and the middle of the curve's first segment, and the grades on either side of the curve. -/
theorem witness_CurveInterpolates :
    curveValid sampleRecord.curve = true
      ∧ sampleRecord.curve = [] ++ ⟨560, 600⟩ :: ⟨800, 200⟩ :: [⟨1160, 60⟩]
      ∧ (560 : Int) ≤ 560 ∧ (800 : Int) ≤ 800 ∧ (560 : Int) ≤ 561 ∧ (561 : Int) ≤ 800
      ∧ sampleRecord.curve.head? = some ⟨560, 600⟩ ∧ (559 : Int) < 560
      ∧ sampleRecord.curve.getLast? = some ⟨1160, 60⟩ ∧ (1160 : Int) < 1161 := by decide +kernel

/-- Unclamped factors of 2499, 2500, 15000 and 15001, and products on either side of 8,005,000. -/
theorem witness_FactorAndValueClamped :
    (2499 : Int) = 10000 - halfAway ((7501 : Nat) * (210 - 200)) 10
      ∧ (2500 : Int) = 10000 - halfAway ((750 : Nat) * (300 - 200)) 10
      ∧ (15000 : Int) = 10000 - halfAway ((500 : Nat) * (100 - 200)) 10
      ∧ (15001 : Int) = 10000 - halfAway ((5001 : Nat) * (190 - 200)) 10
      ∧ 1 * 8004999 < 8005000 ∧ 8005000 ≤ 1 * 8005000 := by decide +kernel

/-- A faulty sample on either side of the range, in AWAITING, VALID and HOLDING, on a ZONE station; a dry-bulb at the warm-up level
and below it, at the cool-end temperature and above it; other modes and positions, and none available. -/
theorem witness_ControlPeriodSamples :
    ¬(-400 ≤ (-401 : Int) ∧ (-401 : Int) ≤ 1300) ∧ ¬(-400 ≤ (1301 : Int) ∧ (1301 : Int) ≤ 1300)
      ∧ (-400 ≤ (1300 : Int) ∧ (1300 : Int) ≤ 1300)
      ∧ State.reset.sensors.dry.state = .awaiting ∧ State.reset.sensors.wet.state = .awaiting
      ∧ (State.reset.setStraps zone.straps).straps.role = .zone
      ∧ (State.reset.setStraps zone.straps).sensors.dry.state = .awaiting
      ∧ zone.sensors.dry.state = .valid ∧ zone.sensors.wet.state = .valid ∧ zone.straps.role = .zone
      ∧ (zoneAt .warmup).schedule.mode = .run ∧ (zoneAt .warmup).schedule.position = .warmup
      ∧ (zoneAt .warmup).currentRecord = some sampleRecord
      ∧ ((sampleRecord.stepAt 1).map fun st => st.dryBulb - (sampleRecord.warmBand : Int)) = some 530
      ∧ -400 ≤ (529 : Int) ∧ (530 : Int) ≤ 1300
      ∧ (zoneAt .cool).schedule.position = .cool ∧ sampleRecord.coolEnd = 300 ∧ (301 : Int) ≤ 1300
      ∧ (zoneIn .held).schedule.mode ≠ .run
      ∧ zone.schedule.position ≠ .warmup ∧ zone.schedule.position ≠ .cool
      ∧ (State.reset.straps.role = .probe ∧ State.reset.climate.regime ≠ .loops ∧ State.reset.currentRecord = none
        ∧ State.reset.schedule.position = .idle) := by decide +kernel

/-- The period of TABLE 9-4; a dry-bulb held and one not available; a wet-bulb held and one lost; the settle timer running; a
dry-bulb one past the deviation band, with the count one below its limit of 300; WARMUP and HELD. -/
theorem witness_ControlPeriodRunsLoops :
    zone.straps.role = .zone ∧ zone.climate.regime = .loops ∧ zone.schedule.position.isLoop = true
      ∧ zone.currentRecord = some sampleRecord ∧ zone.climate.settleTimer = 0 ∧ zone.climate.spActive = some 650
      ∧ zone.climate.activeDep = some 80 ∧ -400 ≤ (632 : Int) ∧ (632 : Int) ≤ 1300 ∧ -400 ≤ (596 : Int)
      ∧ (596 : Int) ≤ 1300 ∧ (18 : Int) = 650 - 632 ∧ (26 : Int) = 596 - (650 - (80 : Nat))
      ∧ (314 : Int) = max (-1000) (min 1000
          (if zone.climate.heat = 1000 ∧ (0 : Int) < 18 ∨ zone.climate.heat = 0 ∧ (18 : Int) < 0 then zone.climate.integral
          else zone.climate.integral + halfAway (sampleRecord.ki * 18) 10))
      ∧ zone.sensors.dry.state = .valid ∧ zone.sensors.dry.lastValid = some 632 ∧ zone.sensors.wet.state = .valid
      ∧ (zone.setSensors State.reset.sensors).sensors.dry.state = .awaiting
      ∧ (zone.setSensors State.reset.sensors).sensors.wet.state = .awaiting
      ∧ (zone.setClimate { zone.climate with settleTimer := 1 }).climate.settleTimer ≠ 0
      ∧ ¬((sampleRecord.deviationBand : Int) < |600 - 650|) ∧ (sampleRecord.deviationBand : Int) < |599 - 650|
      ∧ (zone.setClimate { zone.climate with deviation := 299 }).climate.deviation + 1 = 15 * sampleRecord.deviationTime
      ∧ (zone.setClimate { zone.climate with deviation := 298 }).climate.deviation + 1 < 15 * sampleRecord.deviationTime
      ∧ (zone.setClimate { zone.climate with deviation := 300 }).climate.deviation = 15 * sampleRecord.deviationTime
      ∧ (zoneAt .warmup).schedule.position.isLoop = true ∧ (zoneIn .held).schedule.mode ≠ .run := by decide +kernel

/-- `zone` with both sensors on hold. -/
def holding (s : State) : State :=
  s.setSensors
    { s.sensors with
      dry := { state := .holding, lastValid := some 598, holdTimer := 1 }
      wet := { state := .holding, lastValid := some 500, holdTimer := 1 } }

theorem witness_HoldTimerLosesSensor :
    (holding zone).sensors.dry.state = .holding ∧ (holding zone).sensors.wet.state = .holding
      ∧ (holding zone).straps.role = .zone ∧ (holding State.reset).sensors.dry.state = .holding
      ∧ (holding State.reset).straps.role = .probe := by decide +kernel

theorem witness_DeviationLimitLatches :
    zone.currentRecord = some sampleRecord ∧ zone.straps.role = .zone ∧ zone.schedule.mode = .run
      ∧ zone.sensors.dry.state = .valid ∧ (∃ k, zone.schedule.position = .drying k)
      ∧ zone.climate.deviation < 15 * sampleRecord.deviationTime
      ∧ (zoneAt .equalize).schedule.position = .equalize ∧ (zoneAt .condition).schedule.position = .condition :=
  ⟨rfl, rfl, rfl, rfl, ⟨1, rfl⟩, by decide +kernel, rfl, rfl⟩

/-- A REVERSALS step, a MINUTES step, another mode, another position. -/
theorem witness_FanReversalCountsAndSettles :
    ((zoneAt (.drying 2)).schedule.position = .drying 2 ∧ (zoneAt (.drying 2)).currentRecord = some sampleRecord
        ∧ (sampleRecord.stepAt 2).map (·.basis) = some .reversals ∧ (zoneAt (.drying 2)).schedule.mode = .run)
      ∧ (sampleRecord.stepAt 1).map (·.basis) = some .minutes ∧ (zoneIn .held).schedule.mode ≠ .run
      ∧ ∀ k, (zoneAt .cool).schedule.position ≠ .drying k :=
  ⟨by decide +kernel, by decide +kernel, by decide, by intro k h; cases h⟩

theorem witness_ReportTimerSetsSlot :
    (withBus Bus.clashed zone).bus.clash = true ∧ zone.bus.clash = false := by decide +kernel

/-- All four slots set, with the record that the OFFER slot names. -/
theorem witness_AttemptBeginsAtSmallestQuiet :
    (withBus (fun b => { b with slots := fullSlots }) zone).bus.clash = false
      ∧ (withBus (fun b => { b with slots := fullSlots }) zone).bus.attempt = none
      ∧ (withBus (fun b => { b with slots := fullSlots }) zone).bus.slots.anyEligible = true
      ∧ (withBus (fun b => { b with slots := fullSlots }) zone).OfferNamed :=
  ⟨rfl, rfl, by decide +kernel, by intro o h; cases h; exact nofun⟩

/-- `zone` with an attempt of a kind running and slots as given. -/
def attempting (k : FrameKind) (sl : Slots) : State :=
  withBus (fun b => { b with slots := sl, attempt := some { kind := k, bytes := [], released := false } }) zone

/-- The last count below each limit and the count before it, and both cases of a dropped DIRECTIVE transmission. -/
theorem witness_AttemptFailureCountsOrDrops :
    ((attempting .safe { fullSlots with safe := some 30 }).bus.slots.failedOf .safe = some 30 ∧ 30 + 1 < 32)
      ∧ ((attempting .safe { fullSlots with safe := some 31 }).bus.slots.failedOf .safe = some 31 ∧ 32 ≤ 31 + 1)
      ∧ ((attempting .report { fullSlots with report := some 6 }).bus.slots.failedOf .report = some 6 ∧ 6 + 1 < 8)
      ∧ ((attempting .directive { fullSlots with directive := some { directiveSlot 1 with failed := 7 } }).bus.slots.directive
            = some { directiveSlot 1 with failed := 7 } ∧ 8 ≤ 7 + 1 ∧ (directiveSlot 1).remaining ≤ 1)
      ∧ ((attempting .directive { fullSlots with directive := some { directiveSlot 2 with failed := 7 } }).bus.slots.directive
            = some { directiveSlot 2 with failed := 7 } ∧ 1 < (directiveSlot 2).remaining) := by decide +kernel

theorem witness_AttemptCompletionEmptiesSlot :
    (attempting .offer fullSlots).bus.attempt = some { kind := .offer, bytes := [], released := false }
      ∧ (attempting .directive { fullSlots with directive := some (directiveSlot 1) }).bus.slots.directive
          = some (directiveSlot 1) ∧ (directiveSlot 1).remaining ≤ 1
      ∧ (attempting .directive { fullSlots with directive := some (directiveSlot 2) }).bus.slots.directive
          = some (directiveSlot 2) ∧ 1 < (directiveSlot 2).remaining := by decide +kernel

/-- A spaced directive alone and beside a set slot; a running line-blocked timer; counts 20 and 21. -/
theorem witness_LineEventsAct :
    ({ Slots.empty with directive := some (directiveSlot 2), spacing := 1 } : Slots).anyEligible = false
      ∧ ({ fullSlots with spacing := 1 } : Slots).anyEligible = true ∧ fullSlots.directive.isSome = true
      ∧ zone.bus.attempt = none ∧ 0 < (withBus (fun b => { b with blockedTimer := 1 }) zone).bus.blockedTimer
      ∧ 20 < (withBus (fun b => { b with quiet := 21 }) zone).bus.quiet := by decide +kernel

/-- The line-blocked timer after an emergency assertion, after the completion of the last set slot's attempt, and after an ABORT
requested with the OFFER slot alone set. -/
theorem witness_LineEventsAct_timer :
    zone.BlockedTimed
      ∧ (ran .emergencyAssertion zone).map (·.bus.blockedTimer) = some 38400
      ∧ (ran .attemptComplete
          (withBus (fun b => { b with blockedTimer := 7 }) (attempting .report { Slots.empty with report := some 0 }))).map
            (·.bus.blockedTimer) = some 0
      ∧ (ran (.directiveAbort 417 9)
          (withBus (fun b => { b with blockedTimer := 7, slots := { Slots.empty with offer := some ⟨.current, 0⟩ } }) zone)).map
            (·.bus.blockedTimer) = some 38400 :=
  ⟨fun h => absurd rfl h, by decide +kernel, by decide +kernel, by decide +kernel⟩

/-- An empty run, a frame of another kiln, and the own transmission, where a run can end; no run begun, and an attempt running. -/
theorem witness_UnheardRunsChangeNothing :
    zone.bus.runOpen = true ∧ zone.bus.attempt = none ∧ judgeRun [] = none
      ∧ judgeRun (runOf { frameFrom .safe [1] with kiln := 3 }) = some { frameFrom .safe [1] with kiln := 3 }
      ∧ (3 : Nat) ≠ zone.straps.kiln
      ∧ (withBus (fun b => { b with ownSent := some (frameBytes (frameFrom .safe [1])) }) zone).bus.ownSent
          = some ((runOf (frameFrom .safe [1])).map (·.data))
      ∧ State.reset.bus.runOpen = false ∧ (attempting .safe fullSlots).bus.attempt ≠ none
      ∧ judgeRun (runOf { frameFrom .safe [1] with station := 7 }) = some { frameFrom .safe [1] with station := 7 }
      ∧ (attempting .safe fullSlots).straps.station = 7 := by decide +kernel

theorem witness_FrameRoundTrip :
    Level.ofBit false = .dominant ∧ Level.ofBit true = .recessive
      ∧ (frameFrom .safe [1]).kiln ≤ 15 ∧ 1 ≤ (frameFrom .safe [1]).station ∧ (frameFrom .safe [1]).station ≤ 32
      ∧ (frameFrom .safe [1]).charge ≤ 65535 ∧ (frameFrom .safe [1]).payload.length ≤ 250 := by decide +kernel

theorem witness_AcceptedRunIsItsFrame :
    judgeRun (runOf (frameFrom .report (reportPayload (reportAt (.drying 2)))))
      = some (frameFrom .report (reportPayload (reportAt (.drying 2)))) := by decide +kernel

/-- R38, R43: the same run with one parity bit turned, and with one stop bit dominant, is discarded. -/
theorem test_byte_error_discards :
    ((runOf (frameFrom .safe [1])).modify 7 fun b => { b with parity := !b.parity }) ≠ runOf (frameFrom .safe [1])
      ∧ judgeRun ((runOf (frameFrom .safe [1])).modify 7 fun b => { b with parity := !b.parity }) = none
      ∧ judgeRun ((runOf (frameFrom .safe [1])).modify 7 fun b => { b with stop := false }) = none := by decide +kernel

/-- Frames of all four kinds of kiln 2 under station number 7. -/
theorem witness_AddressClashSilences :
    zone.bus.runOpen = true ∧ zone.bus.attempt = none ∧ zone.bus.clash = false ∧ zone.bus.ownSent = none
      ∧ (([FrameKind.report, .offer, .safe, .directive].map fun k => { frameFrom k [1] with station := 7 }).all fun f =>
          judgeRun (runOf f) == some f && f.kiln == zone.straps.kiln && f.station == zone.straps.station) = true := by
  decide +kernel

/-- With the latch set a SAFE frame under the own number is heard, and its own number is the safe origin's. -/
theorem witness_AddressClashSilences_handed :
    (withBus Bus.clashed zone).bus.clash = true
      ∧ (withBus Bus.clashed zone).Hears .safe (runOf { frameFrom .safe [1] with station := 7 })
        { frameFrom .safe [1] with station := 7 }
      ∧ (ran (.safeFrameReceived (runOf { frameFrom .safe [1] with station := 7 })) zone).map
          (fun t => (t.bus.clash, t.schedule.safeOrigin)) = some (true, some { station := 7, cause := 1 }) := by
  unfold State.Hears; decide +kernel

/-- A report of step 2 with two readings. -/
theorem witness_ReportRoundTrip :
    (reportAt (.drying 2)).charge ≤ 65535 ∧ ReportPasses (reportAt (.drying 2))
      ∧ parseReport 417 (reportPayload (reportAt (.drying 2))) = some (reportAt (.drying 2)) := by
  refine ⟨by decide, ⟨?_, by decide, by decide, by decide, by decide, ?_, ?_, by decide, by decide, ?_⟩, by decide +kernel⟩
  · rintro k ⟨⟩; decide
  · rintro m ⟨⟩; decide
  · rintro x ⟨⟩; decide
  · intro r hr
    simp only [reportAt, List.mem_cons, List.not_mem_nil, or_false] at hr
    rcases hr with rfl | rfl <;>
      exact ⟨by decide, by decide, by rintro m ⟨⟩; decide, by decide, by decide, by decide⟩

/-- The run of a report of station 3. -/
def reportFrame (d : ReportData) : Frame := { frameFrom .report (reportPayload d) with charge := d.charge }

theorem witness_ReportAcceptedWritesEntry :
    zone.Hears .report (runOf (reportFrame (reportAt (.drying 2)))) (reportFrame (reportAt (.drying 2)))
      ∧ parseReport 417 (reportPayload (reportAt (.drying 2))) = some (reportAt (.drying 2))
      ∧ zone.store.current = some sampleRanked ∧ (reportAt (.drying 2)).charge = sampleRanked.record.chargeNumber
      ∧ ({ sampleRecord with roster := 0x00000840#32 } : ChargeRecord).onRoster 3 = false
      ∧ (reportAt (.drying 2)).check ≠ (0x5C3F : Word16) := by unfold State.Hears; decide +kernel

/-- A report without a payload, which is discarded; the current rank empty; another charge number; and a station on the roster
with the record's own check. -/
theorem witness_ReportAcceptedWritesEntry_unlatched :
    (zone.Hears .report (runOf (frameFrom .report [])) (frameFrom .report []) ∧ parseReport 417 [] = none)
      ∧ ((emptyIn .run).Hears .report (runOf (reportFrame (reportAt (.drying 2)))) (reportFrame (reportAt (.drying 2)))
        ∧ (emptyIn .run).store.current = none)
      ∧ (zone.Hears .report (runOf (reportFrame strayReport)) (reportFrame strayReport)
        ∧ parseReport 418 (reportPayload strayReport) = some strayReport
        ∧ strayReport.charge ≠ sampleRanked.record.chargeNumber)
      ∧ sampleRanked.record.onRoster 3 = true ∧ (reportAt (.drying 2)).check = sampleRanked.check := by
  unfold State.Hears; decide +kernel

/-- A state with a dry-bulb of 52.9 °C, one step below the sample record's warm-up level. -/
def cold (s : State) : State := dryAt 529 s

/-- A state with a FRESH MATCHED entry of a station. -/
def withMatched (n : Nat) (s : State) : State :=
  s.setPeers (s.peers.setEntry n (some { state := .fresh, data := reportAt .gather, age := 0 }))

/-- Station 7 in GATHER with the watch armed, and station 12 FRESH and MATCHED. -/
def gathering : State :=
  withMatched 12
    (cold ((zoneAt .gather).setSchedule { (zoneAt .gather).schedule with gatherTimer := 5760000, gatherArmed := true }))

/-- The roster's stations checked one after another. -/
theorem matched_of_all (s : State) (r : RankedRecord) (but : Nat)
    (h : ∀ i : Fin 32, r.record.onRoster (i.val + 1) = true → i.val + 1 ≠ s.straps.station → i.val + 1 ≠ but →
      (s.peers.entry (i.val + 1)).any (fun e => e.state == .fresh && e.data.charge == r.record.chargeNumber
        && e.data.check == r.check) = true) : s.RosterMatched r but := by
  intro n h1 h2 hr ho hb
  have hn : n - 1 + 1 = n := by omega
  have := h ⟨n - 1, by omega⟩ (by simpa [hn] using hr) (by simpa [hn] using ho) (by simpa [hn] using hb)
  simp only [hn] at this
  cases he : s.peers.entry n with
  | none => simp [he] at this
  | some e => exact ⟨e, rfl, by simpa [he, and_assoc] using this⟩

/-- The positions that station 3 reports, from WARMUP to COMPLETE. -/
def reportedPositions : List Position := [.gather, .warmup, .drying 1, .drying 2, .equalize, .condition, .cool, .complete]

/-- A state is sound in its position under the sample record where that position is one of a charge. -/
theorem position_sound (s : State) (h : s.store.current = some sampleRanked) (hi : s.schedule.position ≠ .idle)
    (hr : (positionRank sampleRecord.stepCount s.schedule.position).isSome = true) : s.PositionSound :=
  ⟨⟨fun hp => absurd hp hi, fun hn => by rw [h] at hn; cases hn⟩, by intro r hc; rw [h] at hc; cases hc; exact hr⟩

/-- A report of step 2 that is followed from step 1, and five that are not: HELD, with a basis below the quorum, of another check, of
step 1 itself, and of a step that the record does not have; one taken in HELD; and one with the current rank empty. -/
theorem witness_FollowEntersReportedStep :
    (zone.Hears .report (runOf (reportFrame (reportAt (.drying 2)))) (reportFrame (reportAt (.drying 2)))
        ∧ parseReport 417 (reportPayload (reportAt (.drying 2))) = some (reportAt (.drying 2))
        ∧ zone.store.current = some sampleRanked ∧ zone.schedule.position = .drying 1
        ∧ (zoneIn .held).schedule.mode ≠ .run ∧ (emptyIn .run).store.current = none
        ∧ ([{ reportAt (.drying 2) with mode := .held }, { reportAt (.drying 2) with basis := 4 },
              { reportAt (.drying 2) with check := 0x5C3F }, reportAt (.drying 1), reportAt (.drying 3)].all fun d =>
            judgeRun (runOf (reportFrame d)) == some (reportFrame d) && parseReport 417 (reportPayload d) == some d) = true
        ∧ positionRank sampleRecord.stepCount (.drying 3) = none)
      ∧ zone.PositionSound ∧ ¬zone.LateJoinMet 3 (reportAt (.drying 2))
      ∧ zone.FollowMet sampleRanked (.drying 1) 3 (reportAt (.drying 2))
      ∧ ¬zone.FollowMet sampleRanked (.drying 1) 3 { reportAt (.drying 2) with basis := 4 }
      ∧ ¬zone.FollowMet sampleRanked (.drying 1) 3 { reportAt (.drying 2) with mode := .held }
      ∧ ¬zone.WatchMet sampleRanked 3 (reportAt (.drying 2)) := by
  refine ⟨by unfold State.Hears; decide +kernel, position_sound _ rfl (by decide) (by decide +kernel), ?_,
    ⟨by decide +kernel, rfl, rfl, rfl, rfl, by decide, 3, 4, by decide +kernel⟩, ?_, ?_, fun h => nomatch h.1⟩
  · rintro ⟨h | h, _⟩ <;> cases h
  · exact fun h => absurd h.2.2.2.2.2.1 (by decide)
  · exact fun h => absurd h.2.2.2.1 (by decide)

/-- Station 7 in GATHER: the watch waits for station 12, or is met by the report of station 3, with the kiln cold and at the warm-up
level; the report is then followed or not. -/
theorem witness_FollowEntersReportedStep_gather :
    (gathering.Hears .report (runOf (reportFrame (reportAt .gather))) (reportFrame (reportAt .gather))
        ∧ gathering.store.current = some sampleRanked ∧ gathering.onward sampleRecord .warmup = []
        ∧ (dryAt 530 gathering).onward sampleRecord .warmup = [.drying 1])
      ∧ gathering.PositionSound ∧ gathering.WatchMet sampleRanked 3 (reportAt .gather)
      ∧ gathering.FollowMet sampleRanked .warmup 3 (reportAt (.drying 2))
      ∧ ¬gathering.FollowMet sampleRanked .warmup 3 (reportAt .gather)
      ∧ ¬(zoneAt .gather).WatchMet sampleRanked 3 (reportAt .gather) := by
  refine ⟨by unfold State.Hears; decide +kernel, position_sound _ rfl (by decide) (by decide +kernel),
    ⟨rfl, rfl, rfl, matched_of_all _ _ _ (by decide +kernel), fun _ => ⟨rfl, rfl⟩⟩,
    ⟨by decide +kernel, rfl, rfl, rfl, rfl, by decide, 2, 4, by decide +kernel⟩, ?_, fun h => nomatch h.2.1⟩
  rintro ⟨_, _, _, _, _, _, a, b, ha, hb, hab⟩
  have h1 : positionRank sampleRanked.record.stepCount .warmup = some 2 := by decide +kernel
  have h2 : positionRank sampleRanked.record.stepCount (reportAt .gather).position = some 1 := by decide +kernel
  rw [h1] at ha; rw [h2] at hb; cases ha; cases hb; omega

/-- R122: one report takes a station from GATHER to WARMUP by its own exit, and then to the sender's step by following. -/
theorem test_report_enters_twice :
    (ran (.reportReceived (runOf (reportFrame (reportAt (.drying 2))))) gathering).map
        (fun t => t.trace.records.map fun x => (x.kind, x.position))
      = some [(.phase .own, .warmup), (.condition .phaseEntered, .warmup), (.phase .followed, .drying 2)] := by decide +kernel

/-- `zone` with an entry of station 3. -/
def zoneWithEntry (e : HeldEntry) : State := zone.setPeers (zone.peers.setEntry 3 (some e))

theorem witness_PeerEntriesAge :
    (zoneWithEntry { state := .fresh, data := reportAt .idle, age := 575999 }).peers.entry 3
        = some { state := .fresh, data := reportAt .idle, age := 575999 }
      ∧ (zoneWithEntry { state := .stale, data := reportAt .idle, age := 1919999 }).peers.entry 3
        = some { state := .stale, data := reportAt .idle, age := 1919999 }
      ∧ (3 : Nat) ≠ zone.straps.station ∧ zone.currentRecord = some sampleRecord ∧ sampleRecord.onRoster 3 = true
      ∧ sampleRecord.onRoster 4 = false := by decide +kernel

theorem witness_StrayPeerDrawsOffer :
    zone.Hears .report (runOf (reportFrame strayReport)) (reportFrame strayReport)
      ∧ parseReport 418 (reportPayload strayReport) = some strayReport
      ∧ zone.store.current = some sampleRanked ∧ sampleRecord.onRoster 3 = true
      ∧ strayReport.charge ≠ sampleRecord.chargeNumber ∧ zone.bus.clash = false ∧ zone.bus.slots.offer = none := by
  unfold State.Hears; decide +kernel

/-- The same report at the moment an own OFFER attempt ends. -/
theorem witness_StrayPeerDrawsOffer_meanwhile :
    (attempting .offer fullSlots).bus.attempt = some { kind := .offer, bytes := [], released := false }
      ∧ (attempting .offer fullSlots).bus.runOpen = true
      ∧ (attempting .offer fullSlots).bus.slots.offer = some { rank := .current, failed := 0 }
      ∧ judgeRun (runOf (reportFrame strayReport)) = some (reportFrame strayReport)
      ∧ (reportFrame strayReport).kiln = zone.straps.kiln ∧ (reportFrame strayReport).kind = 0x4B
      ∧ (reportFrame strayReport).station ≠ zone.straps.station
      ∧ (attempting .offer fullSlots).bus.ownSent ≠ some ((runOf (reportFrame strayReport)).map (·.data))
      ∧ [] ≠ (runOf (reportFrame strayReport)).map (·.data)
      ∧ (attempting .offer fullSlots).bus.clash = false
      ∧ (attempting .offer fullSlots).schedule.position = .drying 1 := by decide +kernel

/-- R105, last case: with the report first its entry is written while the attempt runs, and the slot ends empty. -/
theorem test_report_before_own_offer_completes :
    ((ran (.reportReceived (runOf (reportFrame strayReport))) (attempting .offer fullSlots)).bind
        (ran .attemptComplete)).map (fun t => ((t.peers.entry 3).isSome, t.bus.slots.offer, t.store.holdoff))
      = some (true, none, 1152000) := by decide +kernel

/-- The chapter's accepted values, under the sample record and under none, and the record's two counts beside them. -/
theorem witness_PictureFiguresOrdered :
    table53 ≠ [] ∧ (∀ x ∈ table53, x.mc ≤ 800) ∧ [128, 97, 151, 113, 142, 120, 135] = table53.map (·.mc)
      ∧ 4 = (table53.length + 1) / 2
      ∧ (pictureOf (some sampleRecord) table53).wetCount = some 7 ∧ (pictureOf none table53).quorum = 1 := by decide +kernel

theorem witness_RecordRoundTrip : sampleRecord.valid = true := by decide +kernel

theorem witness_ValidEncodingIsItsRecord : validateEncoding (encodeRecord sampleRecord) = .valid sampleRecord := by
  decide +kernel

/-- An encoding's shape: a curve count n, then bytes up to a length, and a step count at its place. -/
def shape (n count rest : Nat) : List Byte :=
  List.replicate 75 0 ++ byteOf n :: List.replicate (4 * n) 0 ++ byteOf count :: List.replicate rest 0

/-- Each check's boundary: length 75, curve counts 1 and 11, a length one short, step counts 0 and 13, a length one too long. -/
theorem witness_StructuralStageInOrder :
    (List.replicate 75 (0 : Byte)).length < 76
      ∧ 76 ≤ (shape 1 1 11).length ∧ ((shape 1 1 11).getD 75 0).toNat = 1 ∧ ((shape 11 1 11).getD 75 0).toNat = 11
      ∧ 76 ≤ ((shape 2 1 11).take 84).length ∧ ((shape 2 1 11).take 84).length < 77 + 4 * 2
      ∧ 77 + 4 * 2 ≤ (shape 2 0 0).length ∧ ((shape 2 0 0).getD (76 + 4 * 2) 0).toNat = 0
      ∧ ((shape 10 13 143).getD (76 + 4 * 10) 0).toNat = 13
      ∧ (shape 10 12 133).length ≠ 77 + 4 * 10 + 11 * 12 ∧ ((shape 10 12 133).getD (76 + 4 * 10) 0).toNat = 12
      ∧ (shape 10 12 132).length = 77 + 4 * 10 + 11 * 12 := by decide +kernel

/-- A record that fits its bytes with field 11 the first out of range, and one whose second step has no code for its basis. -/
theorem witness_StructuralStageInOrder_fields :
    ({ sampleRecord with kp := 501, ki := 255 }).Fits
      ∧ (∀ j, 1 ≤ j → j < 11 → FieldOk { sampleRecord with kp := 501, ki := 255 } j)
      ∧ ¬FieldOk { sampleRecord with kp := 501, ki := 255 } 11
      ∧ sampleRecord.valid = true ∧ 1 < sampleRecord.steps.length ∧ 1 < (2 : Byte).toNat := by
  refine ⟨?_, ?_, (by decide : ¬(501 : Nat) ≤ 500), by decide +kernel, by decide, by decide⟩
  · unfold ChargeRecord.Fits
    simp only [FieldOk]
    decide +kernel
  intro j h1 h2
  match j with
  | 1 | 2 | 4 | 6 | 7 | 8 | 9 | 10 => simp [FieldOk, sampleRecord]
  | 3 => exact ⟨3, by decide +kernel⟩
  | 5 =>
    intro station channel h3 h4 h5
    have all : ∀ i : Fin 32, ∀ c : Fin 9, sampleRecord.onRoster (i.val + 1) = false →
        sampleRecord.maskHas (i.val + 1) c.val = false := by decide +kernel
    have hs : station - 1 + 1 = station := by omega
    have h := all ⟨station - 1, by omega⟩ ⟨channel, by omega⟩
    simp only [hs] at h
    exact h

/-- `zone` in a position before a charge, with the sample record staged. -/
def stagedAt (p : Position) : State :=
  (zoneAt p).setStore { staged := some sampleRanked, current := none, holdoff := 0 }

/-- The sample encoding under another charge number. -/
def otherRecord : ChargeRecord := { sampleRecord with chargeNumber := 418 }

theorem other_encoding_valid : validateEncoding (encodeRecord otherRecord) = .valid otherRecord := by decide +kernel

theorem shape_out_of_range : validateEncoding (shape 1 1 11) = .range 27 := by decide +kernel

/-- A valid record of another charge, malformed bytes, a field out of range, the current charge's record, and a staged one. -/
theorem witness_LoadChargeStages :
    (zone.port.sending = none ∧ zone.port.busy = [] ∧ zone.store.staged = none ∧ zone.currentRecord = some sampleRecord
        ∧ sampleRecord.chargeNumber ≠ otherRecord.chargeNumber ∧ zone.bus.clash = false
        ∧ (withBus Bus.clashed zone).bus.clash = true)
      ∧ validateEncoding (encodeRecord otherRecord) = .valid otherRecord
      ∧ validateEncoding (encodeRecord sampleRecord) = .valid sampleRecord
      ∧ validateEncoding [] = .malformed ∧ validateEncoding (shape 1 1 11) = .range 27
      ∧ (stagedAt .idle).store.staged = some sampleRanked :=
  ⟨⟨rfl, rfl, rfl, rfl, by decide, rfl, rfl⟩, other_encoding_valid, witness_ValidEncodingIsItsRecord, rfl, shape_out_of_range,
    rfl⟩

theorem witness_ClearStagedEmpties : zone.port.sending = none ∧ zone.port.busy = [] := ⟨rfl, rfl⟩

/-- An OFFER frame of station 3 with a record's encoding. -/
def offerFrame (r : ChargeRecord) : Frame := { frameFrom .offer (encodeRecord r) with charge := r.chargeNumber }

/-- `zone` waiting to offer its record, with that record's own check. -/
def offering : State :=
  (withBus (fun b => { b with slots := { b.slots with offer := some { rank := .current, failed := 2 } } }) zone).setStore
    { staged := some (ranked otherRecord), current := some (ranked sampleRecord), holdoff := 0 }

set_option maxRecDepth 20000 in
theorem sample_offer_judged : judgeRun (runOf (offerFrame sampleRecord)) = some (offerFrame sampleRecord) := by
  decide +kernel

set_option maxRecDepth 20000 in
theorem other_offer_judged : judgeRun (runOf (offerFrame otherRecord)) = some (offerFrame otherRecord) := by decide +kernel

theorem hears_offer (s : State) (r : ChargeRecord) (hj : judgeRun (runOf (offerFrame r)) = some (offerFrame r))
    (hb : s.bus.runOpen = true) (ha : s.bus.attempt = none) (ho : s.bus.ownSent = none) (hs : s.straps = zone.straps) :
    s.Hears .offer (runOf (offerFrame r)) (offerFrame r) :=
  ⟨hb, ha, hj, by rw [hs]; rfl, rfl, by rw [ho]; exact nofun, by rw [hs]; exact fun h => absurd h (by decide : (3 : Nat) ≠ 7)⟩

theorem ranked_check (r : ChargeRecord) : (ranked r).check = crc (offerFrame r).payload := by
  simp only [ranked, recordCheck, offerFrame, frameFrom]

set_option maxRecDepth 20000 in
/-- The waiting record heard, and another one; a record under the current number; one with the staged rank empty, holding the
same record, and holding another; and a payload that is no encoding. -/
theorem witness_OfferStages :
    (offering.Hears .offer (runOf (offerFrame sampleRecord)) (offerFrame sampleRecord)
        ∧ offering.Hears .offer (runOf (offerFrame otherRecord)) (offerFrame otherRecord)
        ∧ offering.bus.slots.offer = some { rank := .current, failed := 2 }
        ∧ (ranked sampleRecord).record.chargeNumber = (offerFrame sampleRecord).charge
        ∧ (ranked sampleRecord).check = crc (offerFrame sampleRecord).payload
        ∧ (ranked sampleRecord).record.chargeNumber ≠ (offerFrame otherRecord).charge)
      ∧ (validateEncoding (encodeRecord sampleRecord) = .valid sampleRecord
        ∧ offering.currentRecord = some sampleRecord ∧ sampleRecord.chargeNumber = (offerFrame sampleRecord).charge)
      ∧ (zone.Hears .offer (runOf (offerFrame otherRecord)) (offerFrame otherRecord)
        ∧ validateEncoding (encodeRecord otherRecord) = .valid otherRecord
        ∧ (∀ c, zone.currentRecord = some c → c.chargeNumber ≠ (offerFrame otherRecord).charge)
        ∧ zone.store.staged = none)
      ∧ (offering.store.staged = some (ranked otherRecord)
        ∧ (ranked otherRecord).record.chargeNumber = (offerFrame otherRecord).charge
        ∧ (ranked otherRecord).check = crc (offerFrame otherRecord).payload
        ∧ ({ ranked otherRecord with check := 0 } : RankedRecord).check ≠ crc (offerFrame otherRecord).payload)
      ∧ (zone.Hears .offer (runOf (frameFrom .offer [])) (frameFrom .offer [])
        ∧ ∀ r, validateEncoding [] = .valid r → r.chargeNumber ≠ 417) :=
  ⟨⟨hears_offer _ _ sample_offer_judged rfl rfl rfl rfl, hears_offer _ _ other_offer_judged rfl rfl rfl rfl, rfl, rfl,
      ranked_check _, (by decide : (417 : Nat) ≠ 418)⟩,
    ⟨witness_ValidEncodingIsItsRecord, rfl, rfl⟩,
    ⟨hears_offer _ _ other_offer_judged rfl rfl rfl rfl, other_encoding_valid,
      by intro c h; cases h; exact (by decide : (417 : Nat) ≠ 418), rfl⟩,
    ⟨rfl, rfl, ranked_check _, by decide +kernel⟩,
    by unfold State.Hears; decide +kernel, by intro r h; cases h⟩

/-- `zone` in a position with the timers that a minute tick counts. -/
def ticking (p : Position) (overtime condition snapshot : Nat) : State :=
  (zone.setSchedule { zone.schedule with position := p, overtime := overtime, conditionTimer := condition }).setTrace
    { zone.trace with snapshotTimer := snapshot }

/-- The minute before a step's maximum and before that of EQUALIZE, which the count then reaches; a condition timer at 2, 1 and 0;
a snapshot timer at 2, 1 and 0; HELD, IDLE and WARMUP. -/
theorem witness_MinuteTickCounts :
    (zone.schedule.position = .drying 1 ∧ zone.schedule.mode = .run ∧ zone.currentRecord = some sampleRecord
        ∧ sampleRecord.stepAt 1 = sampleSteps.head? ∧ sampleSteps.head?.map (·.maximum) = some 100
        ∧ (ticking (.drying 1) 99 0 2).schedule.overtime + 1 = 100
        ∧ zone.climate.spActive = some 650 ∧ zone.climate.targetDry = some 550)
      ∧ (ran .minuteTick (ticking .equalize (sampleRecord.equalizeMaximum - 1) 0 0)).map
          (fun t => (t.schedule.overtime, t.attention.stamp .stepOvertime))
        = some (sampleRecord.equalizeMaximum, some 1)
      ∧ (sampleRecord.equalizeMaximum ≠ 0 ∧ sampleRecord.equalizeMaximum - 1 < 10080)
      ∧ ([2, 1, 0].map fun n =>
          (ran .minuteTick (ticking .condition 0 n 0)).map fun t => (t.schedule.position, t.schedule.conditionTimer))
        = [some (.condition, 1), some (.cool, 0), some (.condition, 0)]
      ∧ ((ticking .condition 0 1 1).dryBulb = some 632 ∧ sampleRecord.coolEnd < 632)
      ∧ ([2, 1, 0].map fun n =>
          (ran .minuteTick (ticking .cool 0 0 n)).map fun t => (t.trace.snapshotTimer, t.trace.records.map (·.kind)))
        = [some (1, []), some (sampleRecord.traceInterval, [.snapshot]), some (0, [])]
      ∧ (zoneIn .held).schedule.mode ≠ .run ∧ State.reset.schedule.position = .idle
      ∧ (zoneAt .warmup).schedule.position ∈ [.idle, .gather, .warmup, .cool, .complete]
      ∧ (zoneAt .cool).schedule.position.isLoop = false
      ∧ (ticking .cool 0 0 1).trace.records.length ≤ 512
      ∧ ((emptyIn .run).schedule.mode = .run ∧ (emptyIn .run).schedule.position = .idle
        ∧ (emptyIn .run).currentRecord = none) := by decide +kernel

/-- A DRYING step and EQUALIZE, each with an overtime count below its maximum; another mode, IDLE. -/
theorem witness_StepAndSnapshotTimersExpire :
    zone.currentRecord = some sampleRecord ∧ zone.schedule.position = .drying 1 ∧ zone.schedule.mode = .run
      ∧ (sampleRecord.stepAt 1).map (·.maximum) = some 100 ∧ zone.schedule.overtime < 100
      ∧ zone.schedule.position ≠ .idle
      ∧ ((zoneAt .equalize).schedule.position = .equalize ∧ (zoneAt .equalize).schedule.mode = .run
        ∧ (zoneAt .equalize).schedule.overtime < sampleRecord.equalizeMaximum)
      ∧ (zoneIn .held).schedule.mode ≠ .run ∧ State.reset.schedule.position = .idle := by decide +kernel

/-- A dry-bulb just below the warm-up level of 530 and at it, and just above the cool-end temperature of 300 and at it. -/
theorem witness_PhaseTimersExpire :
    (zoneAt .gather).currentRecord = some sampleRecord ∧ (zoneAt .gather).schedule.mode = .run
      ∧ (zoneAt .gather).schedule.position = .gather ∧ (zoneAt .condition).schedule.position = .condition
      ∧ ([529, 530].map fun x => (dryAt x (zoneAt .gather)).onward sampleRecord .warmup) = [[], [.drying 1]]
      ∧ ([301, 300].map fun x => (dryAt x (zoneAt .condition)).onward sampleRecord .cool) = [[], [.complete]] := by
  decide +kernel

/-- Station 7 at the completion of a probe sweep of 32 samples of one grade. -/
def sweptAt (grade quorum : Nat) : State :=
  sweeping .probeSweep (List.replicate 32 grade)
    (zone.setStore { zone.store with current := some { sampleRanked with record := { sampleRecord with quorum } } })

/-- The picture of such a completion. -/
def sweptPicture (grade quorum : Nat) : Picture :=
  pictureOf (some { sampleRecord with quorum })
    ((sweptAt grade quorum).setReadings
      (convertSweep (sweptAt grade quorum).conversionInputs (sweptAt grade quorum).frontEnd.samples)).accepted

/-- The same completion in another position and mode. -/
def sweptIn (p : Position) (m : Mode) (grade quorum : Nat) : State :=
  (sweptAt grade quorum).setSchedule { zone.schedule with position := p, mode := m }

/-- A SHORT picture; SUFFICIENT ones with the driest at the equalize-start level of 60 or below it, with the controlling MC at
the advance MC with the step timer at 0, and above it. In EQUALIZE the wettest below the final target and above it. HELD, SAFE and
COOL, where the same picture stands. -/
theorem witness_PictureAdvancesStep :
    ((sweptAt 800 5).frontEnd.sweep = .probeSweep ∧ (sweptAt 800 5).frontEnd.samples.length = 32
        ∧ (sweptAt 800 5).currentRecord = some sampleRecord ∧ (sweptAt 800 5).schedule.position = .drying 1
        ∧ (sweptAt 800 5).schedule.mode = .run ∧ (sampleRecord.stepAt 1).isSome = true)
      ∧ (sweptPicture 800 5).sufficient = false
      ∧ ((sweptPicture 1160 3).sufficient = true ∧ (sweptPicture 1160 3).driest.any (fun d => decide (d.mc ≤ 60)) = true)
      ∧ ((sweptPicture 800 3).sufficient = true ∧ (sweptPicture 800 3).driest.any (fun d => decide (60 < d.mc)) = true
        ∧ (sweptPicture 800 3).controlling.any (fun c => decide (c ≤ 200)) = true
        ∧ (sweptAt 800 3).schedule.stepTimer = 0)
      ∧ ((sweptPicture 600 3).sufficient = true ∧ (sweptPicture 600 3).controlling.any (fun c => decide (200 < c)) = true)
      ∧ ((sweptIn .equalize .run 1160 3).schedule.position = .equalize ∧ (sweptIn .equalize .run 1160 3).schedule.mode = .run
        ∧ (sweptPicture 1160 3).wettest.any (fun w => decide (w.mc ≤ 80)) = true ∧ sampleRecord.conditionTime ≠ 0
        ∧ (sweptPicture 800 3).wettest.any (fun w => decide (80 < w.mc)) = true)
      ∧ ((sweptIn .equalize .held 1160 3).schedule.mode ≠ .run ∧ (sweptIn (.drying 1) .safe 1160 3).schedule.mode ≠ .run
        ∧ (sweptIn .cool .run 1160 3).schedule.position ≠ .equalize
        ∧ (sweptIn .equalize .held 1160 3).frontEnd.samples.length = 32
        ∧ (sweptIn .equalize .held 1160 3).accepted = (sweptAt 1160 3).accepted)
      ∧ ((sweeping .probeSweep (List.replicate 32 1160) (emptyIn .run)).currentRecord = none
        ∧ (sweptAt 1160 3).onward { sampleRecord with conditionTime := 0 } .condition = [.cool]) := by
  decide +kernel

/-- R108, R117, R159: the step advance writes its STEP record with cause OWN, then the CONDITION record of STEP ADVANCED. -/
theorem test_step_advance_records :
    (ran .probeSweepComplete (sweptAt 800 3)).map (fun t => t.trace.records.map fun x => (x.kind, x.position))
      = some [(.step .own, .drying 2), (.condition .stepAdvanced, .drying 2)] := by decide +kernel

/-- The current record names charge 417, code 9, at every state built on `zone`. -/
theorem runs_sample (s : State) (h : s.store = zone.store) : s.RunsCharge 417 9 :=
  ⟨sampleRecord, by rw [State.currentRecord, h]; rfl, rfl, rfl⟩

/-- A directive that is heard is heard with the fields of its frame. -/
theorem hears_sample (s : State) (k : DirectiveKind) (phase step : Byte)
    (h : s.Hears .directive (runOf (directiveFrame k phase step)) (directiveFrame k phase step)) :
    s.HearsDirective (runOf (directiveFrame k phase step)) k 417 9 phase step := ⟨_, h, rfl, rfl⟩

/-- A directive of station 3 that names charge 0. -/
def directiveFrame0 (k : DirectiveKind) : Frame := { directiveFrame k 0 0 with charge := 0 }

theorem hears_zero (s : State) (k : DirectiveKind)
    (h : s.Hears .directive (runOf (directiveFrame0 k)) (directiveFrame0 k)) :
    s.HearsDirective (runOf (directiveFrame0 k)) k 0 9 0 0 := ⟨_, h, rfl, rfl⟩

/-- `zone` in a position and HELD. -/
def heldAt (p : Position) : State := zone.setSchedule { zone.schedule with position := p, mode := .held }

/-- `zone` with a current record of charge code 10. -/
def otherCode : State :=
  zone.setStore { zone.store with current := some { sampleRanked with record := { sampleRecord with chargeCode := 10 } } }

/-- Station 7 HELD in GATHER with the watch armed and every station of the roster FRESH and MATCHED. -/
def gatherHeld : State := withMatched 3 (gathering.setSchedule { gathering.schedule with mode := .held })

/-- Each directive taken, the last of them with charge 0 in IDLE too, at a receiver and at the origin. -/
theorem witness_ModeDirectivesChangeMode :
    (zone.RunsCharge 417 9 ∧ zone.schedule.mode = .run ∧ zone.CanOriginate
        ∧ zone.HearsDirective (runOf (directiveFrame .hold 0 0)) .hold 417 9 0 0)
      ∧ ((zoneIn .held).RunsCharge 417 9 ∧ (zoneIn .held).schedule.mode = .held ∧ (zoneIn .held).CanOriginate
        ∧ (zoneIn .held).HearsDirective (runOf (directiveFrame .resume 0 0)) .resume 417 9 0 0)
      ∧ ((zoneIn .safe).RunsCharge 417 9 ∧ (zoneIn .safe).schedule.mode = .safe ∧ (zoneIn .safe).pins.emergency = false
        ∧ (zoneIn .safe).CanOriginate
        ∧ (zoneIn .safe).HearsDirective (runOf (directiveFrame .resetSafe 0 0)) .resetSafe 417 9 0 0)
      ∧ ((emptyIn .safe).schedule.position = .idle ∧ (emptyIn .safe).schedule.mode = .safe
        ∧ (emptyIn .safe).pins.emergency = false ∧ (emptyIn .safe).CanOriginate
        ∧ (emptyIn .safe).HearsDirective (runOf (directiveFrame0 .resetSafe)) .resetSafe 0 9 0 0) := by
  refine ⟨⟨runs_sample _ rfl, rfl, ?_, hears_sample _ _ _ _ ?_⟩,
    ⟨runs_sample _ rfl, rfl, ?_, hears_sample _ _ _ _ ?_⟩,
    ⟨runs_sample _ rfl, rfl, rfl, ?_, hears_sample _ _ _ _ ?_⟩, ⟨rfl, rfl, rfl, ?_, hears_zero _ _ ?_⟩⟩ <;>
  first | (unfold State.CanOriginate State.PortIdle; decide) | (unfold State.Hears; decide +kernel)

/-- A RESUME that takes an exit at once: at the warm-up level in WARMUP, with the condition timer at 0 above the cool-end
temperature, at it in COOL, and with the gather watch met. -/
theorem witness_ModeDirectivesChangeMode_exits :
    ((heldAt .warmup).RunsCharge 417 9 ∧ (heldAt .warmup).store.current = some sampleRanked
        ∧ (heldAt .warmup).schedule.mode = .held ∧ (heldAt .warmup).schedule.position = .warmup
        ∧ (heldAt .warmup).CanOriginate)
      ∧ ((dryAt 530 (heldAt .warmup)).dryBulb = some 530
        ∧ ((sampleRecord.stepAt 1).map fun st => st.dryBulb - (sampleRecord.warmBand : Int)) = some 530)
      ∧ ((heldAt .condition).schedule.position = .condition ∧ (heldAt .condition).schedule.conditionTimer = 0
        ∧ (dryAt 301 (heldAt .condition)).dryBulb = some 301 ∧ sampleRecord.coolEnd < 301)
      ∧ ((dryAt 300 (heldAt .cool)).dryBulb = some 300 ∧ (300 : Int) ≤ sampleRecord.coolEnd)
      ∧ (gatherHeld.schedule.position = .gather ∧ gatherHeld.schedule.gatherArmed = true ∧ gatherHeld.schedule.mode = .held
        ∧ gatherHeld.dryBulb = some 529)
      ∧ gatherHeld.RosterMatched sampleRanked 0 :=
  ⟨⟨runs_sample _ rfl, rfl, rfl, rfl, by unfold State.CanOriginate State.PortIdle; decide⟩, by decide +kernel,
    by decide +kernel, by decide +kernel, by decide +kernel, matched_of_all _ _ _ (by decide +kernel)⟩

/-- R138: a RESET SAFE of charge 0 in IDLE that finds the mode RUN, or the emergency input asserted in SAFE. -/
theorem witness_ModeDirectivesChangeMode_released :
    ((emptyIn .run).HearsDirective (runOf (directiveFrame0 .resetSafe)) .resetSafe 0 9 0 0
        ∧ (emptyIn .run).schedule.mode ≠ .safe)
      ∧ (((emptyIn .safe).setPins { zone.pins with emergency := true }).HearsDirective
          (runOf (directiveFrame0 .resetSafe)) .resetSafe 0 9 0 0
        ∧ ((emptyIn .safe).setPins { zone.pins with emergency := true }).pins.emergency = true) := by
  refine ⟨⟨hears_zero _ _ ?_, by decide⟩, ⟨hears_zero _ _ ?_, rfl⟩⟩ <;> unfold State.Hears <;> decide +kernel

/-- R156: a release from SAFE in COOL sets the vent to 1000; one in DRYING keeps the vent of SAFE. -/
theorem test_reset_safe_outputs :
    ([Position.cool, .drying 1].map fun p =>
        (ran (.directiveResetSafe 417 9)
          (((zoneIn .safe).setSchedule { (zoneIn .safe).schedule with position := p }).setClimate
            { zone.climate with regime := .safe, vent := 800, heat := 0, integral := 0 })).map fun t =>
          (t.schedule.mode, t.climate.regime, t.climate.vent, t.climate.spActive))
      = [some (.held, .cooling, 1000, some 650), some (.held, .loops, 800, some 650)] := by decide +kernel

/-- Forms that are no directive: four payload bytes, the code of another directive, and a SKIP to phase 8. -/
theorem witness_ModeDirectivesChangeMode_forms :
    (zone.Hears .directive (runOf (frameFrom .directive [2, 0, 9, 0])) (frameFrom .directive [2, 0, 9, 0])
        ∧ [(2 : Byte), 0, 9, 0].length ≠ 5)
      ∧ (zone.Hears .directive (runOf (directiveFrame .resume 0 0)) (directiveFrame .resume 0 0)
        ∧ (directiveFrame .resume 0 0).payload.head? ≠ some (BitVec.ofNat 8 DirectiveKind.hold.code))
      ∧ (zone.Hears .directive (runOf (directiveFrame .skip 8 0)) (directiveFrame .skip 8 0)
        ∧ 7 < ((directiveFrame .skip 8 0).payload.getD 3 0).toNat) := by
  unfold State.Hears; decide +kernel

/-- Refusals: a RESET SAFE of charge 0 outside IDLE, a charge that is not the current one, another charge code, a HOLD in HELD, and
at the origin an occupied slot and an asserted emergency input. -/
theorem witness_ModeDirectivesChangeMode_refusals :
    (zone.HearsDirective (runOf (directiveFrame0 .resetSafe)) .resetSafe 0 9 0 0 ∧ zone.schedule.position ≠ .idle)
      ∧ ((emptyIn .run).HearsDirective (runOf (directiveFrame .hold 0 0)) .hold 417 9 0 0
        ∧ ∀ r, (emptyIn .run).currentRecord = some r → r.chargeNumber ≠ (417 : Word16).toNat)
      ∧ (otherCode.HearsDirective (runOf (directiveFrame .hold 0 0)) .hold 417 9 0 0
        ∧ otherCode.currentRecord = some { sampleRecord with chargeCode := 10 } ∧ 10 ≠ (9 : Word16).toNat)
      ∧ ((zoneIn .held).HearsDirective (runOf (directiveFrame .hold 0 0)) .hold 417 9 0 0
        ∧ (zoneIn .held).RunsCharge 417 9 ∧ (zoneIn .held).schedule.mode ≠ .run)
      ∧ (zone.PortIdle ∧ (withBus (fun b => { b with slots := fullSlots }) zone).bus.slots.directive.isSome = true
        ∧ zone.bus.slots.directive = none
        ∧ ((emptyIn .safe).setPins { zone.pins with emergency := true }).pins.emergency = true
        ∧ ((zoneIn .safe).setPins { zone.pins with emergency := true }).PortIdle) := by
  refine ⟨⟨hears_zero _ _ ?_, by decide⟩, ⟨hears_sample _ _ _ _ ?_, nofun⟩, ⟨hears_sample _ _ _ _ ?_, rfl, by decide⟩,
    ⟨hears_sample _ _ _ _ ?_, runs_sample _ rfl, by decide⟩, ?_⟩ <;>
  first | (unfold State.PortIdle; decide) | (unfold State.Hears; decide +kernel)

/-- R144: a SKIP from GATHER to EQUALIZE targets the last step's dry-bulb and the record's depression; the active depression is
the target's, SP_active the available dry-bulb, and I 0. -/
theorem test_skip_from_gather_sets_active_pair :
    (ran (.directiveSkip 417 9 4 0) (dryAt 412 (zoneAt .gather))).map (fun t =>
        (t.climate.targetDry, t.climate.targetDep, t.climate.activeDep, t.climate.spActive, t.climate.integral))
      = some (some 600, some 60, some 60, some 412, 0) := by decide +kernel

/-- From step 1 to step 2, EQUALIZE and COMPLETE; back to WARMUP, to step 1 itself and to step 13; a phase that is no code; and SAFE. -/
theorem witness_SkipEntersTargetStep :
    (zone.RunsCharge 417 9 ∧ zone.currentRecord = some sampleRecord ∧ zone.schedule.mode ≠ .safe ∧ zone.schedule.position ≠ .idle
        ∧ positionRank sampleRecord.stepCount zone.schedule.position = some 3
        ∧ ([Position.drying 2, .equalize, .complete, .warmup, .drying 1, .drying 13].map fun p =>
            (phaseCode p, stepCode p, positionRank sampleRecord.stepCount p)) =
          [(3, 2, some 4), (4, 0, some 5), (7, 0, some 8), (2, 0, some 2), (3, 1, some 3), (3, 13, none)]
        ∧ zone.CanOriginate)
      ∧ zone.HearsDirective (runOf (directiveFrame .skip 3 2)) .skip 417 9 3 2
      ∧ zone.HearsDirective (runOf (directiveFrame .skip 7 0)) .skip 417 9 7 0
      ∧ zone.HearsDirective (runOf (directiveFrame .skip 2 0)) .skip 417 9 2 0
      ∧ zone.onward sampleRecord (.drying 2) = [] ∧ (dryAt 300 zone).onward sampleRecord .cool = [.complete]
      ∧ 7 < (8 : Byte).toNat ∧ (zoneIn .safe).schedule.mode = .safe ∧ (zoneIn .safe).CanOriginate := by
  refine ⟨⟨runs_sample _ rfl, rfl, by decide, by decide, by decide +kernel, by decide +kernel, ?_⟩, hears_sample _ _ _ _ ?_,
    hears_sample _ _ _ _ ?_, hears_sample _ _ _ _ ?_, rfl, by decide +kernel, by decide, rfl, ?_⟩ <;>
  first | (unfold State.CanOriginate State.PortIdle; decide) | (unfold State.Hears; decide +kernel)

theorem witness_AbortEndsCharge :
    zone.RunsCharge 417 9 ∧ zone.HearsDirective (runOf (directiveFrame .abort 0 0)) .abort 417 9 0 0 ∧ zone.CanOriginate := by
  refine ⟨runs_sample _ rfl, hears_sample _ _ _ _ ?_, ?_⟩
  · unfold State.Hears; decide +kernel
  · unfold State.CanOriginate State.PortIdle; decide

/-- `stagedAt` with another record staged. -/
def stagedOther (r : ChargeRecord) : State :=
  (stagedAt .idle).setStore { (stagedAt .idle).store with staged := some { sampleRanked with record := r } }

/-- A START of the staged record, at a receiver and at the origin, and a late join in HELD; a START in DRYING, one of charge 0, one
with no record of its number staged, and one whose record has another charge code. -/
theorem witness_StartPromotes :
    ((stagedAt .idle).store.staged = some sampleRanked ∧ sampleRecord.chargeNumber = (417 : Word16).toNat
        ∧ sampleRecord.chargeCode = (9 : Word16).toNat ∧ (417 : Word16) ≠ 0
        ∧ (stagedAt .idle).currentRecord = none
        ∧ (stagedAt .idle).schedule.position = .idle ∧ (stagedAt .complete).schedule.position = .complete
        ∧ (stagedAt .idle).schedule.mode ≠ .safe ∧ 1 ≤ 12 ∧ 12 ≤ 32 ∧ sampleRecord.onRoster 12 = true
        ∧ 12 ≠ (stagedAt .idle).straps.station ∧ (stagedAt .idle).peers.entry 12 = none)
      ∧ (stagedAt .idle).HearsDirective (runOf (directiveFrame .start 0 0)) .start 417 9 0 0
      ∧ (stagedAt .idle).CanOriginate
      ∧ (((stagedAt .idle).setSchedule { (stagedAt .idle).schedule with mode := .held }).Hears .report
            (runOf (reportFrame (reportAt (.drying 2)))) (reportFrame (reportAt (.drying 2)))
        ∧ parseReport 417 (reportPayload (reportAt (.drying 2))) = some (reportAt (.drying 2))
        ∧ (reportAt (.drying 2)).charge = (417 : Word16).toNat ∧ (reportAt (.drying 2)).check = sampleRanked.check
        ∧ (reportAt (.drying 2)).position ≠ .idle ∧ sampleRecord.onRoster 3 = true ∧ Mode.held ≠ .run)
      ∧ zone.HearsDirective (runOf (directiveFrame .start 0 0)) .start 417 9 0 0
      ∧ (stagedAt .idle).HearsDirective (runOf (directiveFrame0 .start)) .start 0 9 0 0
      ∧ ((stagedOther otherRecord).HearsDirective (runOf (directiveFrame .start 0 0)) .start 417 9 0 0
        ∧ ∀ r, (stagedOther otherRecord).store.staged = some r → r.record.chargeNumber ≠ (417 : Word16).toNat)
      ∧ (stagedOther { sampleRecord with chargeCode := 10 }).HearsDirective (runOf (directiveFrame .start 0 0)) .start 417 9 0 0
      ∧ zone.CanOriginate ∧ (stagedOther otherRecord).CanOriginate := by
  refine ⟨by decide +kernel, hears_sample _ _ _ _ ?_, ?_, ?_, hears_sample _ _ _ _ ?_, hears_zero _ _ ?_,
    ⟨hears_sample _ _ _ _ ?_, by intro r h; cases h; decide⟩, hears_sample _ _ _ _ ?_, ?_, ?_⟩ <;>
  first | (unfold State.CanOriginate State.PortIdle; decide) | (unfold State.Hears; decide +kernel)

/-- The watch waits with no roster station heard, and is met with station 12 matched at the report of station 3, which is then
followed; reports that join nothing, in SAFE, of another charge, of another check, and of station 9 off the roster. -/
theorem witness_StartPromotes_watch :
    ¬(stagedAt .idle).RosterMatched sampleRanked 0 ∧ (withMatched 12 (stagedAt .idle)).RosterMatched sampleRanked 3
      ∧ (withMatched 12 (stagedAt .idle)).FollowMet sampleRanked .warmup 3 (reportAt (.drying 2))
      ∧ ((stagedAt .idle).schedule.position = .idle ∧ (stagedAt .idle).store.current = none
        ∧ (stagedAt .idle).Hears .report (runOf (reportFrame strayReport)) (reportFrame strayReport)
        ∧ strayReport.charge ≠ sampleRecord.chargeNumber ∧ (0x5C3F : Word16) ≠ sampleRanked.check
        ∧ sampleRecord.onRoster 9 = false ∧ (stagedAt .complete).schedule.position = .complete
        ∧ ((stagedAt .idle).setSchedule { (stagedAt .idle).schedule with mode := .safe }).schedule.mode = .safe) := by
  refine ⟨fun h => ?_, matched_of_all _ _ _ (by decide +kernel),
    ⟨by decide +kernel, rfl, rfl, rfl, rfl, by decide, 2, 4, by decide +kernel⟩, by unfold State.Hears; decide +kernel⟩
  obtain ⟨e, he, _⟩ := h 12 (by decide) (by decide) (by decide +kernel) (by decide) (by decide)
  have hn : (stagedAt .idle).peers.entry 12 = none := by decide +kernel
  rw [hn] at he
  cases he

theorem witness_SafeIsEntered :
    zone.pins.emergency = false ∧ zone.schedule.mode ≠ .safe ∧ (zoneIn .safe).schedule.mode = .safe
      ∧ zone.RingBounded ∧ zone.attention.stamp .safe = none ∧ (latch .safe zone).attention.stamp .safe ≠ none
      ∧ zone.bus.clash = false ∧ (withBus Bus.clashed zone).bus.clash = true
      ∧ zone.Hears .safe (runOf (frameFrom .safe [1])) (frameFrom .safe [1])
      ∧ (zoneIn .safe).Hears .safe (runOf (frameFrom .safe [1])) (frameFrom .safe [1]) := by
  unfold State.Hears State.RingBounded; decide +kernel

/-- R136, R156, R159: the MODE record before that of SAFE, and the vent at the safe vent position, or 1000 with the rank empty. -/
theorem test_safe_records_and_vent :
    ((ran .emergencyAssertion zone).map fun t => (t.trace.records.map (·.kind), t.climate.vent))
        = some ([.mode, .condition .safe], 800)
      ∧ ((ran .emergencyAssertion (emptyIn .held)).map (·.climate.vent)) = some 1000 := by decide +kernel

/-- HOLD in HELD, RESUME in RUN, and RESET SAFE outside SAFE, for the charge and for charge 0 in IDLE. -/
theorem witness_ModeDirectivesChangeMode_repeated :
    ((zoneIn .held).RunsCharge 417 9 ∧ (zoneIn .held).schedule.mode ≠ .run ∧ (zoneIn .held).PortIdle)
      ∧ (zone.RunsCharge 417 9 ∧ zone.schedule.mode ≠ .held ∧ zone.schedule.mode ≠ .safe ∧ zone.PortIdle
        ∧ zone.bus.slots.directive = none ∧ zone.pins.emergency = false)
      ∧ (emptyIn .run).schedule.position = .idle ∧ (emptyIn .run).schedule.mode ≠ .safe ∧ (emptyIn .run).PortIdle := by
  refine ⟨⟨runs_sample _ rfl, ?_⟩, ⟨runs_sample _ rfl, ?_⟩, ?_⟩ <;> unfold State.PortIdle <;> decide

/-- A ring with room, one that is full, a latched condition and clear ones; and a command that leaves a stamp. -/
theorem witness_ClearAndMaskActOnAttention_latching :
    zone.RingBounded ∧ (zone.setTrace { zone.trace with records := List.replicate 512 (zone.traceRecord .mode) }).RingBounded
      ∧ (latch .safe zone).attention.stamp .safe = some 0
      ∧ (latchAll [.stepAdvanced, .safe, .rosterShort] (latch .safe zone)).trace.records.map (·.kind)
        = [.condition .safe, .condition .rosterShort, .condition .stepAdvanced]
      ∧ (latchAll [.stepAdvanced, .rosterShort]
          (zone.setTrace { zone.trace with records := List.replicate 511 (zone.traceRecord .mode) })).attention.stamp
            .traceOverrun = some 0
      ∧ (ran .emergencyAssertion (latch .badOffer zone)).map (fun t => t.attention.stamp .badOffer) = some (some 0) := by
  unfold State.RingBounded; decide +kernel

/-- SAFE latched in RUN, its cause over, and in SAFE, its cause holding; a condition without a cause. -/
theorem witness_ClearAndMaskActOnAttention_causes :
    (¬(latch .safe zone).PersistentCause .safe ∧ (latch .safe (zoneIn .safe)).PersistentCause .safe
        ∧ (withBus Bus.clashed zone).PersistentCause .addressClash ∧ ¬(latch .badOffer zone).PersistentCause .badOffer)
      ∧ (latch .safe zone).attention.HasLevel (some .fatal) :=
  ⟨by unfold State.PersistentCause; decide +kernel, by
    refine ⟨⟨nofun, fun h => absurd (h .safe) (by decide +kernel)⟩, fun k => ⟨?_, fun ⟨⟨c, hc, hl⟩, _⟩ => ?_⟩⟩
    · rintro ⟨⟩
      exact ⟨⟨.safe, rfl, by decide +kernel⟩, fun c _ => Nat.zero_le _⟩
    · have : ∀ c : Condition, (latch .safe zone).attention.stamp c ≠ none → c = .safe := by
        intro c; cases c <;> decide +kernel
      rw [← hc, this c hl]; rfl⟩

theorem witness_ClearAndMaskActOnAttention :
    (latch .safe zone).AttentionJudged ∧ (latch .safe zone).port.sending = none ∧ (latch .safe zone).port.busy = []
      ∧ (0x3F : Byte).getLsbD 6 = false ∧ (0x3F : Byte).getLsbD 7 = false := by
  unfold State.AttentionJudged; decide +kernel

/-- The service port of `zone` with a response being sent and BUSY answers owed. -/
def occupied (busy : List Byte) : State :=
  zone.setPort { zone.port with sending := some (responseOf 0x02 (.done [])), busy := busy }

/-- An idle port; stations 32, 0 and 33; class sets with bit 6 and bit 7; the calibrate-request flag set; a port with three and with
four kinds in its BUSY list; and rows of a known and of an unknown kind. -/
theorem witness_IdlePortAnswersRequests :
    zone.port.sending = none ∧ zone.port.busy = [] ∧ 1 ≤ (32 : Byte).toNat ∧ (32 : Byte).toNat ≤ 32
      ∧ (0 : Byte).toNat = 0 ∧ 32 < (33 : Byte).toNat ∧ (0x40 : Byte).getLsbD 6 = true ∧ (0x80 : Byte).getLsbD 7 = true
      ∧ zone.frontEnd.calRequest = false
      ∧ (zone.setFrontEnd { zone.frontEnd with calRequest := true }).frontEnd.calRequest = true
      ∧ (occupied [1, 2, 3]).port.sending.isSome = true ∧ (occupied [1, 2, 3]).port.busy.length < 4
      ∧ ¬(occupied [1, 2, 3, 4]).port.busy.length < 4
      ∧ (requestBytes (.directiveHold 417 9)).map (·.1) = some 0x03 ∧ requestBytes (.unknownRequest 9) = none := by
  decide +kernel

/-- HUNT with a start byte and without; ASSEMBLING with no byte taken, at the length bytes 250 and 251, at the last CRC byte; a
response with and without a BUSY answer owed. Then a READ PEER with the right CRC and one bit of it turned, with a byte error and
with a dominant stop bit, and the kinds and lengths that no row has. -/
theorem witness_ServicePortAssemblesAndAnswers :
    zone.port.rx = .hunt ∧ ((0x5B : Byte) ≠ 0x5A) ∧ (250 : Byte).toNat ≤ 250 ∧ 250 < (251 : Byte).toNat
      ∧ (2 ≤ [0x02, (0 : Byte), 0].length ∧ [0x02, (0 : Byte), 0].length + 1 = 4 + ([0x02, (0 : Byte), 0].getD 1 0).toNat)
      ∧ ([0x02, (1 : Byte)].length + 1 < 4 + ([0x02, (1 : Byte)].getD 1 0).toNat)
      ∧ ((occupied []).port.sending.isSome = true ∧ (occupied [1, 2, 3, 4]).port.busy = 1 :: [2, 3, 4])
      ∧ (∃ c1 c2 : Byte,
        (zone.setPort { zone.port with rx := .assembling (0x07 :: BitVec.ofNat 8 [(32 : Byte)].length :: [32] ++ [c1]) false }).port.rx
            = .assembling [0x07, 1, 32, c1] false
          ∧ [c1, c2] = twoBytes (crc (0x07 :: BitVec.ofNat 8 [(32 : Byte)].length :: [32])).toNat
          ∧ [c1, c2 + 1] ≠ twoBytes (crc (0x07 :: BitVec.ofNat 8 [(32 : Byte)].length :: [32])).toNat)
      ∧ requestBytes (.readPeer 32) = some (0x07, [32])
      ∧ (0 : Byte).toNat = 0 ∧ 13 < (14 : Byte).toNat ∧ (0x05 : Byte) ∈ [0x02#8, 0x04, 0x05, 0x06, 0x08, 0x09, 0x0A, 0x0D]
      ∧ ([32, 1] : List Byte).length ≠ 1 ∧ ([1] : List Byte).length ≠ 7
      ∧ ((2 : Byte).toNat = DirectiveKind.hold.code ∧ ∀ k : DirectiveKind, (7 : Byte).toNat ≠ k.code)
      ∧ ([2, 1, 161, 0, 9, 5, 0] : List Byte) = 2 :: (twoBytes (417 : Word16).toNat ++ twoBytes (9 : Word16).toNat ++ [5, 0]) := by
  refine ⟨rfl, by decide, by decide, by decide, by decide, by decide, ⟨rfl, rfl⟩,
    ⟨(crc [0x07, 1, 32]).extractLsb' 8 8, (crc [0x07, 1, 32]).extractLsb' 0 8, rfl, by decide +kernel, by decide +kernel⟩, rfl,
    rfl, by decide, by decide, by decide, by decide, ⟨rfl, fun k => by cases k <;> decide⟩, by decide +kernel⟩

/-- A record taken into a rank with its own check is sound when it is valid. -/
theorem ranked_sound (r : ChargeRecord) (h : r.valid = true) : (ranked r).Sound := by
  simp [RankedRecord.Sound, ranked, h]

/-- `zone` with the current record's own check, its regime that of DRYING in RUN. -/
def soundZone : State := zone.setStore { staged := none, current := some (ranked sampleRecord), holdoff := 0 }

theorem witness_StepsKeepRanksAndPosition :
    soundZone.RanksSound ∧ soundZone.PositionSound ∧ ∃ t, step (soundZone.setPending [.clearStaged]) = .next t :=
  ⟨⟨nofun, by intro r h; cases h; exact ranked_sound _ (by decide +kernel), nofun⟩,
    ⟨⟨nofun, nofun⟩, by intro r h; cases h; decide +kernel⟩, ⟨_, rfl⟩⟩

theorem witness_StepsKeepOutputsAndRegime :
    soundZone.OutputsBounded ∧ soundZone.RegimeSound ∧ State.reset.straps.role = .probe ∧ State.reset.ProbeAtRest := by
  unfold State.OutputsBounded State.RegimeSound State.ProbeAtRest; decide +kernel

/-- A latched, silenced, measured station with a request waiting. -/
def busyStation : State :=
  (withBus Bus.clashed (latch .addressClash (zone.setReadings (convertSweep workedInputs workedSamples)))).setPort
    { zone.port with sending := some (responseOf 0x02 (.done [])), busy := [1, 2, 3, 4] }

theorem witness_StepsKeepRingAttentionBusReadingsPort :
    busyStation.RingBounded ∧ busyStation.AttentionJudged ∧ busyStation.ClashSilent ∧ busyStation.PortSound
      ∧ ((withBus (fun b => { b with slots := fullSlots, blockedTimer := 7 }) zone).OfferNamed
        ∧ (withBus (fun b => { b with slots := fullSlots, blockedTimer := 7 }) zone).BlockedTimed)
      ∧ busyStation.readings.map (·.channel) = [1, 2, 3, 4, 5, 6, 7, 8]
      ∧ busyStation.readings.all (fun r => r.mc.isSome == !r.flags.noValue && (r.mc.all fun m => decide (m ≤ 800))) = true := by
  refine ⟨?_, ?_, ?_, ?_, ⟨?_, fun _ => ⟨.safe, rfl⟩⟩, ?_, ?_⟩
  · unfold State.RingBounded; decide +kernel
  · unfold State.AttentionJudged; decide +kernel
  · unfold State.ClashSilent; decide +kernel
  · unfold State.PortSound; decide +kernel
  · intro o h; cases h; exact nofun
  · decide +kernel
  · decide +kernel

theorem witness_PositionNeverFallsBack :
    soundZone.currentRank = some 3
      ∧ ∃ t, step (soundZone.setPending [.minuteTick]) = .next t ∧ t.store.current = soundZone.store.current
          ∧ t.currentRank = some 3 :=
  ⟨by decide +kernel, _, rfl, rfl, by decide +kernel⟩

end Sys2Proof.Tests
end

section
/-! The moisture arithmetic of chapter 2: rounding, the reference correction, the species curve, and what a converted
reading holds. -/

namespace Sys2Proof.Machine

/-! ## Rounding (0.7.2) -/

theorem halfAway_of_nonneg {a b : Int} (ha : 0 ≤ a) (hb : 0 < b) : halfAway a b = (2 * a + b) / (2 * b) := by
  have hsign : decide (a < 0) = decide (b < 0) := by simp [ha.not_gt, hb.le.not_gt]
  rw [halfAway, if_pos hsign, halfUp]
  push_cast
  rw [abs_of_nonneg ha, abs_of_pos hb]

theorem halfAway_of_neg {a b : Int} (ha : a < 0) (hb : 0 < b) : halfAway a b = -((-2 * a + b) / (2 * b)) := by
  have hsign : ¬decide (a < 0) = decide (b < 0) := by simp [ha, hb.le]
  rw [halfAway, if_neg hsign, halfUp]
  push_cast
  rw [abs_of_neg ha, abs_of_pos hb, mul_neg, neg_mul]

/-- A whole number that is at most the exact quotient is at most the rounded one. -/
theorem le_halfAway {a b k : Int} (hb : 0 < b) (h : k * b ≤ a) : k ≤ halfAway a b := by
  by_cases ha : 0 ≤ a
  · rw [halfAway_of_nonneg ha hb, Int.le_ediv_iff_mul_le (by omega)]
    linarith
  · have hquot : (-2 * a + b) / (2 * b) < -k + 1 := by
      rw [Int.ediv_lt_iff_lt_mul (by omega)]
      linarith
    rw [halfAway_of_neg (not_le.mp ha) hb]
    omega

/-- A whole number that is at least the exact quotient is at least the rounded one. -/
theorem halfAway_le {a b k : Int} (hb : 0 < b) (h : a ≤ k * b) : halfAway a b ≤ k := by
  by_cases ha : 0 ≤ a
  · have hquot : (2 * a + b) / (2 * b) < k + 1 := by
      rw [Int.ediv_lt_iff_lt_mul (by omega)]
      linarith
    rw [halfAway_of_nonneg ha hb]
    omega
  · have hquot : -k ≤ (-2 * a + b) / (2 * b) := by
      rw [Int.le_ediv_iff_mul_le (by omega)]
      linarith
    rw [halfAway_of_neg (not_le.mp ha) hb]
    omega

/-- The quotient of R30: a part of a fall, rounded, is no rise and not more than the whole fall. -/
theorem halfAway_part_of_fall {fall x width : Int} (hfall : fall ≤ 0) (hx : 0 ≤ x) (hxw : x ≤ width) (hw : 0 < width) :
    fall ≤ halfAway (fall * x) width ∧ halfAway (fall * x) width ≤ 0 :=
  ⟨le_halfAway hw (mul_le_mul_of_nonpos_left hxw hfall),
    halfAway_le hw (by rw [zero_mul]; exact mul_nonpos_of_nonpos_of_nonneg hfall hx)⟩

/-! ## The mean and the spread of four samples (R22) -/

theorem meanOfFour_four (a b c d : Nat) : meanOfFour [a, b, c, d] = (a + b + c + d + 2) / 4 := by
  simp only [meanOfFour, sumOf, halfUp, List.foldl]
  omega

theorem spreadOf_four (a b c d : Nat) :
    spreadOf [a, b, c, d] = max (max a b) (max c d) - min (min a b) (min c d) := by
  simp [spreadOf, max_assoc, min_assoc]

theorem roundingRules : RoundingRules := by
  refine ⟨fun a b hb => ?_, fun a b c d => ⟨meanOfFour_four a b c d, spreadOf_four a b c d⟩⟩
  split
  · next ha => exact halfAway_of_nonneg ha hb
  · next ha => exact halfAway_of_neg (not_le.mp ha) hb

/-! ## The shared inputs (R19, R29) -/

theorem conversionInputs_of_current {s : State} {r : RankedRecord} (h : s.store.current = some r) :
    s.conversionInputs.curve = r.record.curve ∧ s.conversionInputs.coeff = r.record.tempCoeff := by
  simp [State.conversionInputs, State.currentRecord, h]

theorem conversionInputs_of_empty {s : State} (h : s.store.current = none) :
    s.conversionInputs.curve = defaultCurve ∧ s.conversionInputs.coeff = defaultCoeff := by
  simp [State.conversionInputs, State.currentRecord, h]

theorem conversionRules : ConversionRules := fun _ =>
  ⟨rfl, rfl, rfl, rfl, rfl, fun _ => conversionInputs_of_current, conversionInputs_of_empty⟩

/-! ## The corrected grade (R23, R24) -/

/-- A bound on the exact quotient of R23 is a bound on the grade: below. -/
theorem le_correctedGrade {lo hi g : Nat} {k : Int} (hpair : lo < hi)
    (h : (k - 700) * ((hi : Int) - lo) ≤ ((g : Int) - lo) * 300) : k ≤ correctedGrade lo hi g := by
  have hquot := le_halfAway (by omega) h
  unfold correctedGrade
  omega

/-- A bound on the exact quotient of R23 is a bound on the grade: above. -/
theorem correctedGrade_le {lo hi g : Nat} {k : Int} (hpair : lo < hi)
    (h : ((g : Int) - lo) * 300 ≤ (k - 700) * ((hi : Int) - lo)) : correctedGrade lo hi g ≤ k := by
  have hquot := halfAway_le (by omega) h
  unfold correctedGrade
  omega

/-- Settles O14: the bounds on the exact quotient are linear in the pair and the raw grade, and the rounding keeps them. -/
theorem correctedGradeBounded : Obligations.CorrectedGradeBounded := by
  refine ⟨fun lo hi g hlo hlo' hhi hhi' hg hg' => ?_, by decide, by decide, by decide, by decide⟩
  have hpair : lo < hi := by omega
  exact ⟨le_correctedGrade hpair (by omega), correctedGrade_le hpair (by omega), le_correctedGrade hpair (by omega),
    correctedGrade_le hpair (by omega)⟩

/-! ## Valid curves (field 28 of R93) -/

theorem curveValid_cons_cons {p q : Breakpoint} {rest : List Breakpoint} :
    curveValid (p :: q :: rest) = true ↔
      (400 ≤ p.grade ∧ p.grade ≤ 1300) ∧ p.mc ≤ 800 ∧ p.grade < q.grade ∧ q.mc ≤ p.mc ∧ curveValid (q :: rest) = true := by
  simp [curveValid, inRange, and_assoc]

theorem curveValid_tail {p : Breakpoint} {rest : List Breakpoint} (h : curveValid (p :: rest) = true) :
    curveValid rest = true := by
  cases rest with
  | nil => rfl
  | cons q rest =>
    obtain ⟨-, -, -, -, hrest⟩ := curveValid_cons_cons.mp h
    exact hrest

theorem curveValid_append_right {before after : List Breakpoint} (h : curveValid (before ++ after) = true) :
    curveValid after = true := by
  induction before with
  | nil => exact h
  | cons b before ih => exact ih (curveValid_tail h)

theorem curveValid_pairwise {curve : List Breakpoint} (h : curveValid curve = true) :
    curve.Pairwise (fun p q => p.grade < q.grade) := by
  induction curve with
  | nil => exact .nil
  | cons p rest ih =>
    have hrest := ih (curveValid_tail h)
    refine .cons (fun x hx => ?_) hrest
    cases rest with
    | nil => cases hx
    | cons q rest =>
      obtain ⟨-, -, hpq, -, -⟩ := curveValid_cons_cons.mp h
      obtain rfl | hx := List.mem_cons.mp hx
      · exact hpq
      · exact hpq.trans (List.rel_of_pairwise_cons hrest hx)

theorem head_grade_le_of_curveValid {curve : List Breakpoint} {p x : Breakpoint} (h : curveValid curve = true)
    (hp : curve.head? = some p) (hx : x ∈ curve) : p.grade ≤ x.grade := by
  obtain ⟨rest, rfl⟩ := List.head?_eq_some_iff.mp hp
  obtain rfl | hx := List.mem_cons.mp hx
  · exact le_rfl
  · exact (List.rel_of_pairwise_cons (curveValid_pairwise h) hx).le

theorem grade_le_getLast_of_curveValid {curve : List Breakpoint} {p x : Breakpoint} (h : curveValid curve = true)
    (hp : curve.getLast? = some p) (hx : x ∈ curve) : x.grade ≤ p.grade := by
  obtain ⟨before, rfl⟩ := List.getLast?_eq_some_iff.mp hp
  obtain ⟨-, -, hlast⟩ := List.pairwise_append.mp (curveValid_pairwise h)
  obtain hx | hx := List.mem_append.mp hx
  · exact (hlast x hx p (List.mem_singleton_self p)).le
  · rw [List.mem_singleton.mp hx]

/-! ## The ends of the curve (R31) -/

theorem belowCurve_of_head {curve : List Breakpoint} {p : Breakpoint} (hp : curve.head? = some p) (g : Int) :
    belowCurve curve g = decide (g < p.grade) := by
  rw [belowCurve, hp]

theorem aboveCurve_of_getLast {curve : List Breakpoint} {p : Breakpoint} (hp : curve.getLast? = some p) (g : Int) :
    aboveCurve curve g = decide ((p.grade : Int) < g) := by
  rw [aboveCurve, hp]

theorem belowCurve_eq_false {curve : List Breakpoint} {x : Breakpoint} {g : Int} (h : curveValid curve = true)
    (hx : x ∈ curve) (hg : (x.grade : Int) ≤ g) : belowCurve curve g = false := by
  cases hp : curve.head? with
  | none => rw [belowCurve, hp]
  | some p =>
    have hle := head_grade_le_of_curveValid h hp hx
    rw [belowCurve_of_head hp, decide_eq_false_iff_not]
    omega

theorem aboveCurve_eq_false {curve : List Breakpoint} {x : Breakpoint} {g : Int} (h : curveValid curve = true)
    (hx : x ∈ curve) (hg : g ≤ x.grade) : aboveCurve curve g = false := by
  cases hp : curve.getLast? with
  | none => rw [aboveCurve, hp]
  | some p =>
    have hle := grade_le_getLast_of_curveValid h hp hx
    rw [aboveCurve_of_getLast hp, decide_eq_false_iff_not]
    omega

/-- No grade lies on both sides of a valid curve: a grade below it is not above its first breakpoint. -/
theorem not_belowCurve_and_aboveCurve {curve : List Breakpoint} (h : curveValid curve = true) (g : Int) :
    ¬(belowCurve curve g = true ∧ aboveCurve curve g = true) := by
  rintro ⟨hbelow, habove⟩
  cases curve with
  | nil => cases hbelow
  | cons p rest =>
    have hlt : g < p.grade := of_decide_eq_true hbelow
    rw [aboveCurve_eq_false h List.mem_cons_self hlt.le] at habove
    cases habove

/-! ## The curve between its ends (R30) -/

theorem curveBetween_at_head (q : Breakpoint) (rest : List Breakpoint) : curveBetween (q :: rest) q.grade = q.mc := by
  cases rest <;> simp [curveBetween]

/-- On a segment the curve gives the value of R30. -/
theorem curveBetween_segment {p q : Breakpoint} {g : Int} (rest : List Breakpoint) (hg : g ≤ q.grade) :
    curveBetween (p :: q :: rest) g =
      if g = p.grade then (p.mc : Int) else if g = q.grade then (q.mc : Int)
      else p.mc + halfAway (((q.mc : Int) - p.mc) * (g - p.grade)) ((q.grade : Int) - p.grade) := by
  by_cases hq : g = q.grade
  · subst hq
    simp [curveBetween, curveBetween_at_head]
  · simp [curveBetween, hq, lt_of_le_of_ne hg hq]

theorem curveBetween_skip {b q : Breakpoint} {g : Int} (rest : List Breakpoint) (hb : (b.grade : Int) < g)
    (hq : (q.grade : Int) ≤ g) : curveBetween (b :: q :: rest) g = curveBetween (q :: rest) g := by
  simp [curveBetween, hb.ne', hq.not_gt]

/-- Breakpoints before one that is not above the grade play no part. -/
theorem curveBetween_append {before rest : List Breakpoint} {p : Breakpoint} {g : Int}
    (h : curveValid (before ++ p :: rest) = true) (hg : (p.grade : Int) ≤ g) :
    curveBetween (before ++ p :: rest) g = curveBetween (p :: rest) g := by
  induction before with
  | nil => rfl
  | cons b before ih =>
    have htail := curveValid_tail h
    rw [List.cons_append, ← ih htail]
    have hb : b.grade < p.grade := List.rel_of_pairwise_cons (curveValid_pairwise h) (by simp)
    cases hnext : before ++ p :: rest with
    | nil => simp at hnext
    | cons q after =>
      have hq : q.grade ≤ p.grade :=
        head_grade_le_of_curveValid htail (by simp [hnext]) (by simp)
      exact curveBetween_skip after (by omega) (by omega)

theorem curveMc_of_not_below {curve : List Breakpoint} {g : Int} (h : belowCurve curve g = false) :
    curveMc curve g = curveBetween curve g := by
  simp [curveMc, h]

theorem curveMc_below {curve : List Breakpoint} {p : Breakpoint} {g : Int} (hp : curve.head? = some p)
    (h : belowCurve curve g = true) : curveMc curve g = p.mc := by
  simp [curveMc, h, hp]

theorem curveMc_segment {before after : List Breakpoint} {p q : Breakpoint} {g : Int}
    (h : curveValid (before ++ p :: q :: after) = true) (hp : (p.grade : Int) ≤ g) (hq : g ≤ q.grade) :
    curveMc (before ++ p :: q :: after) g =
      if g = p.grade then (p.mc : Int) else if g = q.grade then (q.mc : Int)
      else p.mc + halfAway (((q.mc : Int) - p.mc) * (g - p.grade)) ((q.grade : Int) - p.grade) := by
  rw [curveMc_of_not_below (belowCurve_eq_false h (x := p) (by simp) hp), curveBetween_append h hp,
    curveBetween_segment after hq]

theorem curveMc_segment_bounds {before after : List Breakpoint} {p q : Breakpoint} {g : Int}
    (h : curveValid (before ++ p :: q :: after) = true) (hp : (p.grade : Int) ≤ g) (hq : g ≤ q.grade) :
    (q.mc : Int) ≤ curveMc (before ++ p :: q :: after) g ∧ curveMc (before ++ p :: q :: after) g ≤ p.mc := by
  obtain ⟨-, -, hgrade, hmc, -⟩ := curveValid_cons_cons.mp (curveValid_append_right h)
  have hfall := halfAway_part_of_fall (fall := (q.mc : Int) - p.mc) (x := g - p.grade) (width := (q.grade : Int) - p.grade)
    (by omega) (by omega) (by omega) (by omega)
  rw [curveMc_segment h hp hq]
  split_ifs <;> omega

theorem curveMc_above {curve : List Breakpoint} {p : Breakpoint} {g : Int} (h : curveValid curve = true)
    (hp : curve.getLast? = some p) (hg : (p.grade : Int) < g) : curveMc curve g = p.mc := by
  rw [curveMc_of_not_below (belowCurve_eq_false h (List.mem_of_getLast? hp) hg.le)]
  obtain ⟨before, rfl⟩ := List.getLast?_eq_some_iff.mp hp
  rw [curveBetween_append h hg.le, curveBetween]

/-- Settles O15: the breakpoints before the grade's segment play no part, and a part of a segment's fall is between
nothing and the whole of it. -/
theorem curveInterpolates : Obligations.CurveInterpolates := by
  refine fun curve g h => ⟨?segment, ?below, ?above⟩
  case segment =>
    rintro before after p q rfl hp hq
    obtain ⟨hlow, hhigh⟩ := curveMc_segment_bounds h hp hq
    obtain ⟨-, hmc, -, -, -⟩ := curveValid_cons_cons.mp (curveValid_append_right h)
    exact ⟨curveMc_segment h hp hq, hlow, hhigh, by omega, by omega, belowCurve_eq_false h (x := p) (by simp) hp,
      aboveCurve_eq_false h (x := q) (by simp) hq⟩
  case below =>
    intro p hp hg
    have hbelow : belowCurve curve g = true := by rw [belowCurve_of_head hp, decide_eq_true hg]
    exact ⟨curveMc_below hp hbelow, hbelow⟩
  case above =>
    intro p hp hg
    exact ⟨curveMc_above h hp hg, by rw [aboveCurve_of_getLast hp, decide_eq_true hg]⟩

/-! ## A converted reading (R25 to R28, R31, R33) -/

/-- A conversion stops after stage 3 without a value, or goes through all five stages with the dry-bulb that stands. -/
theorem convertChannel_cases (inp : ConversionInputs) (channel : Nat) (samples : List Nat) :
    let grade := correctedGrade inp.mLo inp.mHi (meanOfFour samples)
    let flags := classify grade (spreadOf samples) (inp.refFault || inp.dryBulb.isNone)
    (flags.noValue = true ∧ convertChannel inp channel samples =
        { channel := channel, mc := none, grade := grade, spread := spreadOf samples, flags := flags
          dryBulb := inp.dryBulb })
      ∨ flags.noValue = false ∧ ∃ t, inp.dryBulb = some t ∧ convertChannel inp channel samples =
        { channel := channel, mc := some (moistureOf (curveMc inp.curve grade) (tempFactor inp.coeff t)), grade := grade
          spread := spreadOf samples, dryBulb := inp.dryBulb
          flags := { flags with wetLimit := belowCurve inp.curve grade, dryLimit := aboveCurve inp.curve grade } } := by
  intro grade flags
  cases hvalue : flags.noValue with
  | true =>
    refine .inl ⟨rfl, ?_⟩
    simp only [convertChannel]
    split
    · next hfalse _ => exact absurd (hfalse.symm.trans hvalue) Bool.false_ne_true
    · rfl
  | false =>
    cases hdry : inp.dryBulb with
    | none => simp [flags, classify, ReadingFlags.noValue, hdry] at hvalue
    | some t =>
      refine .inr ⟨rfl, t, rfl, ?_⟩
      simp only [convertChannel]
      split
      · next t' _ hsome => rw [Option.some.inj (hsome.symm.trans hdry), ← hdry]
      · next hnot => exact absurd hdry (hnot t hvalue)

section
variable (inp : ConversionInputs) (channel : Nat) (samples : List Nat)

@[simp] theorem convertChannel_channel : (convertChannel inp channel samples).channel = channel := by
  obtain ⟨-, h⟩ | ⟨-, t, -, h⟩ := convertChannel_cases inp channel samples <;> rw [h]

@[simp] theorem convertChannel_dryBulb : (convertChannel inp channel samples).dryBulb = inp.dryBulb := by
  obtain ⟨-, h⟩ | ⟨-, t, -, h⟩ := convertChannel_cases inp channel samples <;> rw [h]

@[simp] theorem convertChannel_spread : (convertChannel inp channel samples).spread = spreadOf samples := by
  obtain ⟨-, h⟩ | ⟨-, t, -, h⟩ := convertChannel_cases inp channel samples <;> rw [h]

theorem convertChannel_grade :
    (convertChannel inp channel samples).grade = correctedGrade inp.mLo inp.mHi (meanOfFour samples) := by
  obtain ⟨-, h⟩ | ⟨-, t, -, h⟩ := convertChannel_cases inp channel samples <;> rw [h]

/-- Stage 3 sets every flag but the two limit flags, and stage 4 leaves them as they are. -/
theorem convertChannel_flags :
    (convertChannel inp channel samples).flags =
      { classify (convertChannel inp channel samples).grade (spreadOf samples) (inp.refFault || inp.dryBulb.isNone) with
        wetLimit := (convertChannel inp channel samples).flags.wetLimit
        dryLimit := (convertChannel inp channel samples).flags.dryLimit } := by
  obtain ⟨-, h⟩ | ⟨-, t, -, h⟩ := convertChannel_cases inp channel samples <;> rw [h]

/-- R28: a value is there exactly where no flag denies it. -/
theorem convertChannel_mc_isSome :
    (convertChannel inp channel samples).mc.isSome = !(convertChannel inp channel samples).flags.noValue := by
  obtain ⟨hvalue, h⟩ | ⟨hvalue, t, -, h⟩ := convertChannel_cases inp channel samples
  · simp [h, hvalue]
  · simpa [h, ReadingFlags.noValue] using hvalue

theorem convertChannel_wetLimit :
    (convertChannel inp channel samples).flags.wetLimit =
      ((convertChannel inp channel samples).mc.isSome && belowCurve inp.curve (convertChannel inp channel samples).grade) := by
  obtain ⟨-, h⟩ | ⟨-, t, -, h⟩ := convertChannel_cases inp channel samples <;> rw [h] <;> rfl

theorem convertChannel_dryLimit :
    (convertChannel inp channel samples).flags.dryLimit =
      ((convertChannel inp channel samples).mc.isSome && aboveCurve inp.curve (convertChannel inp channel samples).grade) := by
  obtain ⟨-, h⟩ | ⟨-, t, -, h⟩ := convertChannel_cases inp channel samples <;> rw [h] <;> rfl
end

section
variable {inp : ConversionInputs} {channel : Nat} {samples : List Nat}

/-- Stages 4 and 5: the value is formed from the curve's and from the temperature factor of the dry-bulb that stands. -/
theorem convertChannel_mc_eq {m : Nat} {x : Int} (hm : (convertChannel inp channel samples).mc = some m)
    (hx : inp.dryBulb = some x) :
    m = moistureOf (curveMc inp.curve (convertChannel inp channel samples).grade) (tempFactor inp.coeff x) := by
  obtain ⟨-, h⟩ | ⟨-, t, ht, h⟩ := convertChannel_cases inp channel samples <;> rw [h] at hm ⊢
  · cases hm
  · obtain rfl : t = x := Option.some.inj (ht.symm.trans hx)
    exact (Option.some.inj hm).symm

theorem convertChannel_mc_le {m : Nat} (hm : (convertChannel inp channel samples).mc = some m) : m ≤ 800 := by
  obtain ⟨-, h⟩ | ⟨-, t, -, h⟩ := convertChannel_cases inp channel samples <;> rw [h] at hm
  · cases hm
  · exact Option.some.inj hm ▸ min_le_left _ _
end

/-- R20, R28, R33: every converted reading is sound. -/
theorem convertChannel_sound (inp : ConversionInputs) (channel : Nat) (samples : List Nat) :
    (convertChannel inp channel samples).Sound :=
  ⟨convertChannel_mc_isSome inp channel samples, fun _ => convertChannel_mc_le⟩

/-- Settles O13: stage 3's flags are those of `classify`, stage 4 adds the limit flags to a reading with a value, and no
grade lies on both sides, of the range 400..1300 or of a valid curve. -/
theorem conversionClassifies : Obligations.ConversionClassifies := by
  refine ⟨roundingRules, conversionRules, fun _ _ _ => rfl, fun inp channel samples => ?_, by decide, by decide, by decide⟩
  intro r
  have hflags : r.flags = { classify r.grade (spreadOf samples) (inp.refFault || inp.dryBulb.isNone) with
      wetLimit := r.flags.wetLimit, dryLimit := r.flags.dryLimit } := convertChannel_flags inp channel samples
  have hspread : r.spread = spreadOf samples := convertChannel_spread inp channel samples
  have hopen : r.flags.openCircuit = true ↔ 1300 < r.grade := by rw [hflags]; simp [classify]
  have hshort : r.flags.shortCircuit = true ↔ r.grade < 400 := by rw [hflags]; simp [classify]
  have hwet : r.flags.wetLimit = (r.mc.isSome && belowCurve inp.curve r.grade) := convertChannel_wetLimit inp channel samples
  have hdry : r.flags.dryLimit = (r.mc.isSome && aboveCurve inp.curve r.grade) := convertChannel_dryLimit inp channel samples
  have hvalue : r.mc.isSome = !r.flags.noValue := convertChannel_mc_isSome inp channel samples
  refine ⟨convertChannel_channel inp channel samples, convertChannel_dryBulb inp channel samples,
    convertChannel_grade inp channel samples, hspread, hopen, hshort, ?notBoth, ?unsteady, ?invalid, ?value,
    fun m x => convertChannel_mc_eq, ?wet, ?dry, ?wetValue, ?dryValue, ?limits, fun m => convertChannel_mc_le⟩
  case notBoth => rw [hopen, hshort]; omega
  case unsteady => rw [hflags, hspread]; simp [classify]
  case invalid => rw [hflags]; simp [classify]
  case value => rw [hvalue]; simp [ReadingFlags.noValue, and_assoc]
  case wet =>
    intro p hp
    rw [hwet, belowCurve_of_head hp, Bool.and_eq_true, decide_eq_true_iff]
  case dry =>
    intro p hp
    rw [hdry, aboveCurve_of_getLast hp, Bool.and_eq_true, decide_eq_true_iff]
  case wetValue => rw [hwet, Bool.and_eq_true]; exact And.left
  case dryValue => rw [hdry, Bool.and_eq_true]; exact And.left
  case limits =>
    intro hcurve
    rw [hwet, hdry, Bool.and_eq_true, Bool.and_eq_true]
    rintro ⟨⟨-, hbelow⟩, -, habove⟩
    exact not_belowCurve_and_aboveCurve hcurve r.grade ⟨hbelow, habove⟩

end Sys2Proof.Machine
end

section
/-! The moisture picture of chapter 5: its rounded means, its extremes and its counts. -/

namespace Sys2Proof.Machine

/-! ## Rounding half up (0.7.2) -/

theorem halfUp_one (a : Nat) : halfUp a 1 = a := by
  unfold halfUp
  omega

/-- Rounding keeps the order of two quotients. -/
theorem halfUp_le_halfUp {a b c d : Nat} (hb : 0 < b) (hd : 0 < d) (h : a * d ≤ c * b) : halfUp a b ≤ halfUp c d := by
  unfold halfUp
  rw [Nat.le_div_iff_mul_le (by omega)]
  have hquot : (2 * a + b) / (2 * b) * (2 * b) ≤ 2 * a + b := Nat.div_mul_le_self _ _
  refine Nat.le_of_mul_le_mul_right ?_ hb
  calc (2 * a + b) / (2 * b) * (2 * d) * b = (2 * a + b) / (2 * b) * (2 * b) * d := by ring
    _ ≤ (2 * a + b) * d := Nat.mul_le_mul_right d hquot
    _ ≤ (2 * c + d) * b := by linarith

/-- A whole number that is at most every value is at most their mean. -/
theorem le_halfUp_sum {values : List Nat} {low : Nat} (hne : 0 < values.length) (h : ∀ v ∈ values, low ≤ v) :
    low ≤ halfUp values.sum values.length := by
  have hsum : values.length • low ≤ values.sum := List.card_nsmul_le_sum values low h
  rw [smul_eq_mul, mul_comm] at hsum
  simpa [halfUp_one] using halfUp_le_halfUp (a := low) (b := 1) one_pos hne (by rwa [mul_one])

/-- A whole number that is at least every value is at least their mean. -/
theorem halfUp_sum_le {values : List Nat} {high : Nat} (hne : 0 < values.length) (h : ∀ v ∈ values, v ≤ high) :
    halfUp values.sum values.length ≤ high := by
  have hsum : values.sum ≤ values.length • high := List.sum_le_card_nsmul values high h
  rw [smul_eq_mul, mul_comm] at hsum
  simpa [halfUp_one] using halfUp_le_halfUp (c := high) (d := 1) hne one_pos (by rwa [mul_one])

/-! ## The wettest half (R82) -/

theorem insertDescending_eq_orderedInsert (x : Nat) (values : List Nat) :
    insertDescending x values = values.orderedInsert (· ≥ ·) x := by
  induction values with
  | nil => rfl
  | cons y ys ih => rw [insertDescending, List.orderedInsert_cons, ih]

theorem sortDescending_eq_mergeSort (values : List Nat) :
    sortDescending values = values.mergeSort (fun a b => decide (b ≤ a)) := by
  rw [show values.mergeSort (fun a b => decide (b ≤ a)) = values.insertionSort (· ≥ ·) from
    List.mergeSort_eq_insertionSort (· ≥ ·) values]
  induction values with
  | nil => rfl
  | cons x xs ih => rw [sortDescending, ih, insertDescending_eq_orderedInsert, List.insertionSort_cons]

/-- The accepted values of the controlling MC: the wettest half, the larger half of an odd number. -/
def wettestHalf (values : List Nat) : List Nat := (sortDescending values).take (halfCount values.length)

theorem sortDescending_perm (values : List Nat) : (sortDescending values).Perm values := by
  rw [sortDescending_eq_mergeSort]
  exact List.mergeSort_perm values _

theorem sortDescending_pairwise (values : List Nat) : (sortDescending values).Pairwise (· ≥ ·) := by
  rw [sortDescending_eq_mergeSort]
  exact List.pairwise_mergeSort' (· ≥ ·) values

@[simp] theorem length_wettestHalf (values : List Nat) : (wettestHalf values).length = halfCount values.length := by
  rw [wettestHalf, List.length_take, (sortDescending_perm values).length_eq, halfCount]
  omega

theorem mem_of_mem_wettestHalf {values : List Nat} {v : Nat} (h : v ∈ wettestHalf values) : v ∈ values :=
  (sortDescending_perm values).mem_iff.mp (List.mem_of_mem_take h)

/-- Of two lists the one with the larger values has the larger mean, each side multiplied by both lengths. -/
theorem sum_mul_length_le {large small : List Nat} (h : ∀ x ∈ large, ∀ y ∈ small, y ≤ x) :
    small.sum * large.length ≤ large.sum * small.length := by
  induction small with
  | nil => simp
  | cons y ys ih =>
    have hhead : large.length • y ≤ large.sum := List.card_nsmul_le_sum large y fun x hx => h x hx y List.mem_cons_self
    have htail := ih fun x hx z hz => h x hx z (List.mem_cons_of_mem y hz)
    rw [smul_eq_mul] at hhead
    rw [List.sum_cons, List.length_cons]
    linarith

/-- Of ordered values the first ones have a mean no smaller than that of all, each side multiplied by both counts. -/
theorem sum_mul_le_sum_take_mul {values : List Nat} {k : Nat} (hsorted : values.Pairwise (· ≥ ·))
    (hk : k ≤ values.length) : values.sum * k ≤ (values.take k).sum * values.length := by
  rw [← List.take_append_drop k values, List.pairwise_append] at hsorted
  obtain ⟨-, -, hcross⟩ := hsorted
  have hmeans := sum_mul_length_le hcross
  obtain ⟨n, hn⟩ := Nat.exists_eq_add_of_le hk
  rw [List.length_take_of_le hk, List.length_drop, hn, Nat.add_sub_cancel_left] at hmeans
  rw [← List.sum_take_add_sum_drop values k, hn]
  linarith

/-- The mean of all values is at most the mean of the wettest half. -/
theorem sum_mul_halfCount_le (values : List Nat) :
    values.sum * halfCount values.length ≤ (wettestHalf values).sum * values.length := by
  have hperm := sortDescending_perm values
  have hcount : halfCount values.length ≤ (sortDescending values).length := by
    rw [hperm.length_eq, halfCount]
    omega
  have hmeans := sum_mul_le_sum_take_mul (sortDescending_pairwise values) hcount
  rwa [hperm.sum_eq, hperm.length_eq, ← wettestHalf] at hmeans

theorem halfCount_pos {n : Nat} (h : 0 < n) : 0 < halfCount n := by
  unfold halfCount
  omega

/-! ## The mean and the controlling MC (R81, R82) -/

theorem sumOf_eq_sum (values : List Nat) : sumOf values = values.sum := List.sum_eq_foldl.symm

theorem meanMc_of_ne_nil {values : List Nat} (h : values ≠ []) :
    meanMc values = some (halfUp values.sum values.length) := by
  rw [meanMc, if_neg h, sumOf_eq_sum]

theorem controllingMc_of_ne_nil {values : List Nat} (h : values ≠ []) :
    controllingMc values = some (halfUp (wettestHalf values).sum (halfCount values.length)) := by
  rw [controllingMc, if_neg h, sumOf_eq_sum, wettestHalf]

/-- The two means lie between the bounds of the values, the mean of the wettest half above the mean of all. -/
theorem means_ordered {values : List Nat} {low high : Nat} (hpos : 0 < values.length) (hlow : ∀ v ∈ values, low ≤ v)
    (hhigh : ∀ v ∈ values, v ≤ high) :
    low ≤ halfUp values.sum values.length
      ∧ halfUp values.sum values.length ≤ halfUp (wettestHalf values).sum (halfCount values.length)
      ∧ halfUp (wettestHalf values).sum (halfCount values.length) ≤ high := by
  have hhalf := halfCount_pos hpos
  refine ⟨le_halfUp_sum hpos hlow, halfUp_le_halfUp hpos hhalf (sum_mul_halfCount_le values), ?_⟩
  rw [← length_wettestHalf] at hhalf ⊢
  exact halfUp_sum_le hhalf fun v hv => hhigh v (mem_of_mem_wettestHalf hv)

/-- The sums of a picture of at most 256 accepted values, 8 of each of 32 stations. -/
theorem sums_bounded {values : List Nat} (hrange : ∀ v ∈ values, v ≤ 800) (hmany : values.length ≤ 256) :
    values.sum ≤ 204800 ∧ halfCount values.length ≤ 128 ∧ (wettestHalf values).sum ≤ 102400 := by
  have hsum : values.sum ≤ values.length • 800 := List.sum_le_card_nsmul values 800 hrange
  have htop : (wettestHalf values).sum ≤ (wettestHalf values).length • 800 :=
    List.sum_le_card_nsmul _ 800 fun v hv => hrange v (mem_of_mem_wettestHalf hv)
  have hhalf : halfCount values.length ≤ 128 := by unfold halfCount; omega
  rw [length_wettestHalf] at htop
  rw [smul_eq_mul] at hsum htop
  omega

/-! ## The extremes (R80) -/

theorem Extreme.before_irrefl (x : Extreme) : x.before x = false := by simp [Extreme.before]

theorem Extreme.before_trans {x y z : Extreme} (hxy : x.before y = true) (hyz : y.before z = true) :
    x.before z = true := by
  simp only [Extreme.before, Bool.or_eq_true, Bool.and_eq_true, decide_eq_true_iff] at *
  omega

/-- A reading takes the place of the wettest so far. -/
def Extreme.WetterThan (x b : Extreme) : Prop := b.mc < x.mc ∨ (b.mc = x.mc ∧ x.before b = true)

/-- A reading takes the place of the driest so far. -/
def Extreme.DrierThan (x b : Extreme) : Prop := x.mc < b.mc ∨ (b.mc = x.mc ∧ x.before b = true)

theorem wetter_some (b x : Extreme) :
    (x.WetterThan b ∧ wetter (some b) x = some x) ∨ (¬x.WetterThan b ∧ wetter (some b) x = some b) := by
  by_cases h : x.WetterThan b
  · exact .inl ⟨h, if_pos h⟩
  · exact .inr ⟨h, if_neg h⟩

theorem drier_some (b x : Extreme) :
    (x.DrierThan b ∧ drier (some b) x = some x) ∨ (¬x.DrierThan b ∧ drier (some b) x = some b) := by
  by_cases h : x.DrierThan b
  · exact .inl ⟨h, if_pos h⟩
  · exact .inr ⟨h, if_neg h⟩

theorem Extreme.wetterThan_irrefl (x : Extreme) : ¬x.WetterThan x := by
  simp [Extreme.WetterThan, Extreme.before_irrefl]

theorem Extreme.drierThan_irrefl (x : Extreme) : ¬x.DrierThan x := by
  simp [Extreme.DrierThan, Extreme.before_irrefl]

theorem Extreme.wetterThan_trans {x y z : Extreme} (hxy : x.WetterThan y) (hyz : y.WetterThan z) : x.WetterThan z := by
  obtain hlt | ⟨heq, hbefore⟩ := hxy <;> obtain hlt' | ⟨heq', hbefore'⟩ := hyz
  · exact .inl (hlt'.trans hlt)
  · exact .inl (heq'.trans_lt hlt)
  · exact .inl (hlt'.trans_eq heq)
  · exact .inr ⟨heq'.trans heq, Extreme.before_trans hbefore hbefore'⟩

theorem Extreme.drierThan_trans {x y z : Extreme} (hxy : x.DrierThan y) (hyz : y.DrierThan z) : x.DrierThan z := by
  obtain hlt | ⟨heq, hbefore⟩ := hxy <;> obtain hlt' | ⟨heq', hbefore'⟩ := hyz
  · exact .inl (hlt.trans hlt')
  · exact .inl (hlt.trans_eq heq'.symm)
  · exact .inl (heq.symm.trans_lt hlt')
  · exact .inr ⟨heq'.trans heq, Extreme.before_trans hbefore hbefore'⟩

theorem Extreme.not_wetterThan_iff {x w : Extreme} :
    ¬x.WetterThan w ↔ x.mc ≤ w.mc ∧ (x.mc = w.mc → x.before w = false) := by
  simp [Extreme.WetterThan, eq_comm (a := x.mc)]

theorem Extreme.not_drierThan_iff {x d : Extreme} :
    ¬x.DrierThan d ↔ d.mc ≤ x.mc ∧ (x.mc = d.mc → x.before d = false) := by
  simp [Extreme.DrierThan, eq_comm (a := x.mc)]

/-- A fold that takes each better reading ends with one of the readings, than which none is better. -/
theorem exists_foldl_best {pick : Option Extreme → Extreme → Option Extreme} {better : Extreme → Extreme → Prop}
    (irrefl : ∀ x, ¬better x x) (trans : ∀ {x y z}, better x y → better y z → better x z)
    (pick_none : ∀ x, pick none x = some x)
    (pick_some : ∀ b x, (better x b ∧ pick (some b) x = some x) ∨ (¬better x b ∧ pick (some b) x = some b))
    {xs : List Extreme} (hne : xs ≠ []) :
    ∃ w ∈ xs, xs.foldl pick none = some w ∧ ∀ x ∈ xs, ¬better x w := by
  induction xs using List.reverseRecOn with
  | nil => exact absurd rfl hne
  | append_singleton seen x ih =>
    simp only [List.foldl_append, List.foldl_cons, List.foldl_nil, List.forall_mem_append, List.forall_mem_singleton]
    obtain rfl | hseen := eq_or_ne seen []
    · exact ⟨x, List.mem_singleton_self x, pick_none x, List.forall_mem_nil _, irrefl x⟩
    · obtain ⟨b, hb, hfold, hbest⟩ := ih hseen
      rw [hfold]
      obtain ⟨hbetter, hpick⟩ | ⟨hkeep, hpick⟩ := pick_some b x
      · exact ⟨x, List.mem_append_right seen (List.mem_singleton_self x), hpick,
          fun y hy hyx => hbest y hy (trans hyx hbetter), irrefl x⟩
      · exact ⟨b, List.mem_append_left [x] hb, hpick, hbest, hkeep⟩

/-- The wettest reading of a picture, of equal ones the one of the earliest identity. -/
theorem exists_wettest {xs : List Extreme} (hne : xs ≠ []) :
    ∃ w ∈ xs, xs.foldl wetter none = some w ∧ ∀ x ∈ xs, x.mc ≤ w.mc ∧ (x.mc = w.mc → x.before w = false) := by
  simp only [← Extreme.not_wetterThan_iff]
  exact exists_foldl_best Extreme.wetterThan_irrefl Extreme.wetterThan_trans (fun _ => rfl) wetter_some hne

/-- The driest reading of a picture, of equal ones the one of the earliest identity. -/
theorem exists_driest {xs : List Extreme} (hne : xs ≠ []) :
    ∃ d ∈ xs, xs.foldl drier none = some d ∧ ∀ x ∈ xs, d.mc ≤ x.mc ∧ (x.mc = d.mc → x.before d = false) := by
  simp only [← Extreme.not_drierThan_iff]
  exact exists_foldl_best Extreme.drierThan_irrefl Extreme.drierThan_trans (fun _ => rfl) drier_some hne

/-! ## The counts (R83) -/

theorem pictureOf_wetCount (r : ChargeRecord) (xs : List Extreme) :
    (pictureOf (some r) xs).wetCount = some (xs.countP fun x => decide (r.finalTarget < x.mc)) := by
  simp [pictureOf, ← List.countP_eq_length_filter, List.countP_map, Function.comp_def]

theorem pictureOf_dryCount (r : ChargeRecord) (xs : List Extreme) :
    (pictureOf (some r) xs).dryCount = some (xs.countP fun x => decide ((x.mc : Int) ≤ r.equalizeStart)) := by
  simp [pictureOf, ← List.countP_eq_length_filter, ← List.map_eq_flatMap, List.countP_map, Function.comp_def]

/-- No accepted value is above the final target exactly when the wettest is not. -/
theorem wetCount_eq_zero_iff (r : ChargeRecord) {xs : List Extreme} {w : Extreme} (hw : w ∈ xs)
    (hbest : ∀ x ∈ xs, x.mc ≤ w.mc) : (pictureOf (some r) xs).wetCount = some 0 ↔ w.mc ≤ r.finalTarget := by
  simp only [pictureOf_wetCount, Option.some.injEq, List.countP_eq_zero, decide_eq_true_iff, not_lt]
  exact ⟨fun h => h w hw, fun h x hx => (hbest x hx).trans h⟩

/-- No accepted value is at or below the equalize-start level exactly when the driest is not. -/
theorem dryCount_eq_zero_iff (r : ChargeRecord) {xs : List Extreme} {d : Extreme} (hd : d ∈ xs)
    (hbest : ∀ x ∈ xs, d.mc ≤ x.mc) :
    (pictureOf (some r) xs).dryCount = some 0 ↔ r.equalizeStart < d.mc := by
  simp only [pictureOf_dryCount, Option.some.injEq, List.countP_eq_zero, decide_eq_true_iff, not_le]
  exact ⟨fun h => h d hd, fun h x hx => h.trans_le (Int.ofNat_le.mpr (hbest x hx))⟩

/-! ## The picture (R78 to R84) -/

theorem pictureOf_sufficient (record : Option ChargeRecord) (xs : List Extreme) :
    (pictureOf record xs).sufficient = true ↔ (pictureOf record xs).quorum ≤ xs.length :=
  decide_eq_true_iff

theorem pictureOf_mean (record : Option ChargeRecord) {xs : List Extreme} (h : xs.map (·.mc) ≠ []) :
    (pictureOf record xs).mean = some (halfUp (xs.map (·.mc)).sum (xs.map (·.mc)).length) :=
  meanMc_of_ne_nil h

theorem pictureOf_controlling (record : Option ChargeRecord) {xs : List Extreme} (h : xs.map (·.mc) ≠ []) :
    (pictureOf record xs).controlling =
      some (halfUp (wettestHalf (xs.map (·.mc))).sum (halfCount (xs.map (·.mc)).length)) :=
  controllingMc_of_ne_nil h

/-- Settles O36: the extremes are what the two folds end with, and every mean lies between the values it is formed of. -/
theorem pictureFiguresOrdered : Obligations.PictureFiguresOrdered := by
  intro record
  refine ⟨fun xs => ?fields, ⟨rfl, rfl, rfl, rfl⟩, ?figures⟩
  case fields =>
    cases record with
    | none => exact ⟨rfl, rfl, rfl, pictureOf_sufficient none xs, rfl, rfl⟩
    | some r => exact ⟨rfl, rfl, rfl, pictureOf_sufficient (some r) xs, pictureOf_wetCount r xs, pictureOf_dryCount r xs⟩
  case figures =>
    intro xs values top k hne hrange hvalues hk htop
    obtain ⟨w, hw, hwettest, hwbest⟩ := exists_wettest hne
    obtain ⟨d, hd, hdriest, hdbest⟩ := exists_driest hne
    have hwmax : ∀ x ∈ xs, x.mc ≤ w.mc := fun x hx => (hwbest x hx).1
    have hdmin : ∀ x ∈ xs, d.mc ≤ x.mc := fun x hx => (hdbest x hx).1
    have hlen : values.length = xs.length := by rw [hvalues, List.length_map]
    have hpos : 0 < values.length := hlen ▸ List.length_pos_iff.mpr hne
    have hcount : halfCount values.length = k := by rw [hk, hlen, halfCount]
    have hhalf : wettestHalf values = top := by rw [htop, wettestHalf, sortDescending_eq_mergeSort, hcount]
    have hmapne : xs.map (·.mc) ≠ [] := hvalues ▸ List.ne_nil_of_length_pos hpos
    have hmean := pictureOf_mean record hmapne
    have hcontrolling := pictureOf_controlling record hmapne
    have hordered := means_ordered hpos (low := d.mc) (high := w.mc) (hvalues ▸ List.forall_mem_map.mpr hdmin)
      (hvalues ▸ List.forall_mem_map.mpr hwmax)
    have hbounded := sums_bounded (values := values) (hvalues ▸ List.forall_mem_map.mpr hrange)
    rw [← hvalues, hlen] at hmean
    rw [← hvalues, hhalf, hcount] at hcontrolling
    rw [hhalf, hcount, hlen] at hordered hbounded
    obtain ⟨hdm, hmc, hcw⟩ := hordered
    refine ⟨w, d, _, _, hwettest, hdriest, hmean, hcontrolling, hw, hd, hwbest, hdbest, rfl, rfl, fun hmany => ?bounds,
      hdm, hmc, hcw, hrange w hw, rfl, ?sufficient, ?counts⟩
    case bounds =>
      obtain ⟨hsum, hk128, htopsum⟩ := hbounded hmany
      exact ⟨hsum, hcount ▸ halfCount_pos hpos, hk128, htopsum⟩
    case sufficient => cases record <;> exact pictureOf_sufficient _ xs
    case counts =>
      rintro r rfl
      exact ⟨wetCount_eq_zero_iff r hw hwmax, dryCount_eq_zero_iff r hd hdmin⟩

end Sys2Proof.Machine
end

section
/-! The encoding of a charge record of chapter 6: what its bytes read back as, what its field checks say, and its judgement. -/

namespace Sys2Proof.Machine

/-! ## Reading the fields of a byte string (0.7.3) -/

theorem u8_append_right {xs : List Byte} {i : Nat} (ys : List Byte) (h : xs.length ≤ i) :
    u8 (xs ++ ys) i = u8 ys (i - xs.length) := by
  rw [u8, u8, List.getD_append_right _ _ _ _ h]

theorem u16_append_right {xs : List Byte} {i : Nat} (ys : List Byte) (h : xs.length ≤ i) :
    u16 (xs ++ ys) i = u16 ys (i - xs.length) := by
  rw [u16, u16, u8_append_right ys h, u8_append_right ys (by omega), Nat.sub_add_comm h]

theorem s16_append_right {xs : List Byte} {i : Nat} (ys : List Byte) (h : xs.length ≤ i) :
    s16 (xs ++ ys) i = s16 ys (i - xs.length) := by
  rw [s16, s16, u16_append_right ys h]

theorem u8_drop (bs : List Byte) (k i : Nat) : u8 (bs.drop k) i = u8 bs (k + i) := by
  simp [u8, List.getD_eq_getElem?_getD]

theorem u16_drop (bs : List Byte) (k i : Nat) : u16 (bs.drop k) i = u16 bs (k + i) := by
  rw [u16, u16, u8_drop, u8_drop, Nat.add_assoc]

theorem s16_drop (bs : List Byte) (k i : Nat) : s16 (bs.drop k) i = s16 bs (k + i) := by
  rw [s16, s16, u16_drop]

theorem u8_byteOf {n : Nat} (bs : List Byte) (h : n ≤ 255) : u8 ([byteOf n] ++ bs) 0 = n := by
  simp only [u8, byteOf, List.cons_append, List.getD_cons_zero, BitVec.toNat_ofNat]
  omega

@[simp] theorem length_be16 (n : Nat) : (be16 n).length = 2 := by simp [be16]

@[simp] theorem length_beS16 (x : Int) : (beS16 x).length = 2 := by simp [beS16]

theorem u16_be16 {n : Nat} (bs : List Byte) (h : n ≤ 65535) : u16 (be16 n ++ bs) 0 = n := by
  simp only [u16, u8, be16, byteOf, List.cons_append, List.getD_cons_zero, List.getD_cons_succ, BitVec.toNat_ofNat]
  omega

theorem s16_beS16 {x : Int} (bs : List Byte) (hlo : -32768 ≤ x) (hhi : x ≤ 32767) : s16 (beS16 x ++ bs) 0 = x := by
  rw [s16, beS16, u16_be16 bs (by have := (BitVec.ofInt 16 x).isLt; omega), BitVec.ofNat_toNat, BitVec.setWidth_eq,
    BitVec.toInt_ofInt]
  exact Int.bmod_eq_of_le (by omega) (by omega)

/-- Entry i of a list of encodings of one length w stands at byte w * i. -/
theorem drop_flatMap_append {α : Type} {f : α → List Byte} {w : Nat} (hw : ∀ x, (f x).length = w) (rest : List Byte)
    {xs : List α} {i : Nat} (h : i < xs.length) :
    (xs.flatMap f ++ rest).drop (w * i) = f xs[i] ++ ((xs.drop (i + 1)).flatMap f ++ rest) := by
  induction xs generalizing i with
  | nil => cases h
  | cons x xs ih =>
    cases i with
    | zero => simp
    | succ i =>
      have hi : i < xs.length := Nat.lt_of_succ_lt_succ h
      rw [List.flatMap_cons, List.append_assoc, Nat.mul_succ, Nat.add_comm, ← hw x, List.drop_length_add_append, hw x, ih hi]
      rfl

theorem length_flatMap_of_length {α : Type} {f : α → List Byte} {w : Nat} (hw : ∀ x, (f x).length = w) (xs : List α) :
    (xs.flatMap f).length = w * xs.length := by
  simp [List.length_flatMap, hw, Nat.mul_comm]

/-! ## The encoding of a record reads back as the record (R89, R90) -/

@[simp] theorem length_encodeRoster (roster : BitVec 32) : (encodeRoster roster).length = 4 := by simp [encodeRoster]

theorem length_encodeBreakpoint (p : Breakpoint) : (encodeBreakpoint p).length = 4 := by simp [encodeBreakpoint]

theorem length_encodeStep (st : ScheduleStep) : (encodeStep st).length = 11 := by simp [encodeStep]

/-- Fields 1 to 26 of an encoding, field by field. -/
def fixedFields (r : ChargeRecord) : List Byte :=
  be16 r.chargeNumber ++ (be16 r.chargeCode ++ (encodeRoster r.roster ++ (be16 r.quorum ++ (r.masks.toList
    ++ ([byteOf r.tempCoeff] ++ (be16 r.sweepInterval ++ ([byteOf r.traceInterval] ++ ([byteOf r.warmBand]
    ++ ([byteOf r.rampRate] ++ (be16 r.kp ++ ([byteOf r.ki] ++ (be16 r.kv ++ (be16 r.ks ++ ([byteOf r.deadBand]
    ++ ([byteOf r.deviationBand] ++ ([byteOf r.deviationTime] ++ (be16 r.settleWindow ++ (be16 r.safeVent
    ++ (be16 r.finalTarget ++ ([byteOf r.equalizeOffset] ++ (be16 r.equalizeDepression ++ (be16 r.equalizeMaximum
    ++ (be16 r.conditionDepression ++ (be16 r.conditionTime ++ beS16 r.coolEnd))))))))))))))))))))))))

/-- An encoding up to its step count: all of it but the bytes of the steps. -/
def encodeHead (r : ChargeRecord) : List Byte :=
  fixedFields r ++ ([byteOf r.curve.length] ++ (r.curve.flatMap encodeBreakpoint ++ [byteOf r.steps.length]))

theorem encodeRecord_eq (r : ChargeRecord) : encodeRecord r = encodeHead r ++ r.steps.flatMap encodeStep := by
  unfold encodeRecord encodeHead fixedFields
  simp only [List.append_assoc, List.cons_append, List.nil_append]

@[simp] theorem length_fixedFields (r : ChargeRecord) : (fixedFields r).length = 75 := by
  simp [fixedFields]

theorem length_encodeHead (r : ChargeRecord) : (encodeHead r).length = 77 + 4 * r.curve.length := by
  simp only [encodeHead, List.length_append, length_fixedFields, List.length_singleton,
    length_flatMap_of_length length_encodeBreakpoint]
  omega

/-! The reads of an encoding's head hold whatever stands for the steps, so that they serve bytes that are no encoding too. -/

theorem u8_curveCount {r : ChargeRecord} (h : r.curve.length ≤ 255) (tail : List Byte) :
    u8 (encodeHead r ++ tail) 75 = r.curve.length := by
  simp only [encodeHead, List.append_assoc]
  rw [u8_append_right _ (length_fixedFields r).le, length_fixedFields, u8_byteOf _ h]

theorem u8_stepCount {r : ChargeRecord} (h : r.steps.length ≤ 255) (tail : List Byte) :
    u8 (encodeHead r ++ tail) (76 + 4 * r.curve.length) = r.steps.length := by
  have hbefore : (fixedFields r ++ ([byteOf r.curve.length] ++ r.curve.flatMap encodeBreakpoint)).length
      = 76 + 4 * r.curve.length := by
    simp only [List.length_append, length_fixedFields, List.length_singleton,
      length_flatMap_of_length length_encodeBreakpoint]
    omega
  have hsplit : encodeHead r ++ tail = (fixedFields r ++ ([byteOf r.curve.length] ++ r.curve.flatMap encodeBreakpoint))
      ++ ([byteOf r.steps.length] ++ tail) := by
    simp only [encodeHead, List.append_assoc]
  rw [hsplit, u8_append_right _ hbefore.le, hbefore, Nat.sub_self, u8_byteOf _ h]

theorem curveAt_encodeHead {r : ChargeRecord} (h : ∀ p ∈ r.curve, p.grade ≤ 65535 ∧ p.mc ≤ 65535) (tail : List Byte) :
    curveAt (encodeHead r ++ tail) r.curve.length = r.curve := by
  refine List.ext_getElem (by simp [curveAt]) fun i _ hi => ?_
  obtain ⟨hgrade, hmc⟩ := h _ (List.getElem_mem hi)
  have hbytes : ∀ o, u16 (encodeHead r ++ tail) (76 + (4 * i + o)) = u16 (be16 r.curve[i].grade ++ (be16 r.curve[i].mc
      ++ ((r.curve.drop (i + 1)).flatMap encodeBreakpoint ++ ([byteOf r.steps.length] ++ tail)))) o := fun o => by
    simp only [encodeHead, List.append_assoc]
    rw [u16_append_right _ (by simp; omega), u16_append_right _ (by simp; omega), length_fixedFields,
      show 76 + (4 * i + o) - 75 - [byteOf r.curve.length].length = 4 * i + o by simp; omega, ← u16_drop,
      drop_flatMap_append length_encodeBreakpoint _ hi, encodeBreakpoint, List.append_assoc]
  have hgradeAt : u16 (encodeHead r ++ tail) (76 + 4 * i) = r.curve[i].grade := by
    rw [← u16_be16 _ hgrade, ← hbytes 0, Nat.add_zero]
  have hmcAt : u16 (encodeHead r ++ tail) (78 + 4 * i) = r.curve[i].mc := by
    rw [show 78 + 4 * i = 76 + (4 * i + 2) by omega, hbytes, u16_append_right _ (by simp), length_be16, u16_be16 _ hmc]
  simp only [curveAt, List.getElem_map, List.getElem_range, hgradeAt, hmcAt]

theorem stepsAt_append_right {xs : List Byte} {start : Nat} (ys : List Byte) (count : Nat) (h : xs.length = start) :
    stepsAt (xs ++ ys) start count = stepsAt ys 0 count := by
  subst h
  simp only [stepsAt, u8_append_right, u16_append_right, s16_append_right, Nat.le_add_right, Nat.add_sub_cancel_left,
    Nat.add_assoc, Nat.zero_add]

theorem basisCode_le (b : HoldBasis) : basisCode b ≤ 255 := by cases b <;> decide

theorem basisOf_basisCode (b : HoldBasis) : basisOf (basisCode b) = b := by cases b <;> rfl

theorem stepsAt_flatMap {steps : List ScheduleStep} (h : ∀ st ∈ steps, st.advanceMc ≤ 65535 ∧ -32768 ≤ st.dryBulb
      ∧ st.dryBulb ≤ 32767 ∧ st.depression ≤ 65535 ∧ st.hold ≤ 65535 ∧ st.maximum ≤ 65535) :
    stepsAt (steps.flatMap encodeStep) 0 steps.length = steps := by
  refine List.ext_getElem (by simp [stepsAt]) fun i _ hi => ?_
  obtain ⟨hadvance, hdryLo, hdryHi, hdepression, hhold, hmaximum⟩ := h _ (List.getElem_mem hi)
  have hdrop := drop_flatMap_append length_encodeStep [] hi
  rw [List.append_nil] at hdrop
  have hu8 (o : Nat) := hdrop ▸ u8_drop (steps.flatMap encodeStep) (11 * i) o
  have hu16 (o : Nat) := hdrop ▸ u16_drop (steps.flatMap encodeStep) (11 * i) o
  have hs16 (o : Nat) := hdrop ▸ s16_drop (steps.flatMap encodeStep) (11 * i) o
  have hfirst : u16 (steps.flatMap encodeStep) (11 * i) = _ := (hu16 0).symm
  simp only [stepsAt, List.getElem_map, List.getElem_range, Nat.zero_add, ← hu8, ← hu16, ← hs16, hfirst, encodeStep,
    List.append_assoc]
  simp only [u8_append_right, u16_append_right, s16_append_right, u8_byteOf, u16_be16, s16_beS16, length_be16,
    length_beS16, List.length_singleton, Nat.reduceLeDiff, le_refl, Nat.reduceSub, hadvance, hdryLo, hdryHi, hdepression,
    hhold, hmaximum, basisCode_le, basisOf_basisCode]

theorem rosterBytes_append (x : BitVec 32) :
    x.extractLsb' 24 8 ++ x.extractLsb' 16 8 ++ x.extractLsb' 8 8 ++ x.extractLsb' 0 8 = x := by
  ext i hi
  simp only [BitVec.getElem_append, BitVec.getElem_extractLsb']
  split_ifs <;> rw [← BitVec.getLsbD_eq_getElem hi] <;> congr 1 <;> omega

theorem rosterAt_encodeHead (r : ChargeRecord) (tail : List Byte) : rosterAt (encodeHead r ++ tail) = r.roster := by
  simp only [rosterAt, encodeHead, fixedFields, List.append_assoc]
  simp only [List.getD_append_right, List.getD_append, length_be16, length_encodeRoster, Nat.reduceLeDiff, Nat.reduceLT,
    Nat.reduceSub]
  exact rosterBytes_append r.roster

theorem masksAt_encodeHead (r : ChargeRecord) (tail : List Byte) :
    (Vector.ofFn fun i : Fin 32 => (encodeHead r ++ tail).getD (10 + i.val) 0) = r.masks := by
  refine Vector.ext fun i hi => ?_
  rw [Vector.getElem_ofFn]
  simp only [encodeHead, fixedFields, List.append_assoc, Nat.add_comm 10]
  simp only [List.getD_append_right, length_be16, length_encodeRoster, Nat.reduceLeDiff, Nat.reduceSubDiff]
  rw [List.getD_append _ _ _ _ (by simpa), List.getD_eq_getElem _ _ (by simpa), Vector.getElem_toList]

theorem recordOf_encodeHead {r : ChargeRecord} (h : r.Fits) (tail : List Byte) :
    recordOf (encodeHead r ++ tail) = { r with steps := stepsAt tail 0 r.steps.length } := by
  obtain ⟨hwords, hbytes, hcoolLo, hcoolHi, ⟨-, hcurveCount⟩, hcurve, ⟨-, hstepCount⟩, -⟩ := h
  simp only [List.forall_mem_cons, List.not_mem_nil, false_implies, implies_true, and_true] at hwords hbytes
  unfold recordOf
  simp only [u8_curveCount (r := r) (by omega), u8_stepCount (r := r) (by omega), curveAt_encodeHead hcurve,
    stepsAt_append_right tail _ (length_encodeHead r), rosterAt_encodeHead, masksAt_encodeHead]
  simp only [encodeHead, fixedFields, List.append_assoc]
  simp only [u8_append_right, u16_append_right, s16_append_right, u8_byteOf, u16_be16, s16_beS16,
    length_be16, length_encodeRoster, Vector.length_toList, List.length_singleton, Nat.reduceLeDiff, le_refl, Nat.reduceSub,
    hwords, hbytes, hcoolLo, hcoolHi]

/-! ## The checks of the field stage (R93) -/

theorem roster_ne_zero_iff (r : ChargeRecord) : (r.roster != 0) = true ↔ ∃ station, r.onRoster station = true := by
  rw [bne_iff_ne]
  constructor
  · intro hne
    obtain ⟨i, hi⟩ : ∃ i, r.roster.getLsbD i = true := by
      by_contra hnone
      exact hne (BitVec.eq_of_getLsbD_eq fun i _ => by simpa using fun h => hnone ⟨i, h⟩)
    exact ⟨i + 1, by simpa [ChargeRecord.onRoster] using hi⟩
  · rintro ⟨station, hstation⟩ hzero
    simp [ChargeRecord.onRoster, hzero] at hstation

theorem mask_eq_zero_iff (r : ChargeRecord) (station : Nat) :
    r.mask station = 0 ↔ ∀ channel ≤ 8, r.maskHas station channel = false := by
  constructor
  · intro hzero channel _
    simp [ChargeRecord.maskHas, hzero]
  · intro hnone
    refine BitVec.eq_of_getLsbD_eq fun i hi => ?_
    have hbit := hnone (i + 1) hi
    simpa [ChargeRecord.maskHas] using hbit

/-- Field 5, station by station: `masksValid` numbers the stations from 0. -/
theorem masksValid_iff (r : ChargeRecord) : masksValid r = true ↔ FieldOk r 5 := by
  simp only [masksValid, FieldOk, List.all_eq_true, List.mem_range, Bool.or_eq_true, beq_iff_eq, mask_eq_zero_iff]
  constructor
  · intro h station channel h1 h32 h8 hoff
    obtain hon | hmask := h (station - 1) (by omega)
    all_goals rw [Nat.sub_add_cancel h1] at *
    · rw [hon] at hoff
      cases hoff
    · exact hmask channel h8
  · intro h i hi
    cases hon : r.onRoster (i + 1) with
    | true => exact .inl rfl
    | false => exact .inr fun channel h8 => h (i + 1) channel (by omega) (by omega) h8 hon

/-- What field 28 asks of two breakpoints, the first before the second. -/
def CurveFalls (p q : Breakpoint) : Prop := p.grade < q.grade ∧ q.mc ≤ p.mc

theorem CurveFalls.trans {p q x : Breakpoint} (hpq : CurveFalls p q) (hqx : CurveFalls q x) : CurveFalls p x :=
  ⟨hpq.1.trans hqx.1, hqx.2.trans hpq.2⟩

theorem curveValid_iff_isChain (curve : List Breakpoint) :
    curveValid curve = true ↔
      (∀ p ∈ curve, 400 ≤ p.grade ∧ p.grade ≤ 1300 ∧ p.mc ≤ 800) ∧ curve.IsChain CurveFalls := by
  induction curve with
  | nil => simp [curveValid]
  | cons p rest ih =>
    cases rest with
    | nil => simp [curveValid, inRange, and_assoc]
    | cons q rest =>
      rw [curveValid_cons_cons, ih, List.isChain_cons_cons, List.forall_mem_cons (a := p), CurveFalls]
      tauto

theorem curveValid_iff (r : ChargeRecord) : curveValid r.curve = true ↔ FieldOk r 28 := by
  have : Trans CurveFalls CurveFalls CurveFalls := ⟨CurveFalls.trans⟩
  rw [curveValid_iff_isChain, List.isChain_iff_pairwise]
  rfl

/-- The ranges of one step's fields (TABLE 6-2). -/
def StepOk (st : ScheduleStep) : Prop :=
  st.advanceMc ≤ 800 ∧ 200 ≤ st.dryBulb ∧ st.dryBulb ≤ 1100 ∧ st.depression ≤ 400
    ∧ st.hold ≤ (match st.basis with | .minutes => 1440 | .reversals => 255) ∧ st.maximum ≤ 10080

/-- What field 30 asks of two steps, the first before the second. -/
def AdvanceFalls (st st' : ScheduleStep) : Prop := st'.advanceMc ≤ st.advanceMc

theorem AdvanceFalls.trans {a b c : ScheduleStep} (hab : AdvanceFalls a b) (hbc : AdvanceFalls b c) : AdvanceFalls a c :=
  Nat.le_trans hbc hab

theorem stepValid_iff (st : ScheduleStep) : stepValid st = true ↔ StepOk st := by
  obtain ⟨advanceMc, dryBulb, depression, basis, hold, maximum⟩ := st
  cases basis <;> simp [stepValid, StepOk, inRange, inRangeInt, and_assoc]

theorem stepsValid_iff_isChain (steps : List ScheduleStep) :
    stepsValid steps = true ↔ (∀ st ∈ steps, StepOk st) ∧ steps.IsChain AdvanceFalls := by
  induction steps with
  | nil => simp [stepsValid]
  | cons st rest ih =>
    cases rest with
    | nil => simp [stepsValid, stepValid_iff]
    | cons st' rest =>
      rw [stepsValid, Bool.and_eq_true, Bool.and_eq_true, decide_eq_true_iff, ih, List.isChain_cons_cons,
        List.forall_mem_cons (a := st), stepValid_iff, AdvanceFalls]
      tauto

theorem stepsValid_iff (r : ChargeRecord) : stepsValid r.steps = true ↔ FieldOk r 30 := by
  have : Trans AdvanceFalls AdvanceFalls AdvanceFalls := ⟨AdvanceFalls.trans⟩
  rw [stepsValid_iff_isChain, List.isChain_iff_pairwise]
  rfl

theorem fieldChecks_numbers (r : ChargeRecord) : (fieldChecks r).map (·.1) = List.range' 1 30 := rfl

theorem inRange_iff (lo hi n : Nat) : inRange lo hi n = true ↔ lo ≤ n ∧ n ≤ hi := by simp [inRange]

theorem inRangeInt_iff (lo hi x : Int) : inRangeInt lo hi x = true ↔ lo ≤ x ∧ x ≤ hi := by simp [inRangeInt]

theorem fieldChecks_iff {r : ChargeRecord} : ∀ c ∈ fieldChecks r, c.2 = true ↔ FieldOk r c.1 := by
  simp only [fieldChecks, List.forall_mem_cons, List.not_mem_nil, false_implies, implies_true, and_true, inRange_iff,
    inRangeInt_iff, roster_ne_zero_iff, masksValid_iff, curveValid_iff, stepsValid_iff]
  simp [FieldOk]

/-- A check that fails, all of smaller number before it passing, is the first of a list in ascending order. -/
theorem firstFailing_eq_some {checks : List (Nat × Bool)} {k : Nat} (hsorted : (checks.map (·.1)).Pairwise (· ≤ ·))
    (hbefore : ∀ c ∈ checks, c.1 < k → c.2 = true) (hfails : (k, false) ∈ checks) : firstFailing checks = some k := by
  induction checks with
  | nil => cases hfails
  | cons c rest ih =>
    obtain ⟨hc, hrest⟩ := List.forall_mem_cons.mp hbefore
    obtain ⟨hle, hsorted⟩ := List.pairwise_cons.mp hsorted
    cases hpass : c.2 with
    | true =>
      have hne : (k, false) ≠ c := by
        rintro rfl
        cases hpass
      have hstep : firstFailing (c :: rest) = firstFailing rest := by simp [firstFailing, hpass]
      rw [hstep, ih hsorted hrest ((List.mem_cons.mp hfails).resolve_left hne)]
    | false =>
      have hge : k ≤ c.1 := by
        by_contra hlt
        rw [hc (by omega)] at hpass
        cases hpass
      have hle : c.1 ≤ k := by
        obtain rfl | hmem := List.mem_cons.mp hfails
        · exact le_rfl
        · exact hle k (List.mem_map_of_mem hmem)
      simp [firstFailing, hpass, le_antisymm hle hge]

theorem fieldOk_of_valid {r : ChargeRecord} (h : r.valid = true) {k : Nat} (h1 : 1 ≤ k) (h30 : k ≤ 30) : FieldOk r k := by
  have hk : k ∈ (fieldChecks r).map (·.1) := by
    rw [fieldChecks_numbers, List.mem_range'_1]
    omega
  obtain ⟨c, hc, rfl⟩ := List.mem_map.mp hk
  exact (fieldChecks_iff c hc).mp (List.all_eq_true.mp h c hc)

theorem fits_of_valid {r : ChargeRecord} (h : r.valid = true) : r.Fits := by
  have hok (k : Nat) (hk : 1 ≤ k ∧ k ≤ 30) : FieldOk r k := fieldOk_of_valid h hk.1 hk.2
  obtain ⟨hcurve, -⟩ := hok 28 (by decide)
  obtain ⟨hsteps, -⟩ := hok 30 (by decide)
  simp only [ChargeRecord.valid, fieldChecks, List.all_cons, Bool.and_eq_true, inRange_iff, inRangeInt_iff] at h
  refine ⟨?words, ?bytes, by omega, by omega, hok 27 (by decide), fun p hp => ?curve, hok 29 (by decide),
    fun st hst => ?steps⟩
  case words | bytes =>
    simp only [List.forall_mem_cons, List.not_mem_nil, false_implies, implies_true, and_true]
    omega
  case curve =>
    obtain ⟨-, hgrade, hmc⟩ := hcurve p hp
    omega
  case steps =>
    obtain ⟨hadvance, hdryLo, hdryHi, hdepression, hhold, hmaximum⟩ := hsteps st hst
    have : st.hold ≤ 1440 := by
      cases hbasis : st.basis <;> simp only [hbasis] at hhold <;> omega
    omega

/-- Of the thirty ranges, field 30's alone reads the steps themselves, and field 29's their number. -/
theorem fieldOk_setSteps {r : ChargeRecord} {steps : List ScheduleStep} (hlen : steps.length = r.steps.length) {k : Nat}
    (hk : k ≠ 30) : FieldOk { r with steps := steps } k ↔ FieldOk r k := by
  unfold FieldOk
  split
  case h_29 => rw [hlen]
  case h_30 => exact absurd rfl hk
  all_goals exact Iff.rfl

/-! ## The field stage finds the first field out of range (R93) -/

theorem le_thirty_of_not_fieldOk {r : ChargeRecord} {k : Nat} (h : ¬FieldOk r k) : k ≤ 30 := by
  by_contra hk
  obtain ⟨j, rfl⟩ := Nat.exists_eq_add_of_le' (Nat.lt_of_not_le hk)
  exact h trivial

theorem mem_fieldChecks_of_not_fieldOk {r : ChargeRecord} {k : Nat} (h1 : 1 ≤ k) (h : ¬FieldOk r k) :
    (k, false) ∈ fieldChecks r := by
  have hk : k ∈ (fieldChecks r).map (·.1) := by
    rw [fieldChecks_numbers, List.mem_range'_1]
    have := le_thirty_of_not_fieldOk h
    omega
  obtain ⟨⟨j, pass⟩, hc, rfl⟩ := List.mem_map.mp hk
  cases pass with
  | false => exact hc
  | true => exact absurd ((fieldChecks_iff _ hc).mp rfl) h

/-- The field stage's checks: the thirty fields, then the codes of the hold bases, which count as field 30. -/
def stageChecks (bs : List Byte) : List (Nat × Bool) :=
  fieldChecks (recordOf bs) ++ [(30, basisBytesValid bs (77 + 4 * u8 bs 75) (u8 bs (76 + 4 * u8 bs 75)))]

theorem stageChecks_sorted (bs : List Byte) : ((stageChecks bs).map (·.1)).Pairwise (· ≤ ·) := by
  rw [stageChecks, List.map_append, fieldChecks_numbers]
  exact (by decide : (List.range' 1 30 ++ [30]).Pairwise (· ≤ ·))

theorem fieldStage_eq_range {bs : List Byte} {k : Nat} (h : firstFailing (stageChecks bs) = some k) :
    fieldStage bs = .range k := by
  unfold fieldStage
  rw [stageChecks] at h
  simp only [h]

theorem fieldStage_eq_range_of {bs : List Byte} {k : Nat} (hk : k ≤ 30)
    (hbefore : ∀ j, 1 ≤ j → j < k → FieldOk (recordOf bs) j) (hfails : (k, false) ∈ stageChecks bs) :
    fieldStage bs = .range k := by
  refine fieldStage_eq_range (firstFailing_eq_some (stageChecks_sorted bs) (fun c hc hlt => ?_) hfails)
  obtain hc | hc := List.mem_append.mp hc
  · have h1 : 1 ≤ c.1 := by
      have := List.mem_map_of_mem (f := (·.1)) hc
      rw [fieldChecks_numbers, List.mem_range'_1] at this
      exact this.1
    exact (fieldChecks_iff c hc).mpr (hbefore c.1 h1 hlt)
  · rw [List.mem_singleton.mp hc] at hlt
    omega

/-! ## The structural stage (R92) -/

theorem validateEncoding_eq (bs : List Byte) {n count : Nat} (hn : n = u8 bs 75) (hcount : count = u8 bs (76 + 4 * n)) :
    validateEncoding bs =
      if bs.length < 76 then .malformed
      else if ¬(2 ≤ n ∧ n ≤ 10) then .range 27
      else if bs.length < 77 + 4 * n then .malformed
      else if ¬(1 ≤ count ∧ count ≤ 12) then .range 29
      else if bs.length ≠ 77 + 4 * n + 11 * count then .malformed
      else fieldStage bs := by
  subst hn hcount
  simp only [validateEncoding, Bool.not_eq_true', Bool.eq_false_iff, inRange_iff, ne_eq]

theorem validateEncoding_eq_fieldStage {bs : List Byte} {n count : Nat} (hn : n = u8 bs 75)
    (hcount : count = u8 bs (76 + 4 * n)) (hrange : 2 ≤ n ∧ n ≤ 10) (hsteps : 1 ≤ count ∧ count ≤ 12)
    (hlen : bs.length = 77 + 4 * n + 11 * count) : validateEncoding bs = fieldStage bs := by
  rw [validateEncoding_eq bs hn hcount, if_neg (by omega), if_neg (not_not.mpr hrange), if_neg (by omega),
    if_neg (not_not.mpr hsteps), if_neg (not_not.mpr hlen)]

/-! ## The judgement of a record's encoding (R92, R93) -/

theorem validateEncoding_encodeHead {r : ChargeRecord} (h : r.Fits) {tail : List Byte}
    (htail : tail.length = 11 * r.steps.length) :
    validateEncoding (encodeHead r ++ tail) = fieldStage (encodeHead r ++ tail) := by
  obtain ⟨-, -, -, -, ⟨hcurveLo, hcurveHi⟩, -, ⟨hstepsLo, hstepsHi⟩, -⟩ := h
  exact validateEncoding_eq_fieldStage (u8_curveCount (by omega) tail).symm (u8_stepCount (by omega) tail).symm
    ⟨hcurveLo, hcurveHi⟩ ⟨hstepsLo, hstepsHi⟩ (by rw [List.length_append, length_encodeHead, htail])

theorem recordOf_encodeRecord {r : ChargeRecord} (h : r.Fits) : recordOf (encodeRecord r) = r := by
  obtain ⟨-, -, -, -, -, -, -, hsteps⟩ := id h
  rw [encodeRecord_eq, recordOf_encodeHead h, stepsAt_flatMap hsteps]

theorem validateEncoding_first_field {r : ChargeRecord} {k : Nat} (h : r.Fits) (h1 : 1 ≤ k)
    (hbefore : ∀ j, 1 ≤ j → j < k → FieldOk r j) (hfails : ¬FieldOk r k) :
    validateEncoding (encodeRecord r) = .range k := by
  have hstage : validateEncoding (encodeRecord r) = fieldStage (encodeRecord r) := by
    rw [encodeRecord_eq, validateEncoding_encodeHead h (length_flatMap_of_length length_encodeStep _)]
  rw [← recordOf_encodeRecord h] at hbefore hfails
  rw [hstage]
  exact fieldStage_eq_range_of (le_thirty_of_not_fieldOk hfails) hbefore
    (List.mem_append_left _ (mem_fieldChecks_of_not_fieldOk h1 hfails))

theorem basisBytesValid_eq_false {bs : List Byte} {start count i : Nat} (hi : i < count)
    (h : 1 < u8 bs (start + 11 * i + 6)) : basisBytesValid bs start count = false :=
  List.all_eq_false.mpr ⟨i, List.mem_range.mpr hi, by simpa using h⟩

/-- The step's basis reads as MINUTES then, so field 30 may hold of the fields as read: the check of the codes decides. -/
theorem validateEncoding_encodeHead_no_basis {r : ChargeRecord} {tail : List Byte} {i : Nat} (h : r.valid = true)
    (htail : tail.length = 11 * r.steps.length) (hi : i < r.steps.length) (hb : 1 < u8 tail (11 * i + 6)) :
    validateEncoding (encodeHead r ++ tail) = .range 30 := by
  have hfits := fits_of_valid h
  rw [validateEncoding_encodeHead hfits htail]
  refine fieldStage_eq_range_of le_rfl (fun j h1 hj => ?earlier) (List.mem_append_right _ ?codes)
  case earlier =>
    rw [recordOf_encodeHead hfits, fieldOk_setSteps (by simp [stepsAt]) (by omega)]
    exact fieldOk_of_valid h h1 (by omega)
  case codes =>
    obtain ⟨-, -, -, -, ⟨-, hcurve⟩, -, ⟨-, hsteps⟩, -⟩ := hfits
    have hread : u8 (encodeHead r ++ tail) (77 + 4 * r.curve.length + 11 * i + 6) = u8 tail (11 * i + 6) := by
      rw [← length_encodeHead, Nat.add_assoc, u8_append_right _ (by omega), Nat.add_sub_cancel_left]
    rw [u8_curveCount (by omega), u8_stepCount (by omega), basisBytesValid_eq_false hi (hread ▸ hb)]
    exact List.mem_singleton_self _

theorem validateEncoding_no_basis {r : ChargeRecord} {i : Nat} {b : Byte} (h : r.valid = true) (hi : i < r.steps.length)
    (hb : 1 < b.toNat) :
    validateEncoding ((encodeRecord r).set (77 + 4 * r.curve.length + 11 * i + 6) b) = .range 30 := by
  have hlen := length_flatMap_of_length length_encodeStep r.steps
  rw [encodeRecord_eq, ← length_encodeHead, Nat.add_assoc, List.set_append_right _ _ (by omega), Nat.add_sub_cancel_left]
  refine validateEncoding_encodeHead_no_basis h (by rw [List.length_set, hlen]) hi ?_
  rwa [u8, List.getD_eq_getElem _ _ (by rw [List.length_set]; omega), List.getElem_set_self]

/-- Settles O40: the encoding of a record that fits its bytes reads back as the record, so the field stage's first failing
check is the record's; a bad hold basis leaves fields 1 to 29 as they read; the structural stage is a chain of five tests. -/
theorem structuralStageInOrder : Obligations.StructuralStageInOrder := by
  refine ⟨fun _ _ => validateEncoding_first_field, fun _ _ _ => validateEncoding_no_basis,
    fun bs n count hn hcount => ⟨fun hshort => ?short, fun h76 hrange => ?curveCount,
      fun h76 hlo hhi hshort => ?curveLength, fun hlo hhi hlen hrange => ?stepCount,
      fun hlo hhi hlen hslo hshi hne => ?stepLength,
      fun hlo hhi hslo hshi hlen => validateEncoding_eq_fieldStage hn hcount ⟨hlo, hhi⟩ ⟨hslo, hshi⟩ hlen⟩⟩
  all_goals rw [validateEncoding_eq bs hn hcount]
  case short => rw [if_pos hshort]
  case curveCount => rw [if_neg (by omega), if_pos hrange]
  case curveLength => rw [if_neg (by omega), if_neg (by omega), if_pos hshort]
  case stepCount => rw [if_neg (by omega), if_neg (by omega), if_neg (by omega), if_pos hrange]
  case stepLength => rw [if_neg (by omega), if_neg (by omega), if_neg (by omega), if_neg (by omega), if_pos hne]

end Sys2Proof.Machine
end

section
/-! What one step of the machine can do, said once: the effect of a command, the effect of a clock event, and the induction
that carries a property from one state to the next. -/

namespace Sys2Proof.Machine

/-! ## The effects of commands and events -/

/-- The effects at the blocks other than the bus controller and the service port. -/
inductive BlockEffect : State → State → Prop where
  | windowEnd (grade : Nat) (s : State) : BlockEffect s (measurementWindowEnd grade s)
  | calibrationComplete (s : State) : BlockEffect s (calibrationSweepComplete s)
  | probeComplete (s : State) : BlockEffect s (probeSweepComplete s)
  | sweepInterval (s : State) : BlockEffect s (sweepIntervalExpiry s)
  | calibrationTimer (s : State) : BlockEffect s (calibrationTimerExpiry s)
  | controlPeriod (dry wet : Int) (s : State) : BlockEffect s (controlPeriod dry wet s)
  | holdTimer (sensor : Sensor) (s : State) : BlockEffect s (holdTimerExpiry sensor s)
  | deviationLimit (s : State) : BlockEffect s (deviationLimit s)
  | settleTimer (s : State) : BlockEffect s (settleTimerExpiry s)
  | entryStale (station : Nat) (s : State) : BlockEffect s (peerEntryStale station s)
  | entryEmptied (station : Nat) (s : State) : BlockEffect s (peerEntryEmptied station s)
  | reofferHoldoff (s : State) : BlockEffect s (reofferHoldoffExpiry s)
  | minuteTick (s : State) : BlockEffect s (minuteTick s)
  | stepTimer (s : State) : BlockEffect s (stepTimerExpiry s)
  | overtimeLimit (s : State) : BlockEffect s (overtimeLimit s)
  | conditionTimer (s : State) : BlockEffect s (conditionTimerExpiry s)
  | gatherTimer (s : State) : BlockEffect s (gatherTimerExpiry s)
  | snapshotTimer (s : State) : BlockEffect s (snapshotTimerExpiry s)
  | fanReversal (s : State) : BlockEffect s (fanReversal s)
  | emergencyRelease (s : State) : BlockEffect s (emergencyRelease s)

/-- The effects at the bus controller of its own events, and of the emergency input. -/
inductive BusEffect : State → State → Prop where
  | discardRun (s : State) : BusEffect s (discardRun s)
  | attemptBegin (s : State) : BusEffect s (attemptBegin s)
  | attemptFail (s : State) : BusEffect s (attemptFail s)
  | attemptFailTold (s : State) : BusEffect s (attemptFailTold s)
  | attemptComplete (s : State) : BusEffect s (attemptComplete s)
  | spacingTimer (s : State) : BusEffect s (spacingTimerExpiry s)
  | quietGap (s : State) : BusEffect s (quietGap s)
  | lineBlockedTimer (s : State) : BusEffect s (lineBlockedTimerExpiry s)
  | reportTimer (s : State) : BusEffect s (reportTimerExpiry s)
  | startBit (s : State) : BusEffect s (startBitSeen s)
  | emergencyAssertion (s : State) : BusEffect s (emergencyAssertion s)

/-- The owners of the received frames' kinds (R44). -/
inductive FrameOwner : FrameKind → (Frame → State → State) → Prop where
  | report : FrameOwner .report ownReport
  | offer : FrameOwner .offer ownOffer
  | safe : FrameOwner .safe ownSafeFrame
  | directive (k : DirectiveKind) : FrameOwner .directive (ownDirective k)
  | anyDirective : FrameOwner .directive ownAnyDirective

/-- The owners of the service requests (TABLE 12-3). -/
inductive RequestOwner : (State → State × Answer) → Prop where
  | loadCharge (payload : List Byte) : RequestOwner (ownerLoadCharge payload)
  | clearStaged : RequestOwner ownerClearStaged
  | directive (k : DirectiveKind) (charge code : Word16) (phase step : Byte) :
    RequestOwner (originate k charge code phase step)
  | noDirective (payload : List Byte) (h : directiveOf (u8 payload 0) = none) : RequestOwner (ownerDirective payload)
  | calibrate : RequestOwner ownerCalibrate
  | readPicture : RequestOwner ownerReadPicture
  | readReadings : RequestOwner ownerReadReadings
  | readPeer (station : Byte) : RequestOwner (ownerReadPeer station)
  | readClimate : RequestOwner ownerReadClimate
  | readState : RequestOwner ownerReadState
  | readConditions : RequestOwner ownerReadConditions
  | clearConditions (classes : Byte) : RequestOwner (ownerClearConditions classes)
  | setAttentionMask (classes : Byte) : RequestOwner (ownerSetAttentionMask classes)
  | readTrace : RequestOwner ownerReadTrace
  | malformed : RequestOwner ownerMalformed

/-- The service port in another state of its receiver, with the same response and BUSY list. -/
def Port.SameAnswers (p q : Port) : Prop := q.sending = p.sending ∧ q.busy = p.busy

/-- The effects of the commands but POWER_ON. -/
inductive Effect : State → State → Prop where
  | block {s t : State} (h : BlockEffect s t) : Effect s t
  | bus {s t : State} (h : BusEffect s t) : Effect s t
  | run {k : FrameKind} {owner : Frame → State → State} (h : FrameOwner k owner) (run : List LineByte) (s : State) :
    Effect s (takeRun k owner run s)
  | receiver (s : State) (p : Port) (h : s.port.SameAnswers p) : Effect s (s.setPort p)
  | responseEnd (s : State) : Effect s (responseEnd s)
  | request {owner : State → State × Answer} (h : RequestOwner owner) (kind : Byte) (s : State) :
    Effect s (request kind owner s)
  | requestByte {owner : State → State × Answer} (h : RequestOwner owner) (kind : Byte) (s : State) :
    Effect s (request kind owner (s.setPort s.port.toHunt))

/-- The owner of a DIRECTIVE request is that of its directive, or of none. -/
theorem ownerDirective_owner (payload : List Byte) : RequestOwner (ownerDirective payload) := by
  cases h : directiveOf (u8 payload 0) with
  | none => exact .noDirective payload h
  | some k =>
    have heq : ownerDirective payload =
        originate k (BitVec.ofNat 16 (u16 payload 1)) (BitVec.ofNat 16 (u16 payload 3)) (payload.getD 5 0)
          (payload.getD 6 0) := by
      funext s; simp [ownerDirective, h]
    rw [heq]; exact .directive _ _ _ _ _

theorem ownerOf_owner (kind : Byte) (payload : List Byte) (bad : Bool) : RequestOwner (ownerOf kind payload bad) := by
  cases bad
  case true => exact .malformed
  case false =>
    obtain ⟨n, hn⟩ : ∃ n, kind.toNat = n := ⟨_, rfl⟩
    delta ownerOf
    rw [hn]
    clear hn
    match n with
    | 0 => exact .malformed
    | 1 => exact .loadCharge payload
    | 2 => cases payload <;> [exact .clearStaged; exact .malformed]
    | 3 =>
      rcases payload with - | ⟨a, - | ⟨b, - | ⟨c, - | ⟨d, - | ⟨e, - | ⟨f, - | ⟨g, - | -⟩⟩⟩⟩⟩⟩⟩
      case cons.cons.cons.cons.cons.cons.cons.nil => exact ownerDirective_owner _
      all_goals exact .malformed
    | 4 => cases payload <;> [exact .calibrate; exact .malformed]
    | 5 => cases payload <;> [exact .readPicture; exact .malformed]
    | 6 => cases payload <;> [exact .readReadings; exact .malformed]
    | 7 => rcases payload with - | ⟨b, - | -⟩ <;> [exact .malformed; exact .readPeer b; exact .malformed]
    | 8 => cases payload <;> [exact .readClimate; exact .malformed]
    | 9 => cases payload <;> [exact .readState; exact .malformed]
    | 10 => cases payload <;> [exact .readConditions; exact .malformed]
    | 11 => rcases payload with - | ⟨b, - | -⟩ <;> [exact .malformed; exact .clearConditions b; exact .malformed]
    | 12 => rcases payload with - | ⟨b, - | -⟩ <;> [exact .malformed; exact .setAttentionMask b; exact .malformed]
    | 13 => cases payload <;> [exact .readTrace; exact .malformed]
    | _ + 14 => exact .malformed

/-- A byte at the service receiver changes the receiver alone, or completes a request that its owner takes (R172). -/
theorem serviceByteReceived_effect (byte : Byte) (stop : Bool) (s : State) : Effect s (serviceByteReceived byte stop s) := by
  unfold serviceByteReceived
  split
  · split
    · exact .receiver s _ ⟨rfl, rfl⟩
    · exact .receiver s s.port ⟨rfl, rfl⟩
  · split
    · exact .requestByte (ownerOf_owner _ _ _) _ s
    · exact .receiver s _ ⟨rfl, rfl⟩

theorem gapTimerExpiry_effect (s : State) : Effect s (gapTimerExpiry s) := by
  unfold gapTimerExpiry
  split
  · exact .receiver s s.port ⟨rfl, rfl⟩
  · exact .receiver s _ ⟨rfl, rfl⟩

/-- Every command but POWER_ON that answers a next state has one of the effects. -/
theorem exec_effect {c : Instr} {s t : State} (h : exec c s = .next t) (hc : ∀ n k r e f, c ≠ .powerOn n k r e f) :
    Effect s t := by
  cases c
  case powerOn => exact absurd rfl (hc _ _ _ _ _)
  case peerEntryStale =>
    simp only [exec, execPeerEntryStale] at h
    split at h
    · cases h; exact .block (.entryStale _ _)
    · cases h
  case peerEntryEmptied =>
    simp only [exec, execPeerEntryEmptied] at h
    split at h
    · cases h; exact .block (.entryEmptied _ _)
    · cases h
  all_goals cases h
  case measurementWindowEnd => exact .block (.windowEnd _ _)
  case calibrationSweepComplete => exact .block (.calibrationComplete _)
  case probeSweepComplete => exact .block (.probeComplete _)
  case sweepIntervalExpiry => exact .block (.sweepInterval _)
  case calibrationTimerExpiry => exact .block (.calibrationTimer _)
  case controlPeriod => exact .block (.controlPeriod _ _ _)
  case holdTimerExpiry => exact .block (.holdTimer _ _)
  case deviationLimit => exact .block (.deviationLimit _)
  case settleTimerExpiry => exact .block (.settleTimer _)
  case frameDiscarded => exact .bus (.discardRun _)
  case reportReceived => exact .run .report _ _
  case offerReceived => exact .run .offer _ _
  case safeFrameReceived => exact .run .safe _ _
  case startDirectiveReceived => exact .run (.directive _) _ _
  case holdDirectiveReceived => exact .run (.directive _) _ _
  case resumeDirectiveReceived => exact .run (.directive _) _ _
  case skipDirectiveReceived => exact .run (.directive _) _ _
  case abortDirectiveReceived => exact .run (.directive _) _ _
  case resetSafeDirectiveReceived => exact .run (.directive _) _ _
  case attemptBegin => exact .bus (.attemptBegin _)
  case attemptFail => exact .bus (.attemptFailTold _)
  case attemptComplete => exact .bus (.attemptComplete _)
  case spacingTimerExpiry => exact .bus (.spacingTimer _)
  case quietGap => exact .bus (.quietGap _)
  case lineBlockedTimerExpiry => exact .bus (.lineBlockedTimer _)
  case reportTimerExpiry => exact .bus (.reportTimer _)
  case reofferHoldoffExpiry => exact .block (.reofferHoldoff _)
  case minuteTick => exact .block (.minuteTick _)
  case stepTimerExpiry => exact .block (.stepTimer _)
  case overtimeLimit => exact .block (.overtimeLimit _)
  case conditionTimerExpiry => exact .block (.conditionTimer _)
  case gatherTimerExpiry => exact .block (.gatherTimer _)
  case snapshotTimerExpiry => exact .block (.snapshotTimer _)
  case fanReversal => exact .block (.fanReversal _)
  case emergencyAssertion => exact .bus (.emergencyAssertion _)
  case emergencyRelease => exact .block (.emergencyRelease _)
  case loadCharge => exact .request (.loadCharge _) _ _
  case clearStaged => exact .request .clearStaged _ _
  case directiveStart => exact .request (.directive _ _ _ _ _) _ _
  case directiveHold => exact .request (.directive _ _ _ _ _) _ _
  case directiveResume => exact .request (.directive _ _ _ _ _) _ _
  case directiveSkip => exact .request (.directive _ _ _ _ _) _ _
  case directiveAbort => exact .request (.directive _ _ _ _ _) _ _
  case directiveResetSafe => exact .request (.directive _ _ _ _ _) _ _
  case calibrate => exact .request .calibrate _ _
  case readPicture => exact .request .readPicture _ _
  case readReadings => exact .request .readReadings _ _
  case readPeer => exact .request (.readPeer _) _ _
  case readClimate => exact .request .readClimate _ _
  case readState => exact .request .readState _ _
  case readConditions => exact .request .readConditions _ _
  case clearConditions => exact .request (.clearConditions _) _ _
  case setAttentionMask => exact .request (.setAttentionMask _) _ _
  case readTrace => exact .request .readTrace _ _
  case unknownRequest => exact .request .malformed _ _
  case gapTimerExpiry => exact gapTimerExpiry_effect _
  case responseEnd => exact .responseEnd _
  case serviceByteReceived => exact serviceByteReceived_effect _ _ _
  case startBitSeen => exact .bus (.startBit _)

/-! ## The clock -/

/-- A run that the line has shown is taken for the owner of its frame's kind, or discarded (R43, R44). -/
theorem takeHeardRun_effect (run : List LineByte) (s : State) : Effect s (takeHeardRun run s) := by
  unfold takeHeardRun
  split
  · exact .run .report run s
  · exact .run .offer run s
  · exact .run .safe run s
  · exact .run .anyDirective run s
  · exact .bus (.discardRun s)

/-- The events at which the charge records can change: a run's end and a byte of a request. -/
def ClockEvent.reachesStore : ClockEvent → Bool
  | .runEnd | .serviceByte => true
  | _ => false

/-- The effects of a clock event that reaches no rank, one after another, with the free values used up. -/
inductive ClockEffect : State → State → Prop where
  | block {s t : State} (h : BlockEffect s t) : ClockEffect s t
  | bus {s t : State} (h : BusEffect s t) : ClockEffect s t
  | receiver (s : State) (p : Port) (h : s.port.SameAnswers p) : ClockEffect s (s.setPort p)
  | responseEnd (s : State) : ClockEffect s (responseEnd s)
  | nextFree (s : State) : ClockEffect s (nextFree s)
  | trans {s t u : State} (h : ClockEffect s t) (k : ClockEffect t u) : ClockEffect s u

theorem ClockEffect.refl (s : State) : ClockEffect s s := .receiver s s.port ⟨rfl, rfl⟩

theorem completeSweep_effect (s : State) : ClockEffect s (completeSweep s) := by
  unfold completeSweep
  split
  · exact .refl s
  · exact .block (.calibrationComplete s)
  · exact .block (.probeComplete s)

theorem beginOrWait_effect (s : State) : ClockEffect s (beginOrWait s) := by
  unfold beginOrWait
  split
  · split
    · exact (ClockEffect.nextFree s).trans (.bus (.attemptBegin _))
    · exact .nextFree s
  · exact .bus (.attemptBegin s)

theorem takeEvent_clockEffect {e : ClockEvent} (he : e.reachesStore = false) (s : State) : ClockEffect s (takeEvent e s) := by
  cases e
  case runEnd => cases he
  case serviceByte => cases he
  case windowEnd => exact (ClockEffect.block (.windowEnd _ s)).trans ((ClockEffect.nextFree _).trans (completeSweep_effect _))
  case sweepInterval => exact .block (.sweepInterval s)
  case calibrationTimer => exact .block (.calibrationTimer s)
  case controlPeriod => exact (ClockEffect.block (.controlPeriod _ _ s)).trans (.nextFree _)
  case holdTimer => exact .block (.holdTimer _ s)
  case settleTimer => exact .block (.settleTimer s)
  case attemptFail => exact .bus (.attemptFail s)
  case attemptComplete => exact .bus (.attemptComplete s)
  case attemptBegin => exact beginOrWait_effect s
  case spacingTimer => exact .bus (.spacingTimer s)
  case quietGap => exact .bus (.quietGap s)
  case lineBlockedTimer => exact .bus (.lineBlockedTimer s)
  case reportTimer => exact .bus (.reportTimer s)
  case entryStale => exact .block (.entryStale _ s)
  case entryEmptied => exact .block (.entryEmptied _ s)
  case reofferHoldoff => exact .block (.reofferHoldoff s)
  case minuteTick => exact .block (.minuteTick s)
  case gatherTimer => exact .block (.gatherTimer s)
  case gapTimer =>
    change ClockEffect s (gapTimerExpiry s)
    unfold gapTimerExpiry
    split
    · exact .refl s
    · exact .receiver s _ ⟨rfl, rfl⟩
  case responseEnd => exact .responseEnd s

/-- An event that may reach a rank has one effect, after a change of the receiver. -/
theorem takeEvent_effect {e : ClockEvent} (he : e.reachesStore = true) (s : State) :
    ∃ p, s.port.SameAnswers p ∧ Effect (s.setPort p) (takeEvent e s) := by
  cases e
  case runEnd => exact ⟨s.port, ⟨rfl, rfl⟩, takeHeardRun_effect _ s⟩
  case serviceByte =>
    change ∃ p, s.port.SameAnswers p ∧ Effect (s.setPort p) (wireByteReceived s)
    unfold wireByteReceived
    split
    · exact ⟨{ s.port with rxBits := none }, ⟨rfl, rfl⟩, serviceByteReceived_effect _ _ _⟩
    · exact ⟨s.port, ⟨rfl, rfl⟩, .receiver s s.port ⟨rfl, rfl⟩⟩
  all_goals cases he

theorem takeIfDue_cases (s : State) (e : ClockEvent) : takeIfDue s e = takeEvent e s ∨ takeIfDue s e = s := by
  unfold takeIfDue
  split
  · exact .inl rfl
  · exact .inr rfl

/-- A bit time is the counting, then events of the clock, each of those that fall once, in one order or the other. -/
theorem tick_eq (s : State) :
    ∃ (u : State) (es : List ClockEvent), tick s = es.foldl takeIfDue u ∧ (u = countAll s ∨ u = nextFree (countAll s))
      ∧ (es = fallingEvents s (countAll s) ∨ es = (fallingEvents s (countAll s)).reverse) := by
  unfold tick
  dsimp only
  split
  next h => exact ⟨_, [], rfl, .inl rfl, .inl h.symm⟩
  next e h => exact ⟨_, [e], rfl, .inl rfl, .inl h.symm⟩
  next =>
    refine ⟨_, _, rfl, .inr rfl, ?_⟩
    split
    · exact .inl rfl
    · exact .inr rfl

/-! ## One induction for every step -/

/-- A property that holds after power-on, that the clock's counting and free values keep, and that every effect keeps. -/
structure Kept (P : State → Prop) : Prop where
  powerOn : ∀ straps emergency fan s, P (powerOn straps emergency fan s)
  pending : ∀ s v, P s → P (s.setPending v)
  count : ∀ s, P s → P (countAll s)
  nextFree : ∀ s, P s → P (nextFree s)
  effect : ∀ s t, Effect s t → P s → P t

theorem Kept.clockEffect {P : State → Prop} (h : Kept P) {s t : State} (he : ClockEffect s t) (hs : P s) : P t := by
  induction he with
  | block hb => exact h.effect _ _ (.block hb) hs
  | bus hb => exact h.effect _ _ (.bus hb) hs
  | receiver s p hp => exact h.effect _ _ (.receiver s p hp) hs
  | responseEnd s => exact h.effect _ _ (.responseEnd s) hs
  | nextFree s => exact h.nextFree _ hs
  | trans _ _ ih ih' => exact ih' (ih hs)

theorem Kept.takeEvent {P : State → Prop} (h : Kept P) (e : ClockEvent) (s : State) (hs : P s) : P (takeEvent e s) := by
  cases he : e.reachesStore with
  | false => exact h.clockEffect (takeEvent_clockEffect he s) hs
  | true =>
    obtain ⟨p, hp, heff⟩ := takeEvent_effect he s
    exact h.effect _ _ heff (h.effect _ _ (.receiver s p hp) hs)

theorem Kept.foldl_takeIfDue {P : State → Prop} (h : Kept P) (es : List ClockEvent) (s : State) (hs : P s) :
    P (es.foldl takeIfDue s) := by
  induction es generalizing s with
  | nil => exact hs
  | cons e es ih =>
    refine ih _ ?_
    obtain heq | heq := takeIfDue_cases s e <;> rw [heq]
    · exact h.takeEvent e s hs
    · exact hs

theorem Kept.tick {P : State → Prop} (h : Kept P) (s : State) (hs : P s) : P (tick s) := by
  obtain ⟨u, es, htick, hu, -⟩ := tick_eq s
  rw [htick]
  refine h.foldl_takeIfDue es u ?_
  obtain rfl | rfl := hu
  · exact h.count s hs
  · exact h.nextFree _ (h.count s hs)

theorem exec_powerOn {n k : Nat} {r : Role} {e f : Bool} {s t : State} (h : exec (.powerOn n k r e f) s = .next t) :
    t = powerOn { station := n, kiln := k, role := r } e f s := by
  simp only [exec, execPowerOn] at h
  split at h
  · cases h; rfl
  · cases h

/-- A command is POWER_ON or has one of the effects. -/
theorem exec_cases {c : Instr} {s t : State} (h : exec c s = .next t) :
    (∃ straps e f, t = powerOn straps e f s) ∨ Effect s t := by
  by_cases hc : ∃ n k r e f, c = .powerOn n k r e f
  · obtain ⟨n, k, r, e, f, rfl⟩ := hc
    exact .inl ⟨_, _, _, exec_powerOn h⟩
  · exact .inr (exec_effect h fun n k r e f heq => hc ⟨n, k, r, e, f, heq⟩)

/-- A property of that form is kept by every step. -/
theorem Kept.step {P : State → Prop} (h : Kept P) {s t : State} (hst : step s = .next t) (hs : P s) : P t := by
  unfold Machine.step at hst
  split at hst
  · cases hst; exact h.tick s hs
  · obtain ⟨straps, e, f, rfl⟩ | heff := exec_cases hst
    · exact h.powerOn _ _ _ _
    · exact h.effect _ _ heff (h.pending _ _ hs)

end Sys2Proof.Machine
end

section
/-! The invariants of chapters 6, 7 and 9: what every command and every bit time keeps of the ranks, the position, the
climate controller and a PROBE station's rest, said once per operation. -/

namespace Sys2Proof.Machine

/-! ## The invariants by block -/

/-- The ranks are sound and the position is in step with them (R94, R106). -/
def State.ChargeSound (s : State) : Prop := s.RanksSound ∧ s.PositionSound

/-- The outputs lie in their ranges and the regime is that of TABLE 9-3 (R142, R146). -/
def State.ClimateSound (s : State) : Prop := s.OutputsBounded ∧ s.RegimeSound

/-- The conditions that only a ZONE station latches (R141). -/
def Condition.zoneOnly : Condition → Bool
  | .wetBulbFault | .heatCutoff | .climateDeviation => true
  | _ => false

/-- A step within one charge: the ranks stand, the position does not fall back, and what the climate controller and a PROBE
station keep is kept. -/
structure Onward (s t : State) : Prop where
  straps : t.straps = s.straps
  staged : t.store.staged = s.store.staged
  current : t.store.current = s.store.current
  position : s.PositionSound → t.PositionSound
  rank : s.PositionSound → ∀ a b, s.currentRank = some a → t.currentRank = some b → a ≤ b
  climate : s.ChargeSound → s.ClimateSound → t.ClimateSound
  probe : s.ProbeAtRest → t.ProbeAtRest

theorem Onward.ranks {s t : State} (h : Onward s t) (hs : s.RanksSound) : t.RanksSound := by
  unfold State.RanksSound at *
  rw [h.staged, h.current]
  exact hs

theorem Onward.charge {s t : State} (h : Onward s t) (hs : s.ChargeSound) : t.ChargeSound :=
  ⟨h.ranks hs.1, h.position hs.2⟩

/-- Under a sound position a record in the current rank gives the position a rank (R106). -/
theorem State.PositionSound.currentRank_isSome {s : State} (h : s.PositionSound) {r : RankedRecord}
    (hr : s.store.current = some r) : s.currentRank.isSome = true := by
  simpa [State.currentRank, hr] using h.2 r hr

theorem Onward.refl (s : State) : Onward s s :=
  ⟨rfl, rfl, rfl, id, fun _ _ _ ha hb => by rw [ha] at hb; cases hb; exact le_rfl, fun _ => id, id⟩

theorem Onward.trans {s t u : State} (h : Onward s t) (k : Onward t u) : Onward s u where
  straps := k.straps.trans h.straps
  staged := k.staged.trans h.staged
  current := k.current.trans h.current
  position := k.position ∘ h.position
  rank hs a b ha hb := by
    obtain ⟨r, hr⟩ : ∃ r, s.store.current = some r := by
      unfold State.currentRank at ha
      exact Option.ne_none_iff_exists'.1 fun hn => by simp [hn] at ha
    obtain ⟨m, hm⟩ := Option.isSome_iff_exists.1 ((h.position hs).currentRank_isSome (h.current.trans hr))
    exact (h.rank hs a m ha hm).trans (k.rank (h.position hs) m b hm hb)
  climate hc hs := k.climate (h.charge hc) (h.climate hc hs)
  probe := k.probe ∘ h.probe

/-- What the invariants of a charge and of the climate controller read of a state. -/
def State.progressView (s : State) :=
  (s.straps, s.store.staged, s.store.current, s.schedule.position, s.schedule.mode, s.climate)

/-- What the rest of a PROBE station reads besides. -/
def State.restView (s : State) :=
  (s.sensors.wet, s.attention.stamp .wetBulbFault, s.attention.stamp .heatCutoff, s.attention.stamp .climateDeviation)

theorem State.ClimateSound.of_view {s t : State} (h : s.ClimateSound) (hv : t.progressView = s.progressView) :
    t.ClimateSound := by
  simp only [State.progressView, Prod.mk.injEq] at hv
  obtain ⟨hstraps, -, hcurrent, hpos, hmode, hclimate⟩ := hv
  unfold State.ClimateSound State.OutputsBounded State.RegimeSound State.currentRecord at *
  rw [hpos, hcurrent, hmode, hclimate, hstraps]; exact h

theorem Onward.of_view {s t : State} (hp : t.progressView = s.progressView) (hr : s.ProbeAtRest → t.ProbeAtRest) :
    Onward s t := by
  have hclimate (h : s.ClimateSound) : t.ClimateSound := h.of_view hp
  simp only [State.progressView, Prod.mk.injEq] at hp
  obtain ⟨hstraps, hstaged, hcurrent, hpos, -, -⟩ := hp
  refine ⟨hstraps, hstaged, hcurrent, ?_, ?_, fun _ => hclimate, hr⟩
  · unfold State.PositionSound; rw [hpos, hcurrent]; exact id
  · intro _ a b ha hb
    unfold State.currentRank at *
    rw [hcurrent, hpos, ha] at hb; cases hb; exact le_rfl

/-- A step that leaves all of it alone. -/
theorem Onward.of_same {s t : State} (hp : t.progressView = s.progressView) (hr : t.restView = s.restView) :
    Onward s t := by
  refine Onward.of_view hp ?_
  simp only [State.progressView, State.restView, Prod.mk.injEq] at hp hr
  obtain ⟨hstraps, -, -, -, -, hclimate⟩ := hp
  obtain ⟨hwet, hfault, hcutoff, hdev⟩ := hr
  unfold State.ProbeAtRest
  rw [hstraps, hclimate, hwet, hfault, hcutoff, hdev]; exact id

/-! ## Records and conditions -/

/-- A record write latches nothing but TRACE OVERRUN (R167). -/
theorem writeRecord_stamp (r : TraceRecord) (s : State) {d : Condition} (hd : d ≠ .traceOverrun) :
    (writeRecord r s).attention.stamp d = s.attention.stamp d := by
  unfold writeRecord
  split
  · rfl
  · simp [Attention.stamp_latch, hd]

theorem writeTrace_stamp (k : TraceKind) (s : State) {d : Condition} (hd : d ≠ .traceOverrun) :
    (writeTrace k s).attention.stamp d = s.attention.stamp d := writeRecord_stamp _ _ hd

/-- A latching gives no other condition a stamp, but for the TRACE OVERRUN of its record. -/
theorem latch_stamp_ne (c : Condition) (s : State) {d : Condition} (hc : d ≠ c) (hd : d ≠ .traceOverrun) :
    (latch c s).attention.stamp d = s.attention.stamp d := by
  unfold latch
  split
  · rfl
  · dsimp only
    split
    · simp [Attention.stamp_latch, hc]
    · rw [writeTrace_stamp _ _ hd]; simp [Attention.stamp_latch, hc]

theorem foldl_latch_stamp_ne (cs : List Condition) (s : State) {d : Condition} (hc : d ∉ cs)
    (hd : d ≠ .traceOverrun) : (cs.foldl (fun s c => latch c s) s).attention.stamp d = s.attention.stamp d := by
  induction cs generalizing s with
  | nil => rfl
  | cons c cs ih =>
    rw [List.mem_cons, not_or] at hc
    rw [List.foldl_cons, ih _ hc.2, latch_stamp_ne c s hc.1 hd]

/-- The conditions of an event stamp no other, but for TRACE OVERRUN. -/
theorem latchAll_stamp_ne (cs : List Condition) (s : State) {d : Condition} (hc : d ∉ cs) (hd : d ≠ .traceOverrun) :
    (latchAll cs s).attention.stamp d = s.attention.stamp d :=
  foldl_latch_stamp_ne _ s (fun h => hc (by simpa using (List.mem_filter.1 h).2)) hd

theorem writeRecord_onward (r : TraceRecord) (s : State) : Onward s (writeRecord r s) :=
  Onward.of_same (by simp [State.progressView]) (by simp [State.restView, writeRecord_stamp])

theorem writeTrace_onward (k : TraceKind) (s : State) : Onward s (writeTrace k s) := writeRecord_onward _ _

/-- Latchings keep a charge's progress where a PROBE station latches none of the ZONE conditions. -/
theorem latchAll_onward (cs : List Condition) (s : State)
    (h : s.straps.role = .probe → ∀ c ∈ cs, c.zoneOnly = false) : Onward s (latchAll cs s) := by
  refine Onward.of_view (by simp [State.progressView]) fun hp hrole => ?_
  simp only [latchAll_keeps] at hrole
  have hne : ∀ c : Condition, c.zoneOnly = true → c ∉ cs := fun c hz hc => by simp [h hrole c hc] at hz
  obtain ⟨h1, h2, h3, h4, h5, h6, h7, h8, h9, h10⟩ := hp hrole
  simp only [latchAll_keeps]
  refine ⟨h1, h2, h3, h4, h5, h6, h7, ?_, ?_, ?_⟩
  all_goals rwa [latchAll_stamp_ne _ _ (hne _ rfl) (by decide)]

theorem latch_onward (c : Condition) (s : State) (h : s.straps.role = .probe → c.zoneOnly = false) :
    Onward s (latch c s) := by
  have hone : latch c s = latchAll [c] s := by
    unfold latchAll; cases c <;> rfl
  rw [hone]
  exact latchAll_onward _ _ fun hr d hd => by rw [List.mem_singleton.1 hd]; exact h hr

end Sys2Proof.Machine
end

section
/-! What the parts of the climate controller keep (chapter 9): the regimes, the loops, the deviation count. -/

namespace Sys2Proof.Machine

/-! ## The regime (R146) -/

theorem regimeOf_eq (m : Mode) (p : Position) : regimeOf m p = tableRegime m p := by cases m <;> cases p <;> rfl

theorem regimeVent_eq (r : Option ChargeRecord) (g : Regime) : regimeVent r g = tableVent r g := by
  cases r <;> cases g <;> rfl

theorem tableRegime_safe (p : Position) : tableRegime .safe p = .safe := by cases p <;> rfl

/-- The regime is LOOPS only in a loop position outside SAFE (TABLE 9-3). -/
theorem tableRegime_eq_loops {m : Mode} {p : Position} : tableRegime m p = .loops ↔ m ≠ .safe ∧ p.isLoop = true := by
  cases m <;> cases p <;> simp [tableRegime, Position.isLoop]

/-- What judging the regime leaves in the climate controller: in LOOPS the outputs, without them those of TABLE 9-3. -/
theorem judgeRegime_climate (s : State) :
    (judgeRegime s).climate =
      if tableRegime s.schedule.mode s.schedule.position = .loops then { s.climate with regime := .loops }
      else
        { s.climate with
          regime := tableRegime s.schedule.mode s.schedule.position, integral := 0, heat := 0, spray := 0
          vent :=
            match s.straps.role with
            | .zone => tableVent s.currentRecord (tableRegime s.schedule.mode s.schedule.position)
            | .probe => 0 } := by
  unfold judgeRegime
  rw [regimeOf_eq]
  cases h : tableRegime s.schedule.mode s.schedule.position <;> simp [regimeVent_eq] <;> rfl

/-- The bound of the safe vent position, from the current record's range (TABLE 6-1 field 19). -/
theorem tableVent_le {s : State} (h : s.RanksSound) (g : Regime) : tableVent s.currentRecord g ≤ 1000 := by
  cases g
  case safe =>
    cases hr : s.store.current with
    | none => simp [tableVent, State.currentRecord, hr]
    | some r =>
      have hvent : r.record.safeVent ≤ 1000 := fieldOk_of_valid (h.2.1 r hr).1 (k := 19) (by decide) (by decide)
      simpa [tableVent, State.currentRecord, hr] using hvent
  all_goals simp [tableVent]

/-- The regime judged from outputs and an integral in range is sound (R142, R146). -/
theorem judgeRegime_climateSound {s : State} (hr : s.RanksSound) (h : s.OutputsBounded) :
    (judgeRegime s).ClimateSound := by
  obtain ⟨h1, h2, h3, h4, h5, h6, h7⟩ := h
  have hv := tableVent_le hr
  unfold State.ClimateSound State.OutputsBounded State.RegimeSound
  rw [judgeRegime_climate]
  simp only [judgeRegime_keeps, State.currentRecord]
  split
  next hl => exact ⟨⟨h1, h2, h3, h4, h5, h6, h7⟩, hl.symm, fun hne => absurd rfl hne⟩
  next hl =>
    refine ⟨⟨by simp, ?_, by simp, .inr rfl, by simp, by simp, fun hp => ⟨rfl, by simp [hp], rfl⟩⟩, rfl, fun _ =>
      ⟨rfl, rfl, rfl, fun hz => by simp [hz]⟩⟩
    cases s.straps.role
    · simp
    · exact hv _

/-- On a PROBE station the regime judged keeps the outputs at 0 (R141). -/
theorem judgeRegime_probe {s : State} (h : s.ProbeAtRest) : (judgeRegime s).ProbeAtRest := by
  intro hrole
  simp only [judgeRegime_keeps] at hrole ⊢
  obtain ⟨h1, h2, h3, h4, h5, h6, hrest⟩ := h hrole
  rw [judgeRegime_climate]
  split
  · exact ⟨h1, h2, h3, h4, h5, h6, hrest⟩
  · exact ⟨rfl, by simp [hrole], rfl, rfl, h5, h6, hrest⟩

/-! ## Entries and changes of mode -/

/-- The climate controller before the regime is judged at an entry (R143, R144). -/
def Climate.entering (c : Climate) (target : Option (Int × Nat)) (left own : Position) (dryBulb : Option Int) : Climate :=
  { c with
    targetDry := target.map (·.1), targetDep := target.map (·.2), activeDep := target.map (·.2), deviation := 0
    spActive := if own.isLoop then (if left.isLoop then c.spActive else some (dryBulb.getD 200)) else none
    integral := if own.isLoop && left.isLoop then c.integral else 0 }

theorem climateEntry_eq (left : Position) (s : State) :
    climateEntry left s =
      judgeRegime (s.setClimate (s.climate.entering (s.currentRecord.bind fun r => targetsOf r s.schedule.position)
        left s.schedule.position s.dryBulb)) := by
  unfold climateEntry Climate.entering
  cases s.schedule.position.isLoop <;> cases left.isLoop <;> rfl

theorem entering_bounded {s : State} (h : s.OutputsBounded) (target : Option (Int × Nat)) (left own : Position)
    (db : Option Int) : (s.setClimate (s.climate.entering target left own db)).OutputsBounded := by
  obtain ⟨h1, h2, h3, h4, h5, h6, h7⟩ := h
  refine ⟨h1, h2, h3, h4, ?_, ?_, h7⟩ <;>
  · simp only [State.setClimate_climate, Climate.entering]
    split <;> omega

/-- A PROBE station at rest is so under another climate controller whose outputs, integral, settle timer and count are 0. -/
theorem State.ProbeAtRest.setClimate {s : State} (h : s.ProbeAtRest) {c : Climate}
    (hc : s.straps.role = .probe → c.heat = s.climate.heat ∧ c.vent = s.climate.vent ∧ c.spray = s.climate.spray
      ∧ (c.integral = s.climate.integral ∨ c.integral = 0)
      ∧ (c.settleTimer = s.climate.settleTimer ∨ c.settleTimer = 0)
      ∧ (c.deviation = s.climate.deviation ∨ c.deviation = 0)) : (s.setClimate c).ProbeAtRest := by
  intro hrole
  obtain ⟨h1, h2, h3, h4, h5, h6, hrest⟩ := h hrole
  obtain ⟨c1, c2, c3, c4, c5, c6⟩ := hc hrole
  simp only [State.setClimate_climate]
  exact ⟨c1.trans h1, c2.trans h2, c3.trans h3, by omega, by omega, by omega, hrest⟩

theorem climateEntry_probe {s : State} (h : s.ProbeAtRest) (left : Position) : (climateEntry left s).ProbeAtRest := by
  rw [climateEntry_eq]
  refine judgeRegime_probe (h.setClimate fun _ => ⟨rfl, rfl, rfl, ?_, .inl rfl, .inr rfl⟩)
  unfold Climate.entering
  dsimp only
  split
  · exact .inl rfl
  · exact .inr rfl

theorem climateEntry_climateSound {s : State} (hr : s.RanksSound) (h : s.OutputsBounded) (left : Position) :
    (climateEntry left s).ClimateSound := by
  rw [climateEntry_eq]
  exact judgeRegime_climateSound (s := s.setClimate _) hr (entering_bounded h _ _ _ _)

/-- An entry to a position that the current record ranks, not below the one that stands. -/
def State.canEnter (s : State) (p : Position) : Prop :=
  ∃ r, s.store.current = some r ∧ p ≠ .idle ∧ ∃ b, positionRank r.record.stepCount p = some b
    ∧ ∀ a, s.currentRank = some a → a ≤ b

theorem enterPosition_climateSound {s : State} (hr : s.RanksSound) (h : s.OutputsBounded) (p : Position) (k : Cause)
    (cs : List Condition) : (enterPosition p k cs s).ClimateSound :=
  (climateEntry_climateSound (s := s.setSchedule (entrySchedule s.currentRecord p s.schedule)) hr h
    s.schedule.position).of_view (by simp [State.progressView, enterPosition])

theorem enterPosition_probe {s : State} (h : s.ProbeAtRest) (p : Position) (k : Cause) {cs : List Condition}
    (hcs : ∀ c ∈ cs, c.zoneOnly = false) : (enterPosition p k cs s).ProbeAtRest := by
  have hentry := climateEntry_probe (s := s.setSchedule (entrySchedule s.currentRecord p s.schedule)) h
    s.schedule.position
  unfold enterPosition
  dsimp only
  refine (latchAll_onward _ _ fun _ c hc => ?_).probe ((writeTrace_onward _ _).probe hentry)
  rcases List.mem_append.1 hc with hc | hc
  · exact hcs c hc
  · rw [List.mem_singleton] at hc
    rw [hc]; split <;> rfl

theorem enterPosition_onward {p : Position} {s : State} (k : Cause) {cs : List Condition}
    (hp : s.PositionSound → s.canEnter p) (hcs : ∀ c ∈ cs, c.zoneOnly = false) :
    Onward s (enterPosition p k cs s) where
  straps := by simp
  staged := by simp
  current := by simp
  position hs := by
    obtain ⟨r, hr, hidle, b, hb, -⟩ := hp hs
    refine ⟨by simp [entrySchedule, hr, hidle], fun r' hr' => ?_⟩
    simp only [enterPosition_keeps] at hr'
    rw [hr] at hr'; cases hr'
    simp [entrySchedule, hb]
  rank hs a b ha hb := by
    obtain ⟨r, hr, -, b', hb', hle⟩ := hp hs
    simp [State.currentRank, hr, entrySchedule, hb'] at hb
    exact hb ▸ hle a ha
  climate hc hs := enterPosition_climateSound hc.1 hs.1 p k cs
  probe hs := enterPosition_probe hs p k hcs

theorem climateMode_probe {s : State} (h : s.ProbeAtRest) : (climateMode s).ProbeAtRest :=
  judgeRegime_probe (h.setClimate fun _ => ⟨rfl, rfl, rfl, .inl rfl, .inl rfl, .inr rfl⟩)

theorem climateMode_climateSound {s : State} (hr : s.RanksSound) (h : s.OutputsBounded) :
    (climateMode s).ClimateSound :=
  judgeRegime_climateSound (s := s.setClimate _) hr h

theorem changeMode_onward (m : Mode) {cs : List Condition} (s : State) (hcs : ∀ c ∈ cs, c.zoneOnly = false) :
    Onward s (changeMode m cs s) where
  straps := by simp
  staged := by simp
  current := by simp
  position hs := by unfold State.PositionSound at *; simpa using hs
  rank _ a b ha hb := by
    unfold State.currentRank at *
    simp only [changeMode_keeps, changeMode_schedule] at hb
    rw [ha] at hb; cases hb; exact le_rfl
  climate hc hs :=
    (climateMode_climateSound (s := s.setSchedule { s.schedule with mode := m }) hc.1 hs.1).of_view
      (by simp [State.progressView, changeMode])
  probe hs := by
    have h := climateMode_probe (s := s.setSchedule { s.schedule with mode := m }) hs
    exact (latchAll_onward _ _ fun _ => hcs).probe ((writeTrace_onward _ _).probe h)

end Sys2Proof.Machine
end

section
/-! The invariants within one charge: entries, exits, changes of mode, sensors, loops and timers (chapters 1, 7, 8, 9). -/

namespace Sys2Proof.Machine

/-! ## Positions that can be entered (TABLE 7-1) -/

theorem ChargeRecord.stepAt_range {r : ChargeRecord} {k : Nat} {st : ScheduleStep} (h : r.stepAt k = some st) :
    1 ≤ k ∧ k ≤ r.stepCount := by
  unfold ChargeRecord.stepAt at h
  split at h
  · cases h
  · have hlt := (List.getElem?_eq_some_iff.1 h).1
    unfold ChargeRecord.stepCount
    omega

theorem positionRank_drying {n k : Nat} (h : 1 ≤ k ∧ k ≤ n) : positionRank n (.drying k) = some (2 + k) := by
  simp [positionRank, h]

/-- A position of rank b can be entered from one whose rank, if any, is at most b. -/
theorem canEnter_of_rank {s : State} {r : ChargeRecord} {p : Position} {b : Nat} (hr : s.currentRecord = some r)
    (hb : positionRank r.stepCount p = some b) (hidle : p ≠ .idle)
    (hle : ∀ a, positionRank r.stepCount s.schedule.position = some a → a ≤ b) : s.canEnter p := by
  obtain ⟨rr, hrr, rfl⟩ := Option.map_eq_some_iff.1 hr
  exact ⟨rr, hrr, hidle, b, hb, fun a ha => hle a (by simpa [State.currentRank, hrr] using ha)⟩

theorem State.PositionSound.currentRecord {s : State} (h : s.PositionSound) (hp : s.schedule.position ≠ .idle) :
    ∃ r, s.currentRecord = some r := by
  obtain ⟨r, hr⟩ := Option.ne_none_iff_exists'.1 fun hn => hp (h.1.2 hn)
  exact ⟨r.record, by simp [State.currentRecord, hr]⟩

/-- A position beyond the one that stands can be entered (R106). -/
theorem canEnter_of_isBeyond {s : State} (hs : s.PositionSound) {r : ChargeRecord} {p : Position}
    (hr : s.currentRecord = some r) (hp : s.isBeyond r p = true) : s.canEnter p := by
  obtain ⟨rr, hrr, rfl⟩ := Option.map_eq_some_iff.1 hr
  obtain ⟨a, ha⟩ := Option.isSome_iff_exists.1 (hs.2 rr hrr)
  unfold State.isBeyond at hp
  rw [ha] at hp
  cases hb : positionRank rr.record.stepCount p with
  | none => simp [hb] at hp
  | some b =>
    simp only [hb, decide_eq_true_eq] at hp
    refine canEnter_of_rank hr hb ?_ fun a' ha' => ?_
    · rintro rfl; simp only [positionRank, Option.some.injEq] at hb; omega
    · rw [ha] at ha'; cases ha'; omega

theorem runningAt_iff (s : State) (p : Position) :
    s.runningAt p = true ↔ s.schedule.mode = .run ∧ s.schedule.position = p := by
  simp [State.runningAt]

/-! ## Exits and entries -/

theorem warmupMet_iff (s : State) :
    s.warmupMet = true ↔ ∃ r st db, s.currentRecord = some r ∧ r.stepAt 1 = some st ∧ s.dryBulb = some db
      ∧ st.dryBulb - (r.warmBand : Int) ≤ db := by
  unfold State.warmupMet
  cases hr : s.currentRecord with
  | none => simp
  | some r => cases hst : r.stepAt 1 <;> cases hd : s.dryBulb <;> simp [hst]

theorem coolMet_iff (s : State) :
    s.coolMet = true ↔ ∃ r db, s.currentRecord = some r ∧ s.dryBulb = some db ∧ db ≤ r.coolEnd := by
  unfold State.coolMet
  cases s.currentRecord <;> cases s.dryBulb <;> simp

theorem testWarmup_onward (s : State) : Onward s (testWarmup s) := by
  unfold testWarmup
  split
  next h =>
    rw [Bool.and_eq_true, runningAt_iff, warmupMet_iff] at h
    obtain ⟨⟨-, hpos⟩, r, st, db, hr, hst, -⟩ := h
    refine enterPosition_onward _ (fun _ => ?_) (by simp)
    have hone := (r.stepAt_range hst).2
    refine canEnter_of_rank hr (positionRank_drying ⟨le_rfl, hone⟩) (by simp) fun a ha => ?_
    rw [hpos] at ha; cases ha; omega
  next => exact Onward.refl s

theorem testCool_onward (s : State) : Onward s (testCool s) := by
  unfold testCool
  split
  next h =>
    rw [Bool.and_eq_true, runningAt_iff, coolMet_iff] at h
    obtain ⟨⟨-, hpos⟩, r, db, hr, -⟩ := h
    refine enterPosition_onward _ (fun _ => ?_) (by simp)
    refine canEnter_of_rank hr rfl (by simp) fun a ha => ?_
    rw [hpos] at ha; cases ha; omega
  next => exact Onward.refl s

/-- The entry to the position after the one that stands, both outside DRYING. -/
theorem canEnter_of_next {s : State} (hs : s.PositionSound) {p : Position} (hidle : s.schedule.position ≠ .idle)
    (hp : p ≠ .idle) (hnext : ∀ n, ∃ a b, positionRank n s.schedule.position = some a ∧ positionRank n p = some b ∧ a ≤ b) :
    s.canEnter p := by
  obtain ⟨r, hr⟩ := hs.currentRecord hidle
  obtain ⟨a, b, ha, hb, hab⟩ := hnext r.stepCount
  refine canEnter_of_rank hr hb hp fun a' ha' => ?_
  rw [ha] at ha'; cases ha'; exact hab

theorem enterWarmup_onward {s : State} (k : Cause) {cs : List Condition} (hpos : s.schedule.position = .gather)
    (hcs : ∀ c ∈ cs, c.zoneOnly = false) : Onward s (enterPosition .warmup k cs s) :=
  enterPosition_onward k (fun hs => canEnter_of_next hs (by simp [hpos]) (by simp) fun _ =>
    ⟨1, 2, by rw [hpos]; rfl, rfl, by omega⟩) hcs

theorem testGather_onward (s : State) : Onward s (testGather s) := by
  unfold testGather
  split
  next h =>
    rw [Bool.and_eq_true, Bool.and_eq_true, runningAt_iff] at h
    exact (enterWarmup_onward _ h.1.1.2 (by simp)).trans (testWarmup_onward _)
  next => exact Onward.refl s

theorem testCondition_onward (s : State) : Onward s (testCondition s) := by
  unfold testCondition
  split
  next h =>
    rw [Bool.and_eq_true, runningAt_iff] at h
    refine (enterPosition_onward _ (fun hs => ?_) (by simp)).trans (testCool_onward _)
    exact canEnter_of_next hs (by simp [h.1.2]) (by simp) fun n => ⟨n + 4, n + 5, by rw [h.1.2]; rfl, rfl, by omega⟩
  next => exact Onward.refl s

theorem exitsAtOnce_onward (s : State) : Onward s (exitsAtOnce s) := by
  unfold exitsAtOnce
  split
  · exact testGather_onward s
  · exact testWarmup_onward s
  · exact testCondition_onward s
  · exact testCool_onward s
  all_goals exact Onward.refl s

theorem enter_onward {p : Position} {s : State} (k : Cause) (hp : s.PositionSound → s.canEnter p) :
    Onward s (enter p k s) :=
  (enterPosition_onward k hp (by simp)).trans (exitsAtOnce_onward _)

theorem enterSafe_onward (o : SafeOrigin) {cs : List Condition} (s : State) (hcs : ∀ c ∈ cs, c.zoneOnly = false) :
    Onward s (enterSafe o cs s) := by
  unfold enterSafe
  split
  · exact latchAll_onward _ _ fun _ => hcs
  · have hmode := changeMode_onward .safe (cs := .safe :: cs)
      (s.setSchedule { s.schedule with safeOrigin := some o }) (by simpa [Condition.zoneOnly] using hcs)
    refine Onward.trans ?_ hmode
    exact Onward.of_same rfl rfl

/-! ## Pictures, reports, directives -/

theorem judgeDrying_onward {r : ChargeRecord} (p : Picture) {k : Nat} {s : State} (hr : s.currentRecord = some r)
    (hpos : s.schedule.position = .drying k) : Onward s (judgeDrying r p k s) := by
  have hrank : ∀ a, positionRank r.stepCount s.schedule.position = some a → a = 2 + k ∧ 1 ≤ k ∧ k ≤ r.stepCount := by
    intro a ha
    rw [hpos, positionRank] at ha
    split at ha
    next hk => cases ha; exact ⟨rfl, hk⟩
    next => cases ha
  have hequalize : s.canEnter .equalize :=
    canEnter_of_rank hr rfl (by simp) fun a ha => by have := hrank a ha; omega
  unfold judgeDrying
  split
  · exact enter_onward _ fun _ => hequalize
  · split
    next c st _ hst =>
      split
      · refine enter_onward _ fun _ => ?_
        have hk := r.stepAt_range hst
        split
        · exact hequalize
        · refine canEnter_of_rank hr (positionRank_drying ⟨by omega, by omega⟩) (by simp) fun a ha => ?_
          have := hrank a ha; omega
      · exact Onward.refl s
    next => exact Onward.refl s

theorem judgePicture_onward (s : State) : Onward s (judgePicture s) := by
  unfold judgePicture
  split
  next p r _ hr =>
    split
    · split
      next k hpos => exact judgeDrying_onward p hr hpos
      next hpos =>
        split
        · refine enter_onward _ fun hs => ?_
          exact canEnter_of_next hs (by simp [hpos]) (by simp) fun n => ⟨n + 3, n + 4, by rw [hpos]; rfl, rfl, by omega⟩
        · exact Onward.refl s
      next => exact Onward.refl s
    · exact Onward.refl s
  next => exact Onward.refl s

theorem followReport_onward (n : Nat) (d : ReportData) (s : State) : Onward s (followReport n d s) := by
  unfold followReport
  split
  next h =>
    unfold State.follows at h
    split at h
    next r hr =>
      simp only [Bool.and_eq_true] at h
      exact enter_onward _ fun hs => canEnter_of_isBeyond hs hr h.1.1.1.2
    next => cases h
  next => exact Onward.refl s

theorem showSchedule_onward (n : Nat) (d : ReportData) (s : State) : Onward s (showSchedule n d s) :=
  (testGather_onward s).trans (followReport_onward n d _)

theorem applyHold_onward (s : State) : Onward s (applyHold s) := by
  unfold applyHold
  split
  · exact changeMode_onward _ _ (by simp)
  · exact Onward.refl s

theorem applyResume_onward (s : State) : Onward s (applyResume s) := by
  unfold applyResume
  split
  · exact (changeMode_onward _ _ (by simp)).trans (exitsAtOnce_onward _)
  · exact Onward.refl s

theorem applyResetSafe_onward (s : State) : Onward s (applyResetSafe s) := by
  unfold applyResetSafe
  split
  · exact changeMode_onward _ _ (by simp)
  · exact Onward.refl s

theorem applySkip_onward (p : Option Position) (s : State) : Onward s (applySkip p s) := by
  unfold applySkip
  split
  next p r hr =>
    split
    next h => exact enter_onward _ fun hs => canEnter_of_isBeyond hs hr h.2
    next => exact Onward.refl s
  next => exact Onward.refl s

/-! ## The climate controller's figures -/

/-- A change of the climate controller that keeps the regime, keeps the outputs in range, and outside LOOPS leaves heat, spray
and I as they are or at 0 and vent as it is. -/
theorem setClimate_onward {s : State} {c : Climate} (hreg : c.regime = s.climate.regime)
    (hbound : s.OutputsBounded → (s.setClimate c).OutputsBounded)
    (hstill : s.climate.regime ≠ .loops → c.vent = s.climate.vent ∧ (c.integral = s.climate.integral ∨ c.integral = 0)
      ∧ (c.heat = s.climate.heat ∨ c.heat = 0) ∧ (c.spray = s.climate.spray ∨ c.spray = 0))
    (hrest : s.ProbeAtRest → (s.setClimate c).ProbeAtRest) : Onward s (s.setClimate c) where
  straps := rfl
  staged := rfl
  current := rfl
  position := id
  rank := (Onward.refl s).rank
  climate _ hs := by
    refine ⟨hbound hs.1, hreg.trans hs.2.1, fun hne => ?_⟩
    simp only [State.setClimate_climate, hreg] at hne ⊢
    obtain ⟨hi, hh, hsp, hv⟩ := hs.2.2 hne
    obtain ⟨hv', hi', hh', hsp'⟩ := hstill hne
    exact ⟨hi'.elim (·.trans hi) id, hh'.elim (·.trans hh) id, hsp'.elim (·.trans hsp) id, fun hz => hv'.trans (hv hz)⟩
  probe := hrest

/-- One that leaves the outputs and I alone, and on a PROBE station the settle timer and the count, or sets them to 0. -/
theorem setClimate_onward_of_outputs {s : State} {c : Climate}
    (h : (c.regime, c.integral, c.heat, c.vent, c.spray)
      = (s.climate.regime, s.climate.integral, s.climate.heat, s.climate.vent, s.climate.spray))
    (hrest : s.straps.role = .probe → (c.settleTimer = s.climate.settleTimer ∨ c.settleTimer = 0)
      ∧ (c.deviation = s.climate.deviation ∨ c.deviation = 0)) : Onward s (s.setClimate c) := by
  simp only [Prod.mk.injEq] at h
  obtain ⟨hreg, hi, hh, hv, hsp⟩ := h
  refine setClimate_onward hreg ?_ (fun _ => ⟨hv, .inl hi, .inl hh, .inl hsp⟩) fun hs =>
    hs.setClimate fun hrole => ⟨hh, hv, hsp, .inl hi, hrest hrole⟩
  unfold State.OutputsBounded
  simp only [State.setClimate_climate, State.setClimate_straps, hi, hh, hv, hsp]
  exact id

theorem setpointRamp_onward (s : State) : Onward s (setpointRamp s) := by
  unfold setpointRamp
  split
  · split
    · exact setClimate_onward_of_outputs rfl fun _ => ⟨.inl rfl, .inl rfl⟩
    · exact Onward.refl s
  · exact Onward.refl s

theorem deviationInForce_zone {s : State} (h : s.deviationInForce = true) : s.straps.role = .zone := by
  simp only [State.deviationInForce, Bool.and_eq_true, beq_iff_eq] at h
  exact h.1.1.1

theorem judgeDeviation_onward (s : State) : Onward s (judgeDeviation s) := by
  have hzero : Onward s (s.setClimate { s.climate with deviation := 0 }) :=
    setClimate_onward_of_outputs rfl fun _ => ⟨.inl rfl, .inr rfl⟩
  unfold judgeDeviation
  split
  · split
    next h =>
      have hzone := deviationInForce_zone h.1
      have hcount : Onward s (s.setClimate
          { s.climate with deviation := min (deviationLimitOf ‹_›) (s.climate.deviation + 1) }) :=
        setClimate_onward_of_outputs rfl fun hp => by simp [hzone] at hp
      dsimp only
      split
      · exact hcount.trans (latch_onward _ _ fun hp => by simp [hzone] at hp)
      · exact hcount
    next => exact hzero
  · exact hzero

theorem deviationLimit_onward (s : State) : Onward s (deviationLimit s) := by
  unfold deviationLimit
  split
  · split
    next h =>
      have hzone := deviationInForce_zone h.1
      refine Onward.trans ?_ (latch_onward _ _ fun hp => by simp [hzone] at hp)
      exact setClimate_onward_of_outputs rfl fun hp => by simp [hzone] at hp
    next => exact Onward.refl s
  · exact Onward.refl s

theorem settleTimerExpiry_onward (s : State) : Onward s (settleTimerExpiry s) :=
  setClimate_onward_of_outputs rfl fun _ => ⟨.inr rfl, .inl rfl⟩

theorem startSettle_onward (s : State) : Onward s (startSettle s) := by
  unfold startSettle
  split
  next hz => exact setClimate_onward_of_outputs rfl fun hp => by simp [hz] at hp
  next => exact Onward.refl s

theorem clampDemand_le (x : Int) : clampDemand x ≤ 1000 := by
  unfold clampDemand clampInt; omega

/-- The heat loop keeps heat and I in their ranges (R148, R149). -/
theorem heatLoop_bounded (r : ChargeRecord) (db : Option Int) (c : Climate) :
    (heatLoop r db c).heat ≤ 1000 ∧ -1000 ≤ (heatLoop r db c).integral ∧ (heatLoop r db c).integral ≤ 1000 := by
  unfold heatLoop
  split
  · refine ⟨clampDemand_le _, ?_, ?_⟩ <;>
    · simp only [nextIntegral, clampInt]; omega
  · simp

theorem heatLoop_keeps (r : ChargeRecord) (db : Option Int) (c : Climate) :
    heatLoop r db c = { c with integral := (heatLoop r db c).integral, heat := (heatLoop r db c).heat } := by
  unfold heatLoop; split <;> rfl

/-- The humidity loop keeps vent and spray in their ranges and apart (R150). -/
theorem humidityLoop_bounded (r : ChargeRecord) (wet : SensorChannel) {c : Climate} (hv : c.vent ≤ 1000)
    (hs : c.spray ≤ 1000) (hvs : c.vent = 0 ∨ c.spray = 0) :
    (humidityLoop r wet c).vent ≤ 1000 ∧ (humidityLoop r wet c).spray ≤ 1000
      ∧ ((humidityLoop r wet c).vent = 0 ∨ (humidityLoop r wet c).spray = 0) := by
  unfold humidityLoop
  split
  · exact ⟨hv, hs, hvs⟩
  · simp
  · simp
  · split
    · simp only [ventOutput, sprayOutput]
      refine ⟨?_, ?_, ?_⟩
      · split <;> simp [clampDemand_le]
      · split <;> simp [clampDemand_le]
      · split
        · exact .inr (if_neg (by omega))
        · exact .inl rfl
    · simp

theorem humidityLoop_keeps (r : ChargeRecord) (wet : SensorChannel) (c : Climate) :
    humidityLoop r wet c = { c with vent := (humidityLoop r wet c).vent, spray := (humidityLoop r wet c).spray } := by
  unfold humidityLoop; split <;> [rfl; rfl; rfl; (split <;> rfl)]

theorem climatePeriod_onward (s : State) : Onward s (climatePeriod s) := by
  unfold climatePeriod
  split
  next r hrole hreg _ =>
    split
    · have hheat := heatLoop_bounded r s.dryBulb s.climate
      refine setClimate_onward ?_ (fun hb => ?_) (fun hne => absurd hreg hne) fun _ hp => ?_
      · rw [humidityLoop_keeps, heatLoop_keeps]
      · obtain ⟨-, hv, hsp, hvs, -⟩ := hb
        obtain ⟨hv', hsp', hvs'⟩ := humidityLoop_bounded r s.sensors.wet (c := heatLoop r s.dryBulb s.climate)
          (by rw [heatLoop_keeps]; exact hv) (by rw [heatLoop_keeps]; exact hsp) (by rw [heatLoop_keeps]; exact hvs)
        refine ⟨?_, hv', hsp', hvs', ?_, ?_, fun hp => by simp [hrole] at hp⟩
        all_goals
          rw [State.setClimate_climate, humidityLoop_keeps]
        exacts [hheat.1, hheat.2.1, hheat.2.2]
      · simp [hrole] at hp
    · exact Onward.refl s
  next => exact Onward.refl s

/-! ## Sensors -/

theorem dryBulbLoss_onward (s : State) : Onward s (dryBulbLoss s) := by
  have hmark : Onward s (remarkReadings s) := Onward.of_same rfl rfl
  unfold dryBulbLoss
  dsimp only
  split
  next hz =>
    refine hmark.trans (setClimate_onward rfl (fun hb => ?_) (fun _ => ⟨rfl, .inr rfl, .inr rfl, .inl rfl⟩) fun _ hp => ?_)
    · obtain ⟨-, hv, hsp, hvs, -⟩ := hb
      exact ⟨by simp, hv, hsp, hvs, by simp, by simp, fun hp => by simp [hz] at hp⟩
    · simp [hz] at hp
  next => exact hmark.trans (setClimate_onward_of_outputs rfl fun _ => ⟨.inl rfl, .inr rfl⟩)

theorem wetBulbLoss_onward (s : State) : Onward s (wetBulbLoss s) := by
  unfold wetBulbLoss
  split
  next hz hreg =>
    refine setClimate_onward rfl (fun hb => ?_) (fun hne => absurd hreg hne) fun _ hp => ?_
    · obtain ⟨hh, -, -, -, hi, hi', -⟩ := hb
      exact ⟨hh, by simp, by simp, .inl rfl, hi, hi', fun hp => by simp [hz] at hp⟩
    · simp [hz] at hp
  next => exact Onward.refl s

theorem setSensors_onward {s : State} {v : Sensors} (h : s.straps.role = .probe → v.wet = s.sensors.wet) :
    Onward s (s.setSensors v) :=
  Onward.of_view rfl fun hs hrole => by
    simp only [State.setSensors_sensors, h hrole]
    exact hs hrole

theorem sampleDry_onward (v : Int) (s : State) : Onward s (sampleDry v s) := by
  have hset : Onward s (s.setSensors { s.sensors with dry := s.sensors.dry.sampled v }) := setSensors_onward fun _ => rfl
  unfold sampleDry
  dsimp only
  split
  · exact hset.trans (dryBulbLoss_onward _)
  · exact hset

theorem sampleWet_onward (v : Int) (s : State) : Onward s (sampleWet v s) := by
  unfold sampleWet
  split
  next hz =>
    have hset : Onward s (s.setSensors { s.sensors with wet := s.sensors.wet.sampled v }) :=
      setSensors_onward fun hp => by simp [hz] at hp
    dsimp only
    split
    · exact hset.trans (wetBulbLoss_onward _)
    · exact hset
  next => exact Onward.refl s

theorem dryBulbLossConditions_probe {s : State} (h : s.straps.role = .probe) : dryBulbLossConditions s = [] := by
  simp [dryBulbLossConditions, h]

theorem samplePeriod_onward (d w : Int) (s : State) : Onward s (samplePeriod d w s) := by
  refine ((sampleDry_onward d s).trans (sampleWet_onward w _)).trans (latchAll_onward _ _ fun hp c hc => ?_)
  simp only [sampleWet_keeps, sampleDry_keeps] at hp
  simp only [dryConditions, wetConditions, dryBulbLossConditions_probe hp, hp] at hc
  have : c = .temperatureFault := by
    split at hc <;> simp at hc; exact hc
  rw [this]; rfl

theorem periodExits_onward (s : State) : Onward s (periodExits s) := by
  unfold periodExits
  split
  · exact testWarmup_onward s
  · exact testCool_onward s
  · exact Onward.refl s

theorem controlPeriod_onward (d w : Int) (s : State) : Onward s (controlPeriod d w s) := by
  refine Onward.trans ?_ (periodExits_onward _)
  refine Onward.trans ?_ (judgeDeviation_onward _)
  refine Onward.trans ?_ (climatePeriod_onward _)
  refine Onward.trans ?_ (samplePeriod_onward d w _)
  exact setSensors_onward fun _ => rfl

theorem holdTimerExpiry_onward (sensor : Sensor) (s : State) : Onward s (holdTimerExpiry sensor s) := by
  unfold holdTimerExpiry
  cases sensor
  case dryBulb =>
    dsimp only
    split
    · refine ((setSensors_onward ?_).trans (dryBulbLoss_onward _)).trans (latchAll_onward _ _ fun hp c hc => ?_)
      · exact fun _ => rfl
      · simp only [dryBulbLoss_keeps, State.setSensors_straps] at hp
        simp [dryBulbLossConditions_probe hp] at hc
    · exact Onward.refl s
  case wetBulb =>
    dsimp only
    split
    next h =>
      have hset : Onward s (s.setSensors { s.sensors with wet := { s.sensors.wet with state := .lost, holdTimer := 0 } }) :=
        Onward.of_view rfl fun hs hrole => by
          have hwet := (hs hrole).2.2.2.2.2.2.1
          simp [hwet] at h
      exact hset.trans (wetBulbLoss_onward _)
    next => exact Onward.refl s

/-! ## The schedule controller's timers -/

/-- A change of the schedule controller that leaves the position and the mode. -/
theorem setSchedule_onward {s : State} {c : Schedule} (hp : c.position = s.schedule.position)
    (hm : c.mode = s.schedule.mode) : Onward s (s.setSchedule c) :=
  Onward.of_same (by simp [State.progressView, hp, hm]) rfl

theorem countReversal_onward (s : State) : Onward s (countReversal s) := by
  unfold countReversal
  split
  · split
    · exact setSchedule_onward rfl rfl
    · exact Onward.refl s
  · exact Onward.refl s

theorem fanReversal_onward (s : State) : Onward s (fanReversal s) := by
  refine Onward.trans ?_ (startSettle_onward _)
  refine Onward.trans ?_ (countReversal_onward _)
  exact Onward.of_same rfl rfl

theorem takeSnapshot_onward (s : State) : Onward s (takeSnapshot s) :=
  (writeTrace_onward _ s).trans (Onward.of_same rfl rfl)

theorem countMinute_onward (s : State) : Onward s (countMinute s) := by
  unfold countMinute
  split
  · exact Onward.refl s
  · exact setSchedule_onward rfl rfl

theorem tickSnapshot_onward (s : State) : Onward s (tickSnapshot s) := by
  unfold tickSnapshot
  split
  · exact Onward.refl s
  · split
    · exact takeSnapshot_onward s
    · exact Onward.of_same rfl rfl

theorem tickStep_onward (s : State) : Onward s (tickStep s) := by
  unfold tickStep
  split
  · split
    · exact setSchedule_onward rfl rfl
    · exact Onward.refl s
  · exact Onward.refl s

theorem tickOvertime_onward (s : State) : Onward s (tickOvertime s) := by
  unfold tickOvertime
  split
  · split
    · have hset : Onward s (s.setSchedule { s.schedule with overtime := s.schedule.overtime + 1 }) :=
        setSchedule_onward rfl rfl
      dsimp only
      split
      · exact hset.trans (latch_onward _ _ fun _ => rfl)
      · exact hset
    · exact Onward.refl s
  · exact Onward.refl s

theorem tickCondition_onward (s : State) : Onward s (tickCondition s) := by
  unfold tickCondition
  split
  · refine Onward.trans ?_ (testCondition_onward _)
    exact setSchedule_onward rfl rfl
  · exact Onward.refl s

theorem minuteTick_onward (s : State) : Onward s (minuteTick s) := by
  refine Onward.trans ?_ (setpointRamp_onward _)
  refine Onward.trans ?_ (tickCondition_onward _)
  refine Onward.trans ?_ (tickOvertime_onward _)
  refine Onward.trans ?_ (tickStep_onward _)
  refine Onward.trans ?_ (tickSnapshot_onward _)
  refine Onward.trans ?_ (countMinute_onward _)
  exact setSchedule_onward rfl rfl

theorem stepTimerExpiry_onward (s : State) : Onward s (stepTimerExpiry s) := by
  unfold stepTimerExpiry
  split
  · exact setSchedule_onward rfl rfl
  · exact Onward.refl s

theorem overtimeLimit_onward (s : State) : Onward s (overtimeLimit s) := by
  unfold overtimeLimit
  split
  · split
    · refine Onward.trans ?_ (latch_onward _ _ fun _ => rfl)
      exact setSchedule_onward rfl rfl
    · exact Onward.refl s
  · exact Onward.refl s

theorem conditionTimerExpiry_onward (s : State) : Onward s (conditionTimerExpiry s) := by
  unfold conditionTimerExpiry
  split
  · refine Onward.trans ?_ (testCondition_onward _)
    exact setSchedule_onward rfl rfl
  · exact Onward.refl s

theorem gatherTimerExpiry_onward (s : State) : Onward s (gatherTimerExpiry s) := by
  unfold gatherTimerExpiry
  split
  next h => exact (enterWarmup_onward _ ((runningAt_iff s _).1 h).2 (by simp [Condition.zoneOnly])).trans (testWarmup_onward _)
  next => exact Onward.refl s

theorem snapshotTimerExpiry_onward (s : State) : Onward s (snapshotTimerExpiry s) := by
  unfold snapshotTimerExpiry
  split
  · exact Onward.refl s
  · exact takeSnapshot_onward s

end Sys2Proof.Machine
end

section
/-! The invariants of the ranks, the position, the climate controller and a PROBE station's rest over every effect (O57, O58,
O60). -/

namespace Sys2Proof.Machine

/-! ## A change of the charge (R94, R101, R132) -/

/-- What one effect does to the current rank: it stands with the position not falling back, it takes the staged record, or it is
emptied. -/
def ChargeMove (s t : State) : Prop :=
  (t.store.current = s.store.current ∧ ∀ a b, s.currentRank = some a → t.currentRank = some b → a ≤ b)
    ∨ (t.store.current = s.store.staged ∧ t.store.staged = none)
    ∨ (t.store.current = none ∧ t.store.staged = s.store.staged)

/-- What every effect keeps. -/
structure Keeps (s t : State) : Prop where
  straps : t.straps = s.straps
  charge : s.ChargeSound → t.ChargeSound
  climate : s.ChargeSound → s.ClimateSound → t.ClimateSound
  probe : s.ProbeAtRest → t.ProbeAtRest
  move : s.ChargeSound → ChargeMove s t

theorem Onward.keeps {s t : State} (h : Onward s t) : Keeps s t :=
  ⟨h.straps, h.charge, h.climate, h.probe, fun hs => .inl ⟨h.current, h.rank hs.2⟩⟩

/-- A rank of the position stays one within a charge. -/
theorem Onward.rank_le {s t : State} (h : Onward s t) (hs : s.ChargeSound) {a : Nat} (ha : s.currentRank = some a) :
    ∃ b, t.currentRank = some b ∧ a ≤ b := by
  obtain ⟨r, hr, -⟩ := Option.bind_eq_some_iff.1 ha
  obtain ⟨b, hb⟩ := Option.isSome_iff_exists.1 ((h.charge hs).2.currentRank_isSome (h.current.trans hr))
  exact ⟨b, hb, h.rank hs.2 a b ha hb⟩

theorem Keeps.after {s t u : State} (k : Keeps t u) (h : Onward s t) : Keeps s u where
  straps := k.straps.trans h.straps
  charge := k.charge ∘ h.charge
  climate hc hs := k.climate (h.charge hc) (h.climate hc hs)
  probe := k.probe ∘ h.probe
  move hs := by
    obtain ⟨hcur, hrank⟩ | ⟨hcur, hst⟩ | ⟨hcur, hst⟩ := k.move (h.charge hs)
    · refine .inl ⟨hcur.trans h.current, fun a b ha hb => ?_⟩
      obtain ⟨m, hm, ham⟩ := h.rank_le hs ha
      exact ham.trans (hrank m b hm hb)
    · exact .inr (.inl ⟨hcur.trans h.staged, hst⟩)
    · exact .inr (.inr ⟨hcur, hst.trans h.staged⟩)

theorem Keeps.before {s t u : State} (k : Keeps s t) (h : Onward t u) : Keeps s u where
  straps := h.straps.trans k.straps
  charge := h.charge ∘ k.charge
  climate hc hs := h.climate (k.charge hc) (k.climate hc hs)
  probe := h.probe ∘ k.probe
  move hs := by
    obtain ⟨hcur, hrank⟩ | ⟨hcur, hst⟩ | ⟨hcur, hst⟩ := k.move hs
    · refine .inl ⟨h.current.trans hcur, fun a b ha hb => ?_⟩
      obtain ⟨r, hr, -⟩ := Option.bind_eq_some_iff.1 ha
      obtain ⟨m, hm⟩ := Option.isSome_iff_exists.1 ((k.charge hs).2.currentRank_isSome (hcur.trans hr))
      exact (hrank a m ha hm).trans (h.rank (k.charge hs).2 m b hm hb)
    · exact .inr (.inl ⟨h.current.trans hcur, h.staged.trans hst⟩)
    · exact .inr (.inr ⟨h.current.trans hcur, h.staged.trans hst⟩)

/-- A change of the staged rank alone. -/
theorem setStaged_keeps {s : State} {st : Option RankedRecord}
    (h : ∀ r, st = some r → r.Sound ∧ ∀ c, s.store.current = some c → r.record.chargeNumber ≠ c.record.chargeNumber) :
    Keeps s (s.setStore { s.store with staged := st }) where
  straps := rfl
  charge hs := ⟨⟨fun r hr => (h r hr).1, hs.1.2.1, fun a b ha hb => (h a ha).2 b hb⟩, hs.2⟩
  climate _ hs := hs
  probe hs := hs
  move _ := .inl ⟨rfl, fun a b ha hb => by
    change s.currentRank = some b at hb
    rw [ha] at hb; cases hb; exact le_rfl⟩

/-! ## Promotion and ABORT -/

/-- The state from which a promotion enters GATHER. -/
theorem promote_eq (k : Cause) (s : State) :
    promote k s =
      exitsAtOnce (enterPosition .gather k [] (promoteTimers (requestCalibration (promoteStore s)))) := rfl

@[simp] theorem promoteStore_store (s : State) :
    (promoteStore s).store = { s.store with staged := none, current := s.store.staged } := rfl

/-- A promotion moves the staged record to the current rank and enters GATHER (R101). -/
theorem promote_keepsInvariants (k : Cause) {s : State} {r : RankedRecord} (hr : s.store.staged = some r) :
    Keeps s (promote k s) := by
  rw [promote_eq]
  refine Keeps.before ?_ (exitsAtOnce_onward _)
  have hranks : s.RanksSound → (promoteTimers (requestCalibration (promoteStore s))).RanksSound := by
    intro h
    simp only [State.RanksSound, promoteTimers_keeps, requestCalibration_keeps, promoteStore_store]
    exact ⟨nofun, h.1, nofun⟩
  refine ⟨by simp, fun hs => ⟨?_, ?_⟩, fun hc hs => ?_, fun hs => ?_, fun _ => .inr (.inl ⟨by simp, by simp⟩)⟩
  · simpa [State.RanksSound] using hranks hs.1
  · simp [State.PositionSound, entrySchedule, hr, positionRank]
  · refine enterPosition_climateSound (hranks hc.1) ?_ _ _ _
    simpa [State.OutputsBounded] using hs.1
  · refine enterPosition_probe ?_ _ _ (by simp)
    unfold State.ProbeAtRest at *
    simpa using hs

theorem climateAbort_eq (s : State) :
    climateAbort s = judgeRegime (s.setClimate
      { s.climate with
        targetDry := none, targetDep := none, spActive := none, activeDep := none, integral := 0, deviation := 0 }) := rfl

theorem climateAbort_climateSound {s : State} (hr : s.RanksSound) (h : s.OutputsBounded) :
    (climateAbort s).ClimateSound := by
  obtain ⟨h1, h2, h3, h4, -, -, h7⟩ := h
  exact judgeRegime_climateSound (s := s.setClimate _) hr ⟨h1, h2, h3, h4, by simp, by simp, h7⟩

theorem climateAbort_probe {s : State} (h : s.ProbeAtRest) : (climateAbort s).ProbeAtRest :=
  judgeRegime_probe (h.setClimate fun _ => ⟨rfl, rfl, rfl, .inr rfl, .inl rfl, .inr rfl⟩)

/-- The blocks of an ABORT before its record is written. -/
def aborted (s : State) : State :=
  let s1 := s.setSchedule (abortSchedule s.schedule)
  let s2 := (s1.setStore { s1.store with current := none }).setBus (s1.bus.emptyOffer .current)
  climateAbort (s2.setTrace { s2.trace with snapshotTimer := 0 })

theorem abortCharge_eq (s : State) :
    abortCharge s =
      writeRecord { (aborted s).traceRecord .abort with position := s.schedule.position, minute := s.schedule.minute }
        (aborted s) := rfl

@[simp] theorem aborted_store (s : State) : (aborted s).store = { s.store with current := none } := by simp [aborted]
@[simp] theorem aborted_schedule (s : State) : (aborted s).schedule = abortSchedule s.schedule := by simp [aborted]
@[simp] theorem aborted_straps (s : State) : (aborted s).straps = s.straps := by simp [aborted]

/-- An ABORT empties the current rank and makes the position IDLE (R132). -/
theorem abortCharge_keepsInvariants (s : State) : Keeps s (abortCharge s) := by
  rw [abortCharge_eq]
  refine Keeps.before ?_ (writeRecord_onward _ _)
  refine ⟨by simp, fun hs => ⟨?_, ?_⟩, fun hc hs => ?_, fun hs => ?_, fun _ => .inr (.inr ⟨by simp, by simp⟩)⟩
  · simpa [State.RanksSound] using hs.1.1
  · simp [State.PositionSound, abortSchedule]
  · refine climateAbort_climateSound ?_ ?_
    · simpa [State.RanksSound] using hc.1.1
    · simpa [State.OutputsBounded] using hs.1
  · refine climateAbort_probe ?_
    unfold State.ProbeAtRest at *
    simpa using hs

/-! ## The frames' owners -/

theorem setBus_onward (s : State) (b : Bus) : Onward s (s.setBus b) := Onward.of_same rfl rfl

theorem endRun_onward (s : State) : Onward s (endRun s) := setBus_onward s _

theorem discardRun_onward (s : State) : Onward s (discardRun s) := by
  unfold discardRun
  split
  · exact endRun_onward s
  · exact Onward.refl s

theorem setClash_onward (s : State) : Onward s (setClash s) :=
  (setBus_onward s _).trans (latch_onward _ _ fun _ => rfl)

/-- Taking a run keeps what its owner keeps. -/
theorem takeRun_keepsInvariants {owner : Frame → State → State} (h : ∀ f s, Keeps s (owner f s)) (k : FrameKind)
    (run : List LineByte) (s : State) : Keeps s (takeRun k owner run s) := by
  unfold takeRun takeMeanwhile
  split
  · split
    · exact (endRun_onward s).keeps
    · split
      · exact (h _ _).after ((endRun_onward s).trans (setClash_onward _))
      · exact (h _ _).after (endRun_onward s)
  · split
    · split
      · exact (Onward.refl s).keeps
      · split
        · exact (Onward.refl s).keeps
        · exact h _ s
    · exact (Onward.refl s).keeps

theorem reportConditions_zoneOnly (cur : Option RankedRecord) (n : Nat) (d : ReportData) :
    ∀ c ∈ reportConditions cur n d, c.zoneOnly = false := by
  unfold reportConditions
  intro c hc
  split at hc
  · cases hc
  · split at hc
    · rcases List.mem_append.1 hc with hc | hc <;>
      · split at hc
        · cases hc
        · rw [List.mem_singleton.1 hc]; rfl
    · cases hc

theorem reoffer_onward (n : Nat) (d : ReportData) (s : State) : Onward s (reoffer n d s) := by
  unfold reoffer
  split
  · exact setBus_onward s _
  · exact Onward.refl s

theorem lateJoin_keepsInvariants (n : Nat) (d : ReportData) (s : State) : Keeps s (lateJoin n d s) := by
  unfold lateJoin
  split
  next h =>
    cases hr : s.store.staged with
    | none => simp [State.joinsLate, hr] at h
    | some r => exact promote_keepsInvariants _ hr
  next => exact (Onward.refl s).keeps

theorem acceptReport_keepsInvariants (n : Nat) (d : ReportData) (s : State) : Keeps s (acceptReport n d s) := by
  unfold acceptReport
  refine Keeps.before (Keeps.after (lateJoin_keepsInvariants _ _ _) ?_) (showSchedule_onward _ _ _)
  refine Onward.trans ?_ (reoffer_onward _ _ _)
  refine Onward.trans ?_ (latchAll_onward _ _ fun _ => reportConditions_zoneOnly _ _ _)
  exact Onward.of_same rfl rfl

theorem ownReport_keepsInvariants (f : Frame) (s : State) : Keeps s (ownReport f s) := by
  unfold ownReport
  split
  · exact (Onward.refl s).keeps
  · split
    · exact acceptReport_keepsInvariants _ _ s
    · exact (Onward.refl s).keeps

theorem cancelOnHearing_onward (f : Frame) (s : State) : Onward s (cancelOnHearing f s) := by
  unfold cancelOnHearing
  split
  · exact setBus_onward s _
  · exact Onward.refl s

/-- No record stands under a number where the search of the current rank finds none. -/
theorem current_ne_of_any {s : State} {n : Nat}
    (h : ¬(s.currentRecord.any fun c => decide (c.chargeNumber = n)) = true) {c : RankedRecord}
    (hc : s.store.current = some c) : n ≠ c.record.chargeNumber := by
  rintro rfl
  simp [State.currentRecord, hc] at h

theorem ranked_sound {r : ChargeRecord} (h : r.valid = true) : (ranked r).Sound :=
  ⟨by simpa only [ranked] using h, by simp only [ranked]⟩

theorem stageOffer_keepsInvariants {r : ChargeRecord} (h : r.valid = true) (s : State) : Keeps s (stageOffer r s) := by
  unfold stageOffer
  split
  · exact (Onward.refl s).keeps
  next hne =>
    split
    · refine setStaged_keeps fun r' hr' => ?_
      cases hr'
      exact ⟨ranked_sound h, fun c hc => current_ne_of_any hne hc⟩
    · split
      · exact (Onward.refl s).keeps
      · exact (latch_onward _ _ fun _ => rfl).keeps

/-- An encoding judged valid gives a valid record (R92, R93). -/
theorem validateEncoding_valid {bs : List Byte} {r : ChargeRecord} (h : validateEncoding bs = .valid r) :
    r = recordOf bs ∧ r.valid = true := by
  unfold validateEncoding at h
  dsimp only at h
  repeat' split at h
  all_goals try cases h
  unfold fieldStage at h
  dsimp only at h
  split at h
  · cases h
  next hnone =>
    cases h
    refine ⟨rfl, ?_⟩
    rw [firstFailing, Option.map_eq_none_iff, List.find?_eq_none] at hnone
    rw [ChargeRecord.valid, List.all_eq_true]
    intro c hc
    simpa using hnone c (List.mem_append_left _ hc)

theorem ownOffer_keepsInvariants (f : Frame) (s : State) : Keeps s (ownOffer f s) := by
  unfold ownOffer
  dsimp only
  refine Keeps.after ?_ (cancelOnHearing_onward f s)
  split
  next r hr =>
    split
    · exact stageOffer_keepsInvariants (validateEncoding_valid hr).2 _
    · exact (latch_onward _ _ fun _ => rfl).keeps
  all_goals exact (latch_onward _ _ fun _ => rfl).keeps

theorem ownSafeFrame_onward (f : Frame) (s : State) : Onward s (ownSafeFrame f s) := enterSafe_onward _ s (by simp)

theorem storeStart_keepsInvariants (charge code : Nat) (s : State) : Keeps s (storeStart charge code s) := by
  unfold storeStart
  split
  · exact (Onward.refl s).keeps
  · split
    next r hr =>
      split
      · split
        · exact promote_keepsInvariants _ hr
        · exact (latch_onward _ _ fun _ => rfl).keeps
      · exact (latch_onward _ _ fun _ => rfl).keeps
    next => exact (latch_onward _ _ fun _ => rfl).keeps

theorem applyDirective_keepsInvariants (k : DirectiveKind) (p : Option Position) (s : State) :
    Keeps s (applyDirective k p s) := by
  cases k
  case start => exact (Onward.refl s).keeps
  case hold => exact (applyHold_onward s).keeps
  case resume => exact (applyResume_onward s).keeps
  case skip => exact (applySkip_onward p s).keeps
  case abort => exact abortCharge_keepsInvariants s
  case resetSafe => exact (applyResetSafe_onward s).keeps

theorem judgeDirective_keepsInvariants (k : DirectiveKind) (charge code : Nat) (p : Option Position) (s : State) :
    Keeps s (judgeDirective k charge code p s) := by
  have hrefl := (Onward.refl s).keeps
  have happly := applyDirective_keepsInvariants k p s
  unfold judgeDirective
  split
  · split
    · exact storeStart_keepsInvariants _ _ s
    · exact hrefl
  · split
    · split
      · exact happly
      · exact hrefl
    · split
      · split
        · split
          · exact happly
          · exact (latch_onward _ _ fun _ => rfl).keeps
        · exact hrefl
      · exact hrefl

theorem ownDirective_keepsInvariants (k : DirectiveKind) (f : Frame) (s : State) : Keeps s (ownDirective k f s) := by
  unfold ownDirective
  split
  · exact judgeDirective_keepsInvariants _ _ _ _ s
  · exact (Onward.refl s).keeps

theorem FrameOwner.keeps {k : FrameKind} {owner : Frame → State → State} (h : FrameOwner k owner) (f : Frame)
    (s : State) : Keeps s (owner f s) := by
  cases h
  case report => exact ownReport_keepsInvariants f s
  case offer => exact ownOffer_keepsInvariants f s
  case safe => exact (ownSafeFrame_onward f s).keeps
  case directive k => exact ownDirective_keepsInvariants k f s
  case anyDirective =>
    unfold ownAnyDirective
    split
    · exact ownDirective_keepsInvariants _ f s
    · exact (Onward.refl s).keeps

/-! ## The requests' owners -/

theorem requestCalibration_onward (s : State) : Onward s (requestCalibration s) :=
  Onward.of_same (by simp [State.progressView]) (by simp [State.restView])

/-- A change of the attention unit that gives no ZONE condition a stamp. -/
theorem setAttention_onward {s : State} {a : Attention} (h : ∀ c, s.attention.stamp c = none → a.stamp c = none) :
    Onward s (s.setAttention a) :=
  Onward.of_view rfl fun hs hrole => by
    obtain ⟨h1, h2, h3, h4, h5, h6, h7, h8, h9, h10⟩ := hs hrole
    exact ⟨h1, h2, h3, h4, h5, h6, h7, h _ h8, h _ h9, h _ h10⟩

theorem foldl_clear_stamp (cs : List Condition) (a : Attention) (d : Condition) :
    (cs.foldl (fun a c => a.setStamp c none) a).stamp d = if d ∈ cs then none else a.stamp d := by
  induction cs generalizing a with
  | nil => simp
  | cons c cs ih =>
    rw [List.foldl_cons, ih, Attention.stamp_setStamp]
    by_cases hc : d ∈ cs <;> by_cases hd : d = c <;> simp [hc, hd]

/-- A CLEAR CONDITIONS takes the stamps of the conditions it clears, and no other (R164). -/
theorem clearedAttention_stamp (s : State) (classes : Byte) (d : Condition) :
    (clearedAttention s classes).stamp d = if d ∈ s.clearable classes then none else s.attention.stamp d := by
  unfold clearedAttention
  split
  next h => simp [h]
  next => rw [Attention.stamp_judged, foldl_clear_stamp]

theorem rankRefusal_conditions {charge code : Nat} {s : State} {ans : Answer} {cs : List Condition}
    (h : rankRefusal charge code s = some (ans, cs)) : cs = [] ∨ cs = [.codeMismatch] := by
  unfold rankRefusal at h
  repeat' split at h
  all_goals cases h
  all_goals simp

/-- The conditions that a refused directive latches at its origin (TABLE 8-3). -/
theorem originRefusal_conditions {k : DirectiveKind} {charge code : Nat} {p : Option Position} {s : State} {ans : Answer}
    {cs : List Condition} (h : originRefusal k charge code p s = some (ans, cs)) :
    cs = [] ∨ cs = [.codeMismatch] ∨ cs = [.chargeMissing] := by
  have hrank (h : rankRefusal charge code s = some (ans, cs)) : cs = [] ∨ cs = [.codeMismatch] ∨ cs = [.chargeMissing] :=
    (rankRefusal_conditions h).imp id .inl
  unfold originRefusal at h
  cases k
  case start =>
    simp only [startRefusal] at h
    repeat' split at h
    all_goals cases h
    all_goals simp
  case skip =>
    dsimp only at h
    rcases (Option.orElse_eq_some _ _ _).1 h with h | ⟨-, h⟩
    · exact hrank h
    · split at h <;> cases h
      exact .inl rfl
  case resetSafe =>
    dsimp only at h
    rcases (Option.orElse_eq_some _ _ _).1 h with h | ⟨-, h⟩
    · split at h
      · split at h <;> cases h
        exact .inl rfl
      · exact hrank h
    · split at h <;> cases h
      exact .inl rfl
  all_goals exact hrank h

theorem applyAtOrigin_keepsInvariants (k : DirectiveKind) (charge code : Nat) (p : Option Position) (s : State) :
    Keeps s (applyAtOrigin k charge code p s) := by
  unfold applyAtOrigin
  split
  · exact storeStart_keepsInvariants _ _ s
  · exact applyDirective_keepsInvariants _ _ s

theorem originate_keepsInvariants (k : DirectiveKind) (charge code : Word16) (phase step : Byte) (s : State) :
    Keeps s (originate k charge code phase step s).1 := by
  have hrefl := (Onward.refl s).keeps
  unfold originate
  split
  · exact hrefl
  · split
    · exact hrefl
    · split
      next ans conds hrefuse =>
        refine (latchAll_onward conds s fun _ c hc => ?_).keeps
        rcases originRefusal_conditions hrefuse with rfl | rfl | rfl
        · cases hc
        all_goals rw [List.mem_singleton.1 hc]; rfl
      next =>
        exact (applyAtOrigin_keepsInvariants _ _ _ _ s).before (setBus_onward _ _)

theorem RequestOwner.keeps {owner : State → State × Answer} (h : RequestOwner owner) (s : State) :
    Keeps s (owner s).1 := by
  have hrefl := (Onward.refl s).keeps
  cases h
  case loadCharge payload =>
    unfold ownerLoadCharge
    split
    · exact hrefl
    · exact hrefl
    next r hr =>
      split
      · exact hrefl
      next hne =>
        split
        · exact hrefl
        · refine Keeps.before (setStaged_keeps fun r' hr' => ?_) (setBus_onward _ _)
          cases hr'
          exact ⟨ranked_sound (validateEncoding_valid hr).2, fun c hc => current_ne_of_any hne hc⟩
  case clearStaged => exact Keeps.before (setStaged_keeps (st := none) nofun) (setBus_onward _ _)
  case directive k charge code phase step => exact originate_keepsInvariants _ _ _ _ _ s
  case noDirective payload hnone =>
    unfold ownerDirective
    rw [hnone]
    dsimp only
    split <;> exact hrefl
  case calibrate =>
    unfold ownerCalibrate
    split
    · exact hrefl
    · exact (requestCalibration_onward s).keeps
  case readPeer =>
    unfold ownerReadPeer
    split <;> exact hrefl
  case clearConditions classes =>
    unfold ownerClearConditions
    split
    · refine (setAttention_onward fun c hc => ?_).keeps
      rw [clearedAttention_stamp, hc, ite_self]
    · exact hrefl
  case setAttentionMask classes =>
    unfold ownerSetAttentionMask
    split
    · exact (setAttention_onward (a := s.attention.masked classes) fun c hc => hc).keeps
    · exact hrefl
  case readTrace => exact (Onward.of_same (s := s) (t := (ownerReadTrace s).1) rfl rfl).keeps
  all_goals exact hrefl

theorem setPort_onward (s : State) (p : Port) : Onward s (s.setPort p) := Onward.of_same rfl rfl

theorem request_keepsInvariants {owner : State → State × Answer} (h : RequestOwner owner) (kind : Byte) (s : State) :
    Keeps s (request kind owner s) := by
  unfold request
  split
  · exact (h.keeps s).before (setPort_onward _ _)
  · split
    · exact (setPort_onward s _).keeps
    · exact (Onward.refl s).keeps

/-! ## Every effect -/

theorem latchPictureShort_onward (s : State) : Onward s (latchPictureShort s) := by
  unfold latchPictureShort
  split
  · split
    · exact latch_onward _ _ fun _ => rfl
    · exact Onward.refl s
  · exact Onward.refl s

theorem startProbeSweep_onward (s : State) : Onward s (startProbeSweep s) := Onward.of_same rfl rfl

theorem calibrationSweepComplete_onward (s : State) : Onward s (calibrationSweepComplete s) := by
  unfold calibrationSweepComplete
  split
  · dsimp only
    have hcal : Onward s (s.setFrontEnd s.frontEnd.calibrated) := Onward.of_same rfl rfl
    refine Onward.trans ?_ (startProbeSweep_onward _)
    split
    · exact hcal.trans (writeTrace_onward _ _)
    · refine Onward.trans ?_ (latch_onward _ _ fun _ => rfl)
      refine Onward.trans ?_ (writeTrace_onward _ _)
      exact hcal.trans (Onward.of_same rfl rfl)
  · exact Onward.refl s

theorem probeSweepComplete_onward (s : State) : Onward s (probeSweepComplete s) := by
  unfold probeSweepComplete
  split
  · refine Onward.trans ?_ (Onward.of_same (by simp [State.progressView]) (by simp [State.restView]) :
      Onward (judgePicture (latchPictureShort (buildPicture (convertReadings s)))) _)
    refine Onward.trans ?_ (judgePicture_onward _)
    refine Onward.trans ?_ (latchPictureShort_onward _)
    exact Onward.of_same rfl rfl
  · exact Onward.refl s

theorem peerEntryStale_onward (n : Nat) (s : State) : Onward s (peerEntryStale n s) := by
  unfold peerEntryStale
  split
  next e _ =>
    split
    · have hset : Onward s (s.setPeers
          (s.peers.setEntry n (some { e with state := .stale, age := max e.age staleAge }))) := Onward.of_same rfl rfl
      dsimp only
      split
      · exact hset.trans (latch_onward _ _ fun _ => rfl)
      · exact hset
    · exact Onward.refl s
  next => exact Onward.refl s

/-- The effects at the blocks other than the bus and the port stay within the charge. -/
theorem BlockEffect.onward {s t : State} (h : BlockEffect s t) : Onward s t := by
  cases h
  case calibrationComplete => exact calibrationSweepComplete_onward s
  case probeComplete => exact probeSweepComplete_onward s
  case controlPeriod d w => exact controlPeriod_onward d w s
  case holdTimer sensor => exact holdTimerExpiry_onward sensor s
  case deviationLimit => exact deviationLimit_onward s
  case settleTimer => exact settleTimerExpiry_onward s
  case entryStale n => exact peerEntryStale_onward n s
  case minuteTick => exact minuteTick_onward s
  case stepTimer => exact stepTimerExpiry_onward s
  case overtimeLimit => exact overtimeLimit_onward s
  case conditionTimer => exact conditionTimerExpiry_onward s
  case gatherTimer => exact gatherTimerExpiry_onward s
  case snapshotTimer => exact snapshotTimerExpiry_onward s
  case fanReversal => exact fanReversal_onward s
  case windowEnd g =>
    unfold measurementWindowEnd
    split <;> exact Onward.of_same rfl rfl
  case sweepInterval =>
    unfold sweepIntervalExpiry
    split <;> exact Onward.of_same rfl rfl
  case calibrationTimer =>
    refine Onward.trans ?_ (requestCalibration_onward _)
    exact Onward.of_same rfl rfl
  case entryEmptied n =>
    unfold peerEntryEmptied
    split
    · split <;> exact Onward.of_same rfl rfl
    · exact Onward.refl s
  case reofferHoldoff => exact Onward.of_same rfl rfl
  case emergencyRelease => exact Onward.of_same rfl rfl

theorem attemptFail_onward (s : State) : Onward s (attemptFail s) := by
  unfold attemptFail
  split
  · exact Onward.refl s
  · dsimp only
    split
    · exact setBus_onward s _
    · split
      · exact setBus_onward s _
      · exact (setBus_onward s _).trans (latch_onward _ _ fun _ => rfl)

theorem emergencyAssertion_onward (s : State) : Onward s (emergencyAssertion s) := by
  unfold emergencyAssertion
  split
  · exact Onward.refl s
  · dsimp only
    refine Onward.trans ?_ (enterSafe_onward _ _ (by simp [Condition.zoneOnly]))
    exact Onward.of_same rfl rfl

theorem BusEffect.onward {s t : State} (h : BusEffect s t) : Onward s t := by
  cases h
  case discardRun => exact discardRun_onward s
  case attemptFail => exact attemptFail_onward s
  case attemptFailTold =>
    unfold Machine.attemptFailTold
    split
    · exact (attemptFail_onward s).trans (setBus_onward _ _)
    · exact Onward.refl s
  case emergencyAssertion => exact emergencyAssertion_onward s
  case attemptBegin =>
    unfold Machine.attemptBegin
    repeat' split
    all_goals exact Onward.of_same rfl rfl
  case attemptComplete =>
    unfold Machine.attemptComplete
    split
    · exact Onward.refl s
    · dsimp only
      split <;> exact Onward.of_same rfl rfl
  case lineBlockedTimer =>
    unfold lineBlockedTimerExpiry
    split
    · exact Onward.refl s
    · exact (setBus_onward s _).trans (latch_onward _ _ fun _ => rfl)
  case quietGap =>
    unfold Machine.quietGap
    split <;> exact Onward.of_same rfl rfl
  case startBit =>
    unfold startBitSeen
    split <;> exact Onward.of_same rfl rfl
  case spacingTimer => exact setBus_onward s _
  case reportTimer => exact Onward.of_same rfl rfl

theorem responseEnd_onward (s : State) : Onward s (responseEnd s) := by
  unfold responseEnd
  split <;> exact Onward.of_same rfl rfl

/-- What every effect keeps of the invariants. -/
theorem Effect.keeps {s t : State} (h : Effect s t) : Keeps s t := by
  cases h
  case block h => exact h.onward.keeps
  case bus h => exact h.onward.keeps
  case run h run => exact takeRun_keepsInvariants (fun f s => h.keeps f s) _ run s
  case receiver p h => exact (setPort_onward s p).keeps
  case responseEnd => exact (responseEnd_onward s).keeps
  case request h kind => exact request_keepsInvariants h kind s
  case requestByte h kind => exact (request_keepsInvariants h kind _).after (setPort_onward s _)

theorem countDown_zero : countDown 0 = 0 := rfl

theorem countAll_onward (s : State) : Onward s (countAll s) := by
  have hsettle : Onward s (s.setClimate { s.climate with settleTimer := countDown s.climate.settleTimer }) := by
    refine setClimate_onward rfl id (fun _ => ⟨rfl, .inl rfl, .inl rfl, .inl rfl⟩) fun hs hrole => ?_
    obtain ⟨h1, h2, h3, h4, h5, hrest⟩ := hs hrole
    exact ⟨h1, h2, h3, h4, by rw [State.setClimate_climate, h5]; rfl, hrest⟩
  refine hsettle.trans (Onward.of_view rfl fun hs hrole => ?_)
  obtain ⟨h1, h2, h3, h4, h5, h6, hwet, hrest⟩ := hs hrole
  refine ⟨h1, h2, h3, h4, h5, h6, ?_, hrest⟩
  change s.sensors.wet.tick = _
  rw [show s.sensors.wet = _ from hwet]
  rfl

theorem ClockEffect.onward {s t : State} (h : ClockEffect s t) : Onward s t := by
  induction h with
  | block h => exact h.onward
  | bus h => exact h.onward
  | receiver s p _ => exact setPort_onward s p
  | responseEnd s => exact responseEnd_onward s
  | nextFree s => exact Onward.of_same rfl rfl
  | trans _ _ ih ih' => exact ih.trans ih'

end Sys2Proof.Machine
end

section
/-! The invariants of the charge, the climate controller and a PROBE station's rest, over every step (R91, R94, R106, R141,
R142, R146). -/

namespace Sys2Proof.Machine

/-! ## After power-on -/

/-- The blocks after power-on, before an emergency input is taken. -/
theorem powerOnStart_sound (straps : Straps) (fan : Bool) (s : State) :
    (startCalSweep (powerOnValues straps fan s)).ChargeSound ∧ (startCalSweep (powerOnValues straps fan s)).ClimateSound
      ∧ (startCalSweep (powerOnValues straps fan s)).ProbeAtRest := by
  simp only [State.ChargeSound, State.ClimateSound, State.RanksSound, State.PositionSound, State.OutputsBounded,
    State.RegimeSound, State.ProbeAtRest, startCalSweep_keeps]
  simp [powerOnValues, Schedule.atPowerOn, Climate.atPowerOn, SensorChannel.atPowerOn, Attention.atPowerOn,
    Attention.stamp, tableRegime, tableVent]

theorem powerOn_sound (straps : Straps) (emergency fan : Bool) (s : State) :
    (powerOn straps emergency fan s).ChargeSound ∧ (powerOn straps emergency fan s).ClimateSound
      ∧ (powerOn straps emergency fan s).ProbeAtRest := by
  obtain ⟨hcharge, hclimate, hprobe⟩ := powerOnStart_sound straps fan s
  unfold powerOn
  dsimp only
  split
  · have h := emergencyAssertion_onward (startCalSweep (powerOnValues straps fan s))
    exact ⟨h.charge hcharge, h.climate hcharge hclimate, h.probe hprobe⟩
  · exact ⟨hcharge, hclimate, hprobe⟩

theorem powerOn_current (straps : Straps) (emergency fan : Bool) (s : State) :
    (powerOn straps emergency fan s).store.current = none := by
  unfold powerOn
  dsimp only
  split
  · rw [(emergencyAssertion_onward _).current]; rfl
  · rfl

/-! ## Every step -/

theorem chargeSound_kept : Kept State.ChargeSound where
  powerOn straps e f s := (powerOn_sound straps e f s).1
  pending _ _ h := h
  count s h := (countAll_onward s).charge h
  nextFree _ h := h
  effect _ _ he h := he.keeps.charge h

theorem climateSound_kept : Kept fun s => s.ChargeSound ∧ s.ClimateSound where
  powerOn straps e f s := ⟨(powerOn_sound straps e f s).1, (powerOn_sound straps e f s).2.1⟩
  pending _ _ h := h
  count s h := ⟨(countAll_onward s).charge h.1, (countAll_onward s).climate h.1 h.2⟩
  nextFree _ h := h
  effect _ _ he h := ⟨he.keeps.charge h.1, he.keeps.climate h.1 h.2⟩

theorem probeAtRest_kept : Kept State.ProbeAtRest where
  powerOn straps e f s := (powerOn_sound straps e f s).2.2
  pending _ _ h := h
  count s h := (countAll_onward s).probe h
  nextFree _ h := h
  effect _ _ he h := he.keeps.probe h

/-- In SAFE there is no heat (TABLE 9-3). -/
theorem State.ClimateSound.heat_safe {s : State} (h : s.ClimateSound) (hm : s.schedule.mode = .safe) :
    s.climate.heat = 0 := by
  have hreg : s.climate.regime = .safe := by rw [h.2.1, hm, tableRegime_safe]
  exact (h.2.2 (by simp [hreg])).2.1

/-- Settles O57: every effect keeps the ranks sound and the position in step with them, and so does the clock's counting. -/
theorem stepsKeepRanksAndPosition : Obligations.StepsKeepRanksAndPosition := fun _ _ hr hp hst =>
  chargeSound_kept.step hst ⟨hr, hp⟩

/-- Settles O58: the regime is judged from outputs in range at every entry and change of mode, and the loops keep the ranges. -/
theorem stepsKeepOutputsAndRegime : Obligations.StepsKeepOutputsAndRegime := by
  refine fun s t hst => ⟨fun hr hp ho hg => ?_, probeAtRest_kept.step hst⟩
  obtain ⟨-, hclimate⟩ := climateSound_kept.step hst ⟨⟨hr, hp⟩, ho, hg⟩
  exact ⟨hclimate.1, hclimate.2, hclimate.heat_safe⟩

/-! ## The position within a charge (R106) -/

/-- The charge of a state still runs: its record is current and the position has not fallen below a rank. -/
def SameCharge (s : State) (a : Nat) (u : State) : Prop :=
  u.store.current = s.store.current ∧ ∃ b, u.currentRank = some b ∧ a ≤ b

/-- The charge of a state has ended, and its record does not stand staged either. -/
def ChargeGone (s : State) (u : State) : Prop :=
  u.store.current ≠ s.store.current ∧ ∀ x c, u.store.staged = some x → s.store.current = some c →
    x.record.chargeNumber ≠ c.record.chargeNumber

theorem SameCharge.onward {s u v : State} {a : Nat} (h : SameCharge s a u) (hu : u.ChargeSound) (k : Onward u v) :
    SameCharge s a v := by
  obtain ⟨hcur, b, hb, hab⟩ := h
  obtain ⟨b', hb', hbb'⟩ := k.rank_le hu hb
  exact ⟨k.current.trans hcur, b', hb', hab.trans hbb'⟩

theorem ChargeGone.onward {s u v : State} (h : ChargeGone s u) (k : Onward u v) : ChargeGone s v := by
  unfold ChargeGone
  rw [k.current, k.staged]; exact h

theorem SameCharge.currentRecord {s u : State} {a : Nat} (h : SameCharge s a u) : ∃ c, u.store.current = some c := by
  obtain ⟨-, b, hb, -⟩ := h
  obtain ⟨c, hc, -⟩ := Option.bind_eq_some_iff.1 hb
  exact ⟨c, hc⟩

/-- One effect leaves the charge running without a fall, or ends it. -/
theorem SameCharge.keeps {s u v : State} {a : Nat} (h : SameCharge s a u) (hu : u.ChargeSound) (k : Keeps u v) :
    SameCharge s a v ∨ ChargeGone s v := by
  obtain ⟨c, hc⟩ := h.currentRecord
  have hs : s.store.current = some c := h.1 ▸ hc
  obtain ⟨hcur, hrank⟩ | ⟨hcur, hst⟩ | ⟨hcur, hst⟩ := k.move hu
  · obtain ⟨-, b, hb, hab⟩ := h
    obtain ⟨b', hb'⟩ := Option.isSome_iff_exists.1 ((k.charge hu).2.currentRank_isSome (hcur.trans hc))
    exact .inl ⟨by rw [hcur, hc, hs], b', hb', hab.trans (hrank b b' hb hb')⟩
  · refine .inr ⟨fun heq => ?_, fun x _ hx => by simp [hst] at hx⟩
    rw [hcur, hs] at heq
    exact hu.1.2.2 c c heq hc rfl
  · refine .inr ⟨by simp [hcur, hs], fun x c' hx hc' => ?_⟩
    rw [hs] at hc'; cases hc'
    exact hu.1.2.2 x c (hst ▸ hx) hc

/-- One effect does not bring back a charge that is gone. -/
theorem ChargeGone.keeps {s u v : State} (h : ChargeGone s u) {c : RankedRecord} (hc : s.store.current = some c)
    (hu : u.ChargeSound) (k : Keeps u v) : v.store.current ≠ s.store.current := by
  obtain ⟨hcur, -⟩ | ⟨hcur, -⟩ | ⟨hcur, -⟩ := k.move hu
  · rw [hcur]; exact h.1
  · intro heq
    rw [hcur, hc] at heq
    exact h.2 c c heq hc rfl
  · rw [hcur, hc]; exact nofun

theorem takeIfDue_chargeSound (e : ClockEvent) {u : State} (hu : u.ChargeSound) : (takeIfDue u e).ChargeSound := by
  obtain h | h := takeIfDue_cases u e <;> rw [h]
  · exact chargeSound_kept.takeEvent e u hu
  · exact hu

theorem takeIfDue_onward {e : ClockEvent} (he : e.reachesStore = false) (u : State) : Onward u (takeIfDue u e) := by
  obtain h | h := takeIfDue_cases u e <;> rw [h]
  · exact (takeEvent_clockEffect he u).onward
  · exact Onward.refl u

theorem takeIfDue_keeps (e : ClockEvent) (u : State) : Keeps u (takeIfDue u e) := by
  cases he : e.reachesStore with
  | false => exact (takeIfDue_onward he u).keeps
  | true =>
    obtain h | h := takeIfDue_cases u e <;> rw [h]
    · obtain ⟨p, -, heff⟩ := takeEvent_effect he u
      exact heff.keeps.after (setPort_onward u p)
    · exact (Onward.refl u).keeps

/-- Events that reach no rank leave a current rank that has changed as it is. -/
theorem foldl_takeIfDue_current (es : List ClockEvent) (u : State) (h : es.countP ClockEvent.reachesStore = 0) :
    (es.foldl takeIfDue u).store.current = u.store.current := by
  induction es generalizing u with
  | nil => rfl
  | cons e es ih =>
    rw [List.countP_eq_zero] at h
    have he : e.reachesStore = false := by simpa using h e (List.mem_cons_self ..)
    rw [List.foldl_cons, ih _ (List.countP_eq_zero.2 fun x hx => h x (List.mem_cons_of_mem _ hx)),
      (takeIfDue_onward he u).current]

/-- With at most one event more that can reach a rank, a charge that is gone does not come back. -/
theorem foldl_takeIfDue_gone (es : List ClockEvent) {s u : State} {c : RankedRecord} (hc : s.store.current = some c)
    (hn : es.countP ClockEvent.reachesStore ≤ 1) (hu : u.ChargeSound) (h : ChargeGone s u) :
    (es.foldl takeIfDue u).store.current ≠ s.store.current := by
  induction es generalizing u with
  | nil => exact h.1
  | cons e es ih =>
    rw [List.countP_cons] at hn
    rw [List.foldl_cons]
    cases he : e.reachesStore with
    | false => exact ih (by simpa [he] using hn) (takeIfDue_chargeSound e hu) (h.onward (takeIfDue_onward he u))
    | true =>
      rw [foldl_takeIfDue_current es _ (by simpa [he] using hn)]
      exact h.keeps hc hu (takeIfDue_keeps e u)

/-- With at most two events that can reach a rank, a charge that is current at the end has not fallen back. -/
theorem foldl_takeIfDue_sameCharge (es : List ClockEvent) {s u : State} {a : Nat}
    (hn : es.countP ClockEvent.reachesStore ≤ 2) (hu : u.ChargeSound) (h : SameCharge s a u)
    (hend : (es.foldl takeIfDue u).store.current = s.store.current) : SameCharge s a (es.foldl takeIfDue u) := by
  induction es generalizing u with
  | nil => exact h
  | cons e es ih =>
    rw [List.countP_cons] at hn
    have hu' := takeIfDue_chargeSound e hu
    cases he : e.reachesStore with
    | false => exact ih (by simpa [he] using hn) hu' (h.onward hu (takeIfDue_onward he u)) hend
    | true =>
      have hrest : es.countP ClockEvent.reachesStore ≤ 1 := by simpa [he] using hn
      obtain hsame | hgone := h.keeps hu (takeIfDue_keeps e u)
      · exact ih (by omega) hu' hsame hend
      · obtain ⟨c, hc⟩ := h.currentRecord
        exact absurd hend (foldl_takeIfDue_gone es (h.1 ▸ hc) hrest hu' hgone)

theorem fallingEvents_reachStore (s u : State) : (fallingEvents s u).countP ClockEvent.reachesStore ≤ 2 :=
  (List.filter_sublist.countP_le (l₂ := ClockEvent.all)).trans (by decide)

/-- A bit time does not take the position back within a charge. -/
theorem tick_sameCharge {s : State} {a : Nat} (hs : s.ChargeSound) (ha : s.currentRank = some a)
    (hend : (tick s).store.current = s.store.current) : SameCharge s a (tick s) := by
  obtain ⟨u, es, htick, hu, hes⟩ := tick_eq s
  have hcount : Onward s u := by
    obtain rfl | rfl := hu
    · exact countAll_onward s
    · exact (countAll_onward s).trans (ClockEffect.nextFree _).onward
  have hn : es.countP ClockEvent.reachesStore ≤ 2 := by
    obtain rfl | rfl := hes
    · exact fallingEvents_reachStore _ _
    · rw [List.countP_reverse]; exact fallingEvents_reachStore _ _
  rw [htick] at hend ⊢
  exact foldl_takeIfDue_sameCharge es hn (hcount.charge hs) (SameCharge.onward ⟨rfl, a, ha, le_rfl⟩ hs hcount) hend

/-- Settles O60: one effect leaves the position where it is or takes it on, or ends the charge; the at most two of a bit time
that reach a rank cannot bring the charge back. -/
theorem positionNeverFallsBack : Obligations.PositionNeverFallsBack := by
  intro s t hr hp hst hcur a b ha hb
  have hs : s.ChargeSound := ⟨hr, hp⟩
  obtain ⟨c, hc, -⟩ := Option.bind_eq_some_iff.1 ha
  suffices h : SameCharge s a t by
    obtain ⟨-, b', hb', hab⟩ := h
    rw [hb] at hb'; cases hb'; exact hab
  unfold step at hst
  split at hst
  · cases hst; exact tick_sameCharge hs ha hcur
  next cmd rest _ =>
    obtain ⟨straps, e, f, rfl⟩ | heff := exec_cases hst
    · rw [hc, powerOn_current] at hcur; cases hcur
    · obtain h | h := SameCharge.keeps (s := s) (u := s.setPending rest) ⟨rfl, a, ha, le_rfl⟩ hs heff.keeps
      · exact h
      · exact absurd hcur h.1

end Sys2Proof.Machine
end

section
/-! Which blocks the events of the clock and the rows leave alone, in the form of Laws/Frames. -/

namespace Sys2Proof.Machine

/-- `measurementWindowEnd` changes no block but `frontEnd`. -/
@[simp] theorem measurementWindowEnd_keeps (grade : Nat) (s : State) :
    (measurementWindowEnd grade s).pending = s.pending ∧ (measurementWindowEnd grade s).wires = s.wires
      ∧ (measurementWindowEnd grade s).straps = s.straps ∧ (measurementWindowEnd grade s).pins = s.pins
      ∧ (measurementWindowEnd grade s).sensors = s.sensors
      ∧ (measurementWindowEnd grade s).readings = s.readings ∧ (measurementWindowEnd grade s).bus = s.bus
      ∧ (measurementWindowEnd grade s).peers = s.peers ∧ (measurementWindowEnd grade s).picture = s.picture
      ∧ (measurementWindowEnd grade s).store = s.store ∧ (measurementWindowEnd grade s).schedule = s.schedule
      ∧ (measurementWindowEnd grade s).climate = s.climate
      ∧ (measurementWindowEnd grade s).attention = s.attention ∧ (measurementWindowEnd grade s).trace = s.trace
      ∧ (measurementWindowEnd grade s).port = s.port ∧ (measurementWindowEnd grade s).freeIndex = s.freeIndex := by
  unfold measurementWindowEnd; split <;> simp

/-- `calibrationSweepComplete` changes no block but `frontEnd`, `readings`, `trace`, `attention`. -/
@[simp] theorem calibrationSweepComplete_keeps (s : State) :
    (calibrationSweepComplete s).pending = s.pending ∧ (calibrationSweepComplete s).wires = s.wires
      ∧ (calibrationSweepComplete s).straps = s.straps ∧ (calibrationSweepComplete s).pins = s.pins
      ∧ (calibrationSweepComplete s).sensors = s.sensors ∧ (calibrationSweepComplete s).bus = s.bus
      ∧ (calibrationSweepComplete s).peers = s.peers ∧ (calibrationSweepComplete s).picture = s.picture
      ∧ (calibrationSweepComplete s).store = s.store ∧ (calibrationSweepComplete s).schedule = s.schedule
      ∧ (calibrationSweepComplete s).climate = s.climate ∧ (calibrationSweepComplete s).port = s.port
      ∧ (calibrationSweepComplete s).freeIndex = s.freeIndex := by
  unfold calibrationSweepComplete; split
  · dsimp only; split <;> simp
  · simp

/-- `probeSweepComplete` changes no block but `frontEnd`, `readings`, `peers`, `picture`, `schedule`, `climate`, `trace`, `attention`. -/
@[simp] theorem probeSweepComplete_keeps (s : State) :
    (probeSweepComplete s).pending = s.pending ∧ (probeSweepComplete s).wires = s.wires
      ∧ (probeSweepComplete s).straps = s.straps ∧ (probeSweepComplete s).pins = s.pins
      ∧ (probeSweepComplete s).sensors = s.sensors ∧ (probeSweepComplete s).bus = s.bus
      ∧ (probeSweepComplete s).store = s.store ∧ (probeSweepComplete s).port = s.port
      ∧ (probeSweepComplete s).freeIndex = s.freeIndex := by
  unfold probeSweepComplete; split <;> simp

/-- `sweepIntervalExpiry` changes no block but `frontEnd`. -/
@[simp] theorem sweepIntervalExpiry_keeps (s : State) :
    (sweepIntervalExpiry s).pending = s.pending ∧ (sweepIntervalExpiry s).wires = s.wires
      ∧ (sweepIntervalExpiry s).straps = s.straps ∧ (sweepIntervalExpiry s).pins = s.pins
      ∧ (sweepIntervalExpiry s).sensors = s.sensors ∧ (sweepIntervalExpiry s).readings = s.readings
      ∧ (sweepIntervalExpiry s).bus = s.bus ∧ (sweepIntervalExpiry s).peers = s.peers
      ∧ (sweepIntervalExpiry s).picture = s.picture ∧ (sweepIntervalExpiry s).store = s.store
      ∧ (sweepIntervalExpiry s).schedule = s.schedule ∧ (sweepIntervalExpiry s).climate = s.climate
      ∧ (sweepIntervalExpiry s).attention = s.attention ∧ (sweepIntervalExpiry s).trace = s.trace
      ∧ (sweepIntervalExpiry s).port = s.port ∧ (sweepIntervalExpiry s).freeIndex = s.freeIndex := by
  unfold sweepIntervalExpiry; split <;> simp

/-- `calibrationTimerExpiry` changes no block but `frontEnd`. -/
@[simp] theorem calibrationTimerExpiry_keeps (s : State) :
    (calibrationTimerExpiry s).pending = s.pending ∧ (calibrationTimerExpiry s).wires = s.wires
      ∧ (calibrationTimerExpiry s).straps = s.straps ∧ (calibrationTimerExpiry s).pins = s.pins
      ∧ (calibrationTimerExpiry s).sensors = s.sensors ∧ (calibrationTimerExpiry s).readings = s.readings
      ∧ (calibrationTimerExpiry s).bus = s.bus ∧ (calibrationTimerExpiry s).peers = s.peers
      ∧ (calibrationTimerExpiry s).picture = s.picture ∧ (calibrationTimerExpiry s).store = s.store
      ∧ (calibrationTimerExpiry s).schedule = s.schedule ∧ (calibrationTimerExpiry s).climate = s.climate
      ∧ (calibrationTimerExpiry s).attention = s.attention ∧ (calibrationTimerExpiry s).trace = s.trace
      ∧ (calibrationTimerExpiry s).port = s.port ∧ (calibrationTimerExpiry s).freeIndex = s.freeIndex := by
  simp [calibrationTimerExpiry]

/-- `controlPeriod` changes no block but `sensors`, `readings`, `climate`, `schedule`, `trace`, `attention`. -/
@[simp] theorem controlPeriod_keeps (d w : Int) (s : State) :
    (controlPeriod d w s).pending = s.pending ∧ (controlPeriod d w s).wires = s.wires
      ∧ (controlPeriod d w s).straps = s.straps ∧ (controlPeriod d w s).pins = s.pins
      ∧ (controlPeriod d w s).frontEnd = s.frontEnd ∧ (controlPeriod d w s).bus = s.bus
      ∧ (controlPeriod d w s).peers = s.peers ∧ (controlPeriod d w s).picture = s.picture
      ∧ (controlPeriod d w s).store = s.store ∧ (controlPeriod d w s).port = s.port
      ∧ (controlPeriod d w s).freeIndex = s.freeIndex := by
  simp [controlPeriod]

/-- `holdTimerExpiry` changes no block but `sensors`, `readings`, `climate`, `trace`, `attention`. -/
@[simp] theorem holdTimerExpiry_keeps (sensor : Sensor) (s : State) :
    (holdTimerExpiry sensor s).pending = s.pending ∧ (holdTimerExpiry sensor s).wires = s.wires
      ∧ (holdTimerExpiry sensor s).straps = s.straps ∧ (holdTimerExpiry sensor s).pins = s.pins
      ∧ (holdTimerExpiry sensor s).frontEnd = s.frontEnd ∧ (holdTimerExpiry sensor s).bus = s.bus
      ∧ (holdTimerExpiry sensor s).peers = s.peers ∧ (holdTimerExpiry sensor s).picture = s.picture
      ∧ (holdTimerExpiry sensor s).store = s.store ∧ (holdTimerExpiry sensor s).schedule = s.schedule
      ∧ (holdTimerExpiry sensor s).port = s.port ∧ (holdTimerExpiry sensor s).freeIndex = s.freeIndex := by
  cases sensor <;> simp only [holdTimerExpiry] <;> split <;> simp

/-- `deviationLimit` changes no block but `climate`, `trace`, `attention`. -/
@[simp] theorem deviationLimit_keeps (s : State) :
    (deviationLimit s).pending = s.pending ∧ (deviationLimit s).wires = s.wires
      ∧ (deviationLimit s).straps = s.straps ∧ (deviationLimit s).pins = s.pins
      ∧ (deviationLimit s).frontEnd = s.frontEnd ∧ (deviationLimit s).sensors = s.sensors
      ∧ (deviationLimit s).readings = s.readings ∧ (deviationLimit s).bus = s.bus
      ∧ (deviationLimit s).peers = s.peers ∧ (deviationLimit s).picture = s.picture
      ∧ (deviationLimit s).store = s.store ∧ (deviationLimit s).schedule = s.schedule
      ∧ (deviationLimit s).port = s.port ∧ (deviationLimit s).freeIndex = s.freeIndex := by
  unfold deviationLimit; split
  · split <;> simp
  · simp

/-- `settleTimerExpiry` changes no block but `climate`. -/
@[simp] theorem settleTimerExpiry_keeps (s : State) :
    (settleTimerExpiry s).pending = s.pending ∧ (settleTimerExpiry s).wires = s.wires
      ∧ (settleTimerExpiry s).straps = s.straps ∧ (settleTimerExpiry s).pins = s.pins
      ∧ (settleTimerExpiry s).frontEnd = s.frontEnd ∧ (settleTimerExpiry s).sensors = s.sensors
      ∧ (settleTimerExpiry s).readings = s.readings ∧ (settleTimerExpiry s).bus = s.bus
      ∧ (settleTimerExpiry s).peers = s.peers ∧ (settleTimerExpiry s).picture = s.picture
      ∧ (settleTimerExpiry s).store = s.store ∧ (settleTimerExpiry s).schedule = s.schedule
      ∧ (settleTimerExpiry s).attention = s.attention ∧ (settleTimerExpiry s).trace = s.trace
      ∧ (settleTimerExpiry s).port = s.port ∧ (settleTimerExpiry s).freeIndex = s.freeIndex := by
  simp [settleTimerExpiry]

/-- `peerEntryStale` changes no block but `peers`, `trace`, `attention`. -/
@[simp] theorem peerEntryStale_keeps (n : Nat) (s : State) :
    (peerEntryStale n s).pending = s.pending ∧ (peerEntryStale n s).wires = s.wires
      ∧ (peerEntryStale n s).straps = s.straps ∧ (peerEntryStale n s).pins = s.pins
      ∧ (peerEntryStale n s).frontEnd = s.frontEnd ∧ (peerEntryStale n s).sensors = s.sensors
      ∧ (peerEntryStale n s).readings = s.readings ∧ (peerEntryStale n s).bus = s.bus
      ∧ (peerEntryStale n s).picture = s.picture ∧ (peerEntryStale n s).store = s.store
      ∧ (peerEntryStale n s).schedule = s.schedule ∧ (peerEntryStale n s).climate = s.climate
      ∧ (peerEntryStale n s).port = s.port ∧ (peerEntryStale n s).freeIndex = s.freeIndex := by
  unfold peerEntryStale; split
  · split
    · dsimp only; split <;> simp
    · simp
  · simp

/-- `peerEntryEmptied` changes no block but `peers`. -/
@[simp] theorem peerEntryEmptied_keeps (n : Nat) (s : State) :
    (peerEntryEmptied n s).pending = s.pending ∧ (peerEntryEmptied n s).wires = s.wires
      ∧ (peerEntryEmptied n s).straps = s.straps ∧ (peerEntryEmptied n s).pins = s.pins
      ∧ (peerEntryEmptied n s).frontEnd = s.frontEnd ∧ (peerEntryEmptied n s).sensors = s.sensors
      ∧ (peerEntryEmptied n s).readings = s.readings ∧ (peerEntryEmptied n s).bus = s.bus
      ∧ (peerEntryEmptied n s).picture = s.picture ∧ (peerEntryEmptied n s).store = s.store
      ∧ (peerEntryEmptied n s).schedule = s.schedule ∧ (peerEntryEmptied n s).climate = s.climate
      ∧ (peerEntryEmptied n s).attention = s.attention ∧ (peerEntryEmptied n s).trace = s.trace
      ∧ (peerEntryEmptied n s).port = s.port ∧ (peerEntryEmptied n s).freeIndex = s.freeIndex := by
  unfold peerEntryEmptied; split
  · split <;> simp
  · simp

/-- `reofferHoldoffExpiry` changes no block but `store`. -/
@[simp] theorem reofferHoldoffExpiry_keeps (s : State) :
    (reofferHoldoffExpiry s).pending = s.pending ∧ (reofferHoldoffExpiry s).wires = s.wires
      ∧ (reofferHoldoffExpiry s).straps = s.straps ∧ (reofferHoldoffExpiry s).pins = s.pins
      ∧ (reofferHoldoffExpiry s).frontEnd = s.frontEnd ∧ (reofferHoldoffExpiry s).sensors = s.sensors
      ∧ (reofferHoldoffExpiry s).readings = s.readings ∧ (reofferHoldoffExpiry s).bus = s.bus
      ∧ (reofferHoldoffExpiry s).peers = s.peers ∧ (reofferHoldoffExpiry s).picture = s.picture
      ∧ (reofferHoldoffExpiry s).schedule = s.schedule ∧ (reofferHoldoffExpiry s).climate = s.climate
      ∧ (reofferHoldoffExpiry s).attention = s.attention ∧ (reofferHoldoffExpiry s).trace = s.trace
      ∧ (reofferHoldoffExpiry s).port = s.port ∧ (reofferHoldoffExpiry s).freeIndex = s.freeIndex := by
  simp [reofferHoldoffExpiry]

/-- `minuteTick` changes no block but `schedule`, `climate`, `trace`, `attention`. -/
@[simp] theorem minuteTick_keeps (s : State) :
    (minuteTick s).pending = s.pending ∧ (minuteTick s).wires = s.wires ∧ (minuteTick s).straps = s.straps
      ∧ (minuteTick s).pins = s.pins ∧ (minuteTick s).frontEnd = s.frontEnd ∧ (minuteTick s).sensors = s.sensors
      ∧ (minuteTick s).readings = s.readings ∧ (minuteTick s).bus = s.bus ∧ (minuteTick s).peers = s.peers
      ∧ (minuteTick s).picture = s.picture ∧ (minuteTick s).store = s.store ∧ (minuteTick s).port = s.port
      ∧ (minuteTick s).freeIndex = s.freeIndex := by
  simp [minuteTick]

/-- `stepTimerExpiry` changes no block but `schedule`. -/
@[simp] theorem stepTimerExpiry_keeps (s : State) :
    (stepTimerExpiry s).pending = s.pending ∧ (stepTimerExpiry s).wires = s.wires
      ∧ (stepTimerExpiry s).straps = s.straps ∧ (stepTimerExpiry s).pins = s.pins
      ∧ (stepTimerExpiry s).frontEnd = s.frontEnd ∧ (stepTimerExpiry s).sensors = s.sensors
      ∧ (stepTimerExpiry s).readings = s.readings ∧ (stepTimerExpiry s).bus = s.bus
      ∧ (stepTimerExpiry s).peers = s.peers ∧ (stepTimerExpiry s).picture = s.picture
      ∧ (stepTimerExpiry s).store = s.store ∧ (stepTimerExpiry s).climate = s.climate
      ∧ (stepTimerExpiry s).attention = s.attention ∧ (stepTimerExpiry s).trace = s.trace
      ∧ (stepTimerExpiry s).port = s.port ∧ (stepTimerExpiry s).freeIndex = s.freeIndex := by
  unfold stepTimerExpiry; split <;> simp

/-- `overtimeLimit` changes no block but `schedule`, `trace`, `attention`. -/
@[simp] theorem overtimeLimit_keeps (s : State) :
    (overtimeLimit s).pending = s.pending ∧ (overtimeLimit s).wires = s.wires
      ∧ (overtimeLimit s).straps = s.straps ∧ (overtimeLimit s).pins = s.pins
      ∧ (overtimeLimit s).frontEnd = s.frontEnd ∧ (overtimeLimit s).sensors = s.sensors
      ∧ (overtimeLimit s).readings = s.readings ∧ (overtimeLimit s).bus = s.bus
      ∧ (overtimeLimit s).peers = s.peers ∧ (overtimeLimit s).picture = s.picture
      ∧ (overtimeLimit s).store = s.store ∧ (overtimeLimit s).climate = s.climate
      ∧ (overtimeLimit s).port = s.port ∧ (overtimeLimit s).freeIndex = s.freeIndex := by
  unfold overtimeLimit; split
  · split <;> simp
  · simp

/-- `conditionTimerExpiry` changes no block but `schedule`, `climate`, `trace`, `attention`. -/
@[simp] theorem conditionTimerExpiry_keeps (s : State) :
    (conditionTimerExpiry s).pending = s.pending ∧ (conditionTimerExpiry s).wires = s.wires
      ∧ (conditionTimerExpiry s).straps = s.straps ∧ (conditionTimerExpiry s).pins = s.pins
      ∧ (conditionTimerExpiry s).frontEnd = s.frontEnd ∧ (conditionTimerExpiry s).sensors = s.sensors
      ∧ (conditionTimerExpiry s).readings = s.readings ∧ (conditionTimerExpiry s).bus = s.bus
      ∧ (conditionTimerExpiry s).peers = s.peers ∧ (conditionTimerExpiry s).picture = s.picture
      ∧ (conditionTimerExpiry s).store = s.store ∧ (conditionTimerExpiry s).port = s.port
      ∧ (conditionTimerExpiry s).freeIndex = s.freeIndex := by
  unfold conditionTimerExpiry; split <;> simp

/-- `gatherTimerExpiry` changes no block but `schedule`, `climate`, `trace`, `attention`. -/
@[simp] theorem gatherTimerExpiry_keeps (s : State) :
    (gatherTimerExpiry s).pending = s.pending ∧ (gatherTimerExpiry s).wires = s.wires
      ∧ (gatherTimerExpiry s).straps = s.straps ∧ (gatherTimerExpiry s).pins = s.pins
      ∧ (gatherTimerExpiry s).frontEnd = s.frontEnd ∧ (gatherTimerExpiry s).sensors = s.sensors
      ∧ (gatherTimerExpiry s).readings = s.readings ∧ (gatherTimerExpiry s).bus = s.bus
      ∧ (gatherTimerExpiry s).peers = s.peers ∧ (gatherTimerExpiry s).picture = s.picture
      ∧ (gatherTimerExpiry s).store = s.store ∧ (gatherTimerExpiry s).port = s.port
      ∧ (gatherTimerExpiry s).freeIndex = s.freeIndex := by
  unfold gatherTimerExpiry; split <;> simp

/-- `snapshotTimerExpiry` changes no block but `trace`, `attention`. -/
@[simp] theorem snapshotTimerExpiry_keeps (s : State) :
    (snapshotTimerExpiry s).pending = s.pending ∧ (snapshotTimerExpiry s).wires = s.wires
      ∧ (snapshotTimerExpiry s).straps = s.straps ∧ (snapshotTimerExpiry s).pins = s.pins
      ∧ (snapshotTimerExpiry s).frontEnd = s.frontEnd ∧ (snapshotTimerExpiry s).sensors = s.sensors
      ∧ (snapshotTimerExpiry s).readings = s.readings ∧ (snapshotTimerExpiry s).bus = s.bus
      ∧ (snapshotTimerExpiry s).peers = s.peers ∧ (snapshotTimerExpiry s).picture = s.picture
      ∧ (snapshotTimerExpiry s).store = s.store ∧ (snapshotTimerExpiry s).schedule = s.schedule
      ∧ (snapshotTimerExpiry s).climate = s.climate ∧ (snapshotTimerExpiry s).port = s.port
      ∧ (snapshotTimerExpiry s).freeIndex = s.freeIndex := by
  unfold snapshotTimerExpiry; split <;> simp

/-- `fanReversal` changes no block but `pins`, `schedule`, `climate`. -/
@[simp] theorem fanReversal_keeps (s : State) :
    (fanReversal s).pending = s.pending ∧ (fanReversal s).wires = s.wires ∧ (fanReversal s).straps = s.straps
      ∧ (fanReversal s).frontEnd = s.frontEnd ∧ (fanReversal s).sensors = s.sensors
      ∧ (fanReversal s).readings = s.readings ∧ (fanReversal s).bus = s.bus ∧ (fanReversal s).peers = s.peers
      ∧ (fanReversal s).picture = s.picture ∧ (fanReversal s).store = s.store
      ∧ (fanReversal s).attention = s.attention ∧ (fanReversal s).trace = s.trace
      ∧ (fanReversal s).port = s.port ∧ (fanReversal s).freeIndex = s.freeIndex := by
  simp [fanReversal]

/-- `emergencyRelease` changes no block but `pins`. -/
@[simp] theorem emergencyRelease_keeps (s : State) :
    (emergencyRelease s).pending = s.pending ∧ (emergencyRelease s).wires = s.wires
      ∧ (emergencyRelease s).straps = s.straps ∧ (emergencyRelease s).frontEnd = s.frontEnd
      ∧ (emergencyRelease s).sensors = s.sensors ∧ (emergencyRelease s).readings = s.readings
      ∧ (emergencyRelease s).bus = s.bus ∧ (emergencyRelease s).peers = s.peers
      ∧ (emergencyRelease s).picture = s.picture ∧ (emergencyRelease s).store = s.store
      ∧ (emergencyRelease s).schedule = s.schedule ∧ (emergencyRelease s).climate = s.climate
      ∧ (emergencyRelease s).attention = s.attention ∧ (emergencyRelease s).trace = s.trace
      ∧ (emergencyRelease s).port = s.port ∧ (emergencyRelease s).freeIndex = s.freeIndex := by
  simp [emergencyRelease]

/-- `attemptBegin` changes no block but `bus`. -/
@[simp] theorem attemptBegin_keeps (s : State) :
    (attemptBegin s).pending = s.pending ∧ (attemptBegin s).wires = s.wires ∧ (attemptBegin s).straps = s.straps
      ∧ (attemptBegin s).pins = s.pins ∧ (attemptBegin s).frontEnd = s.frontEnd
      ∧ (attemptBegin s).sensors = s.sensors ∧ (attemptBegin s).readings = s.readings
      ∧ (attemptBegin s).peers = s.peers ∧ (attemptBegin s).picture = s.picture
      ∧ (attemptBegin s).store = s.store ∧ (attemptBegin s).schedule = s.schedule
      ∧ (attemptBegin s).climate = s.climate ∧ (attemptBegin s).attention = s.attention
      ∧ (attemptBegin s).trace = s.trace ∧ (attemptBegin s).port = s.port
      ∧ (attemptBegin s).freeIndex = s.freeIndex := by
  unfold attemptBegin; split
  · simp
  · split
    · simp
    · split <;> simp

/-- `attemptFail` changes no block but `bus`, `trace`, `attention`. -/
@[simp] theorem attemptFail_keeps (s : State) :
    (attemptFail s).pending = s.pending ∧ (attemptFail s).wires = s.wires ∧ (attemptFail s).straps = s.straps
      ∧ (attemptFail s).pins = s.pins ∧ (attemptFail s).frontEnd = s.frontEnd
      ∧ (attemptFail s).sensors = s.sensors ∧ (attemptFail s).readings = s.readings
      ∧ (attemptFail s).peers = s.peers ∧ (attemptFail s).picture = s.picture ∧ (attemptFail s).store = s.store
      ∧ (attemptFail s).schedule = s.schedule ∧ (attemptFail s).climate = s.climate
      ∧ (attemptFail s).port = s.port ∧ (attemptFail s).freeIndex = s.freeIndex := by
  unfold attemptFail; split
  · simp
  · dsimp only; split
    · simp
    · split <;> simp

/-- `attemptFailTold` changes no block but `bus`, `trace`, `attention`. -/
@[simp] theorem attemptFailTold_keeps (s : State) :
    (attemptFailTold s).pending = s.pending ∧ (attemptFailTold s).wires = s.wires
      ∧ (attemptFailTold s).straps = s.straps ∧ (attemptFailTold s).pins = s.pins
      ∧ (attemptFailTold s).frontEnd = s.frontEnd ∧ (attemptFailTold s).sensors = s.sensors
      ∧ (attemptFailTold s).readings = s.readings ∧ (attemptFailTold s).peers = s.peers
      ∧ (attemptFailTold s).picture = s.picture ∧ (attemptFailTold s).store = s.store
      ∧ (attemptFailTold s).schedule = s.schedule ∧ (attemptFailTold s).climate = s.climate
      ∧ (attemptFailTold s).port = s.port ∧ (attemptFailTold s).freeIndex = s.freeIndex := by
  unfold attemptFailTold; split <;> simp

/-- `attemptComplete` changes no block but `bus`, `store`. -/
@[simp] theorem attemptComplete_keeps (s : State) :
    (attemptComplete s).pending = s.pending ∧ (attemptComplete s).wires = s.wires
      ∧ (attemptComplete s).straps = s.straps ∧ (attemptComplete s).pins = s.pins
      ∧ (attemptComplete s).frontEnd = s.frontEnd ∧ (attemptComplete s).sensors = s.sensors
      ∧ (attemptComplete s).readings = s.readings ∧ (attemptComplete s).peers = s.peers
      ∧ (attemptComplete s).picture = s.picture ∧ (attemptComplete s).schedule = s.schedule
      ∧ (attemptComplete s).climate = s.climate ∧ (attemptComplete s).attention = s.attention
      ∧ (attemptComplete s).trace = s.trace ∧ (attemptComplete s).port = s.port
      ∧ (attemptComplete s).freeIndex = s.freeIndex := by
  unfold attemptComplete; split
  · simp
  · dsimp only; split <;> simp

/-- `spacingTimerExpiry` changes no block but `bus`. -/
@[simp] theorem spacingTimerExpiry_keeps (s : State) :
    (spacingTimerExpiry s).pending = s.pending ∧ (spacingTimerExpiry s).wires = s.wires
      ∧ (spacingTimerExpiry s).straps = s.straps ∧ (spacingTimerExpiry s).pins = s.pins
      ∧ (spacingTimerExpiry s).frontEnd = s.frontEnd ∧ (spacingTimerExpiry s).sensors = s.sensors
      ∧ (spacingTimerExpiry s).readings = s.readings ∧ (spacingTimerExpiry s).peers = s.peers
      ∧ (spacingTimerExpiry s).picture = s.picture ∧ (spacingTimerExpiry s).store = s.store
      ∧ (spacingTimerExpiry s).schedule = s.schedule ∧ (spacingTimerExpiry s).climate = s.climate
      ∧ (spacingTimerExpiry s).attention = s.attention ∧ (spacingTimerExpiry s).trace = s.trace
      ∧ (spacingTimerExpiry s).port = s.port ∧ (spacingTimerExpiry s).freeIndex = s.freeIndex := by
  simp [spacingTimerExpiry]

/-- `quietGap` changes no block but `bus`. -/
@[simp] theorem quietGap_keeps (s : State) :
    (quietGap s).pending = s.pending ∧ (quietGap s).wires = s.wires ∧ (quietGap s).straps = s.straps
      ∧ (quietGap s).pins = s.pins ∧ (quietGap s).frontEnd = s.frontEnd ∧ (quietGap s).sensors = s.sensors
      ∧ (quietGap s).readings = s.readings ∧ (quietGap s).peers = s.peers ∧ (quietGap s).picture = s.picture
      ∧ (quietGap s).store = s.store ∧ (quietGap s).schedule = s.schedule ∧ (quietGap s).climate = s.climate
      ∧ (quietGap s).attention = s.attention ∧ (quietGap s).trace = s.trace ∧ (quietGap s).port = s.port
      ∧ (quietGap s).freeIndex = s.freeIndex := by
  unfold quietGap; split <;> simp

/-- `lineBlockedTimerExpiry` changes no block but `bus`, `trace`, `attention`. -/
@[simp] theorem lineBlockedTimerExpiry_keeps (s : State) :
    (lineBlockedTimerExpiry s).pending = s.pending ∧ (lineBlockedTimerExpiry s).wires = s.wires
      ∧ (lineBlockedTimerExpiry s).straps = s.straps ∧ (lineBlockedTimerExpiry s).pins = s.pins
      ∧ (lineBlockedTimerExpiry s).frontEnd = s.frontEnd ∧ (lineBlockedTimerExpiry s).sensors = s.sensors
      ∧ (lineBlockedTimerExpiry s).readings = s.readings ∧ (lineBlockedTimerExpiry s).peers = s.peers
      ∧ (lineBlockedTimerExpiry s).picture = s.picture ∧ (lineBlockedTimerExpiry s).store = s.store
      ∧ (lineBlockedTimerExpiry s).schedule = s.schedule ∧ (lineBlockedTimerExpiry s).climate = s.climate
      ∧ (lineBlockedTimerExpiry s).port = s.port ∧ (lineBlockedTimerExpiry s).freeIndex = s.freeIndex := by
  unfold lineBlockedTimerExpiry; split <;> simp

/-- `reportTimerExpiry` changes no block but `bus`, `peers`. -/
@[simp] theorem reportTimerExpiry_keeps (s : State) :
    (reportTimerExpiry s).pending = s.pending ∧ (reportTimerExpiry s).wires = s.wires
      ∧ (reportTimerExpiry s).straps = s.straps ∧ (reportTimerExpiry s).pins = s.pins
      ∧ (reportTimerExpiry s).frontEnd = s.frontEnd ∧ (reportTimerExpiry s).sensors = s.sensors
      ∧ (reportTimerExpiry s).readings = s.readings ∧ (reportTimerExpiry s).picture = s.picture
      ∧ (reportTimerExpiry s).store = s.store ∧ (reportTimerExpiry s).schedule = s.schedule
      ∧ (reportTimerExpiry s).climate = s.climate ∧ (reportTimerExpiry s).attention = s.attention
      ∧ (reportTimerExpiry s).trace = s.trace ∧ (reportTimerExpiry s).port = s.port
      ∧ (reportTimerExpiry s).freeIndex = s.freeIndex := by
  simp [reportTimerExpiry]

/-- `startBitSeen` changes no block but `bus`. -/
@[simp] theorem startBitSeen_keeps (s : State) :
    (startBitSeen s).pending = s.pending ∧ (startBitSeen s).wires = s.wires ∧ (startBitSeen s).straps = s.straps
      ∧ (startBitSeen s).pins = s.pins ∧ (startBitSeen s).frontEnd = s.frontEnd
      ∧ (startBitSeen s).sensors = s.sensors ∧ (startBitSeen s).readings = s.readings
      ∧ (startBitSeen s).peers = s.peers ∧ (startBitSeen s).picture = s.picture
      ∧ (startBitSeen s).store = s.store ∧ (startBitSeen s).schedule = s.schedule
      ∧ (startBitSeen s).climate = s.climate ∧ (startBitSeen s).attention = s.attention
      ∧ (startBitSeen s).trace = s.trace ∧ (startBitSeen s).port = s.port
      ∧ (startBitSeen s).freeIndex = s.freeIndex := by
  unfold startBitSeen; split <;> simp

/-- `emergencyAssertion` changes no block but `pins`, `bus`, `schedule`, `climate`, `trace`, `attention`. -/
@[simp] theorem emergencyAssertion_keeps (s : State) :
    (emergencyAssertion s).pending = s.pending ∧ (emergencyAssertion s).wires = s.wires
      ∧ (emergencyAssertion s).straps = s.straps ∧ (emergencyAssertion s).frontEnd = s.frontEnd
      ∧ (emergencyAssertion s).sensors = s.sensors ∧ (emergencyAssertion s).readings = s.readings
      ∧ (emergencyAssertion s).peers = s.peers ∧ (emergencyAssertion s).picture = s.picture
      ∧ (emergencyAssertion s).store = s.store ∧ (emergencyAssertion s).port = s.port
      ∧ (emergencyAssertion s).freeIndex = s.freeIndex := by
  unfold emergencyAssertion; split <;> simp

/-- `responseEnd` changes no block but `port`. -/
@[simp] theorem responseEnd_keeps (s : State) :
    (responseEnd s).pending = s.pending ∧ (responseEnd s).wires = s.wires ∧ (responseEnd s).straps = s.straps
      ∧ (responseEnd s).pins = s.pins ∧ (responseEnd s).frontEnd = s.frontEnd
      ∧ (responseEnd s).sensors = s.sensors ∧ (responseEnd s).readings = s.readings
      ∧ (responseEnd s).bus = s.bus ∧ (responseEnd s).peers = s.peers ∧ (responseEnd s).picture = s.picture
      ∧ (responseEnd s).store = s.store ∧ (responseEnd s).schedule = s.schedule
      ∧ (responseEnd s).climate = s.climate ∧ (responseEnd s).attention = s.attention
      ∧ (responseEnd s).trace = s.trace ∧ (responseEnd s).freeIndex = s.freeIndex := by
  unfold responseEnd; split <;> simp

/-- `gapTimerExpiry` changes no block but `port`. -/
@[simp] theorem gapTimerExpiry_keeps (s : State) :
    (gapTimerExpiry s).pending = s.pending ∧ (gapTimerExpiry s).wires = s.wires
      ∧ (gapTimerExpiry s).straps = s.straps ∧ (gapTimerExpiry s).pins = s.pins
      ∧ (gapTimerExpiry s).frontEnd = s.frontEnd ∧ (gapTimerExpiry s).sensors = s.sensors
      ∧ (gapTimerExpiry s).readings = s.readings ∧ (gapTimerExpiry s).bus = s.bus
      ∧ (gapTimerExpiry s).peers = s.peers ∧ (gapTimerExpiry s).picture = s.picture
      ∧ (gapTimerExpiry s).store = s.store ∧ (gapTimerExpiry s).schedule = s.schedule
      ∧ (gapTimerExpiry s).climate = s.climate ∧ (gapTimerExpiry s).attention = s.attention
      ∧ (gapTimerExpiry s).trace = s.trace ∧ (gapTimerExpiry s).freeIndex = s.freeIndex := by
  unfold gapTimerExpiry; split <;> simp

/-- `nextFree` changes no block but `freeIndex`. -/
@[simp] theorem nextFree_keeps (s : State) :
    (nextFree s).pending = s.pending ∧ (nextFree s).wires = s.wires ∧ (nextFree s).straps = s.straps
      ∧ (nextFree s).pins = s.pins ∧ (nextFree s).frontEnd = s.frontEnd ∧ (nextFree s).sensors = s.sensors
      ∧ (nextFree s).readings = s.readings ∧ (nextFree s).bus = s.bus ∧ (nextFree s).peers = s.peers
      ∧ (nextFree s).picture = s.picture ∧ (nextFree s).store = s.store ∧ (nextFree s).schedule = s.schedule
      ∧ (nextFree s).climate = s.climate ∧ (nextFree s).attention = s.attention ∧ (nextFree s).trace = s.trace
      ∧ (nextFree s).port = s.port := by
  simp [nextFree]

/-- `completeSweep` changes no block but `frontEnd`, `readings`, `peers`, `picture`, `schedule`, `climate`, `trace`, `attention`. -/
@[simp] theorem completeSweep_keeps (s : State) :
    (completeSweep s).pending = s.pending ∧ (completeSweep s).wires = s.wires
      ∧ (completeSweep s).straps = s.straps ∧ (completeSweep s).pins = s.pins
      ∧ (completeSweep s).sensors = s.sensors ∧ (completeSweep s).bus = s.bus
      ∧ (completeSweep s).store = s.store ∧ (completeSweep s).port = s.port
      ∧ (completeSweep s).freeIndex = s.freeIndex := by
  unfold completeSweep; split <;> simp

end Sys2Proof.Machine
end

section
/-! The invariants of the ring, the attention unit, the bus controller's slots and timer, the own readings table and the
service port, over every step (R21, R45, R48, R54, R161 to R163, R167, R174). -/

namespace Sys2Proof.Machine

/-! ## Blocks that an effect leaves alone -/

theorem BlockEffect.frame {s t : State} (h : BlockEffect s t) : t.bus = s.bus ∧ t.port = s.port := by
  cases h <;> simp

theorem BusEffect.frame {s t : State} (h : BusEffect s t) : t.readings = s.readings ∧ t.port = s.port := by
  cases h <;> simp

/-- A received run leaves the own readings and the service port alone. -/
theorem takeRun_frame {k : FrameKind} {owner : Frame → State → State} (h : FrameOwner k owner) (run : List LineByte)
    (s : State) : (takeRun k owner run s).readings = s.readings ∧ (takeRun k owner run s).port = s.port := by
  cases h <;> simp

theorem originate_frame (k : DirectiveKind) (charge code : Word16) (phase step : Byte) (s : State) :
    (originate k charge code phase step s).1.readings = s.readings
      ∧ (originate k charge code phase step s).1.port = s.port := by
  unfold originate applyAtOrigin
  split
  · simp
  · split
    · simp
    · split
      · simp
      · dsimp only; split <;> simp

/-- The request owners leave the own readings and the service port alone. -/
theorem RequestOwner.frame {owner : State → State × Answer} (h : RequestOwner owner) (s : State) :
    (owner s).1.readings = s.readings ∧ (owner s).1.port = s.port := by
  cases h
  case directive k charge code phase step => exact originate_frame _ _ _ _ _ s
  case loadCharge payload =>
    unfold ownerLoadCharge
    split
    · simp
    · simp
    · split
      · simp
      · split <;> simp
  case noDirective payload hnone =>
    unfold ownerDirective
    rw [hnone]
    dsimp only
    split <;> simp
  case calibrate => unfold ownerCalibrate; split <;> simp
  case readPeer => unfold ownerReadPeer; split <;> simp
  case clearConditions => unfold ownerClearConditions; split <;> simp
  case setAttentionMask => unfold ownerSetAttentionMask; split <;> simp
  all_goals exact ⟨rfl, rfl⟩

/-! ## The ring and the attention unit -/

theorem controlPeriod_latches (d w : Int) (s : State) : Latches s (controlPeriod d w s) := by
  have hexits (t : State) : Latches t (periodExits t) := by
    unfold periodExits
    split
    · exact testWarmup_latches t
    · exact testCool_latches t
    · exact Latches.refl t
  refine Latches.trans ?_ (hexits _)
  refine Latches.trans ?_ (judgeDeviation_latches _)
  refine Latches.trans ?_ (climatePeriod_latches _)
  refine Latches.trans ?_ (latchAll_latches _ _)
  exact Latches.of_eq (by simp) (by simp)

theorem takeSnapshot_latches (s : State) : Latches s (takeSnapshot s) :=
  (writeTrace_latches _ s).trans (Latches.of_eq rfl rfl)

theorem minuteTick_latches (s : State) : Latches s (minuteTick s) := by
  have hsnapshot (t : State) : Latches t (tickSnapshot t) := by
    unfold tickSnapshot
    split
    · exact Latches.refl t
    · split
      · exact takeSnapshot_latches t
      · exact Latches.of_eq rfl rfl
  have hovertime (t : State) : Latches t (tickOvertime t) := by
    unfold tickOvertime
    split
    · split
      · dsimp only
        split
        · exact (setSchedule_latches t _).trans (latch_latches _ _)
        · exact setSchedule_latches t _
      · exact Latches.refl t
    · exact Latches.refl t
  have hcondition (t : State) : Latches t (tickCondition t) := by
    unfold tickCondition
    split
    · exact (setSchedule_latches t _).trans (testCondition_latches _)
    · exact Latches.refl t
  have hstep (t : State) : Latches t (tickStep t) := Latches.of_eq (by simp) (by simp)
  have hramp (t : State) : Latches t (setpointRamp t) := Latches.of_eq (by simp) (by simp)
  refine Latches.trans ?_ (hramp _)
  refine Latches.trans ?_ (hcondition _)
  refine Latches.trans ?_ (hovertime _)
  refine Latches.trans ?_ (hstep _)
  refine Latches.trans ?_ (hsnapshot _)
  exact Latches.of_eq (by simp) (by simp)

theorem calibrationSweepComplete_latches (s : State) : Latches s (calibrationSweepComplete s) := by
  unfold calibrationSweepComplete
  split
  · dsimp only
    have hstart (t : State) : Latches t (startProbeSweep t) := Latches.of_eq (by simp) (by simp)
    refine Latches.trans ?_ (hstart _)
    have hwrite (k : TraceKind) (t : State) (h : Latches s t) : Latches s (writeTrace k t) :=
      h.trans (writeTrace_latches k t)
    split
    · exact hwrite _ _ (Latches.of_eq rfl rfl)
    · refine Latches.trans ?_ (latch_latches _ _)
      exact hwrite _ _ (Latches.of_eq rfl rfl)
  · exact Latches.refl s

theorem probeSweepComplete_latches (s : State) : Latches s (probeSweepComplete s) := by
  have hshort (t : State) : Latches t (latchPictureShort t) := by
    unfold latchPictureShort
    split
    · split
      · exact latch_latches _ _
      · exact Latches.refl t
    · exact Latches.refl t
  unfold probeSweepComplete
  split
  · refine Latches.trans ?_ (Latches.of_eq (by simp) (by simp) :
      Latches (judgePicture (latchPictureShort (buildPicture (convertReadings s)))) _)
    refine Latches.trans ?_ (judgePicture_latches _)
    refine Latches.trans ?_ (hshort _)
    exact Latches.of_eq (by simp) (by simp)
  · exact Latches.refl s

/-- The effects at the blocks other than the bus and the port only latch conditions and write records. -/
theorem BlockEffect.latches {s t : State} (h : BlockEffect s t) : Latches s t := by
  cases h
  case calibrationComplete => exact calibrationSweepComplete_latches s
  case probeComplete => exact probeSweepComplete_latches s
  case controlPeriod d w => exact controlPeriod_latches d w s
  case minuteTick => exact minuteTick_latches s
  case holdTimer sensor =>
    cases sensor <;>
    · simp only [Machine.holdTimerExpiry]
      split
      · first
          | exact Latches.trans (Latches.of_eq (by simp) (by simp)) (latchAll_latches _ _)
          | exact Latches.of_eq (by simp) (by simp)
      · exact Latches.refl s
  case deviationLimit =>
    unfold Machine.deviationLimit
    split
    · split
      · exact (setClimate_latches s _).trans (latch_latches _ _)
      · exact Latches.refl s
    · exact Latches.refl s
  case entryStale n =>
    unfold Machine.peerEntryStale
    split
    · split
      · dsimp only
        split
        · refine Latches.trans ?_ (latch_latches _ _)
          exact Latches.of_eq rfl rfl
        · exact Latches.of_eq rfl rfl
      · exact Latches.refl s
    · exact Latches.refl s
  case overtimeLimit =>
    unfold Machine.overtimeLimit
    split
    · split
      · exact (setSchedule_latches s _).trans (latch_latches _ _)
      · exact Latches.refl s
    · exact Latches.refl s
  case conditionTimer =>
    unfold conditionTimerExpiry
    split
    · exact (setSchedule_latches s _).trans (testCondition_latches _)
    · exact Latches.refl s
  case gatherTimer =>
    unfold gatherTimerExpiry
    split
    · exact (enterPosition_latches _ _ _ _).trans (testWarmup_latches _)
    · exact Latches.refl s
  case snapshotTimer =>
    unfold snapshotTimerExpiry
    split
    · exact Latches.refl s
    · exact takeSnapshot_latches s
  all_goals exact Latches.of_eq (by simp) (by simp)

theorem attemptFail_latches (s : State) : Latches s (attemptFail s) := by
  unfold attemptFail
  split
  · exact Latches.refl s
  · dsimp only
    split
    · exact setBus_latches s _
    · split
      · exact setBus_latches s _
      · exact (setBus_latches s _).trans (latch_latches _ _)

theorem BusEffect.latches {s t : State} (h : BusEffect s t) : Latches s t := by
  cases h
  case attemptFail => exact attemptFail_latches s
  case attemptFailTold =>
    unfold Machine.attemptFailTold
    split
    · exact (attemptFail_latches s).trans (setBus_latches _ _)
    · exact Latches.refl s
  case lineBlockedTimer =>
    unfold lineBlockedTimerExpiry
    split
    · exact Latches.refl s
    · exact (setBus_latches s _).trans (latch_latches _ _)
  case emergencyAssertion =>
    unfold Machine.emergencyAssertion
    split
    · exact Latches.refl s
    · refine Latches.trans ?_ (enterSafe_latches _ _ _)
      exact Latches.of_eq rfl rfl
  all_goals exact Latches.of_eq (by simp) (by simp)

theorem FrameOwner.latches {k : FrameKind} {owner : Frame → State → State} (h : FrameOwner k owner) (f : Frame)
    (s : State) : Latches s (owner f s) := by
  cases h
  exacts [ownReport_latches f s, ownOffer_latches f s, ownSafeFrame_latches f s, ownDirective_latches _ f s,
    ownAnyDirective_latches f s]

theorem originate_latches (k : DirectiveKind) (charge code : Word16) (phase step : Byte) (s : State) :
    Latches s (originate k charge code phase step s).1 := by
  unfold originate
  split
  · exact Latches.refl s
  · split
    · exact Latches.refl s
    · split
      · exact latchAll_latches _ _
      · refine Latches.trans ?_ (setBus_latches _ _)
        unfold applyAtOrigin
        split
        · exact storeStart_latches _ _ _
        · exact applyDirective_latches _ _ _

/-- The owners of requests but CLEAR CONDITIONS, SET ATTENTION MASK and READ TRACE only latch conditions and write records. -/
theorem RequestOwner.latches {owner : State → State × Answer} (h : RequestOwner owner)
    (hclear : ∀ b, owner ≠ ownerClearConditions b) (hmask : ∀ b, owner ≠ ownerSetAttentionMask b)
    (htrace : owner ≠ ownerReadTrace) (s : State) : Latches s (owner s).1 := by
  cases h
  case directive k charge code phase step => exact originate_latches _ _ _ _ _ s
  case clearConditions b => exact absurd rfl (hclear b)
  case setAttentionMask b => exact absurd rfl (hmask b)
  case readTrace => exact absurd rfl htrace
  case loadCharge payload =>
    unfold ownerLoadCharge
    repeat' split
    all_goals exact Latches.of_eq rfl rfl
  case noDirective payload hnone =>
    unfold ownerDirective
    rw [hnone]
    dsimp only
    split <;> exact Latches.refl s
  case calibrate =>
    unfold ownerCalibrate
    split <;> exact Latches.of_eq (by simp) (by simp)
  case readPeer =>
    unfold ownerReadPeer
    split <;> exact Latches.refl s
  all_goals exact Latches.of_eq rfl rfl

theorem maskOf_fatal (b : Byte) : (maskOf b).getLsbD 0 = true := by simp [maskOf]

theorem clearedAttention_judged {s : State} (h : s.attention.Judged) (b : Byte) : (clearedAttention s b).Judged := by
  have hmask (cs : List Condition) (a : Attention) : (cs.foldl (fun a c => a.setStamp c none) a).mask = a.mask := by
    induction cs generalizing a with
    | nil => rfl
    | cons c cs ih => rw [List.foldl_cons, ih]; rfl
  unfold clearedAttention
  split
  · exact h
  · exact Attention.judged_judged _ (by rw [hmask]; exact h.1)

theorem masked_judged {a : Attention} (h : a.Judged) (b : Byte) : (a.masked b).Judged :=
  ⟨maskOf_fatal b, rfl, h.2.2⟩

/-- A request's owner keeps the ring bounded and the attention unit judged. -/
theorem RequestOwner.ring_judged {owner : State → State × Answer} (h : RequestOwner owner) (s : State) :
    (s.RingBounded → (owner s).1.RingBounded) ∧ (s.AttentionJudged → (owner s).1.AttentionJudged) := by
  by_cases hclear : ∃ b, owner = ownerClearConditions b
  · obtain ⟨b, rfl⟩ := hclear
    unfold ownerClearConditions
    split
    · exact ⟨id, fun hj => clearedAttention_judged hj b⟩
    · exact ⟨id, id⟩
  by_cases hmask : ∃ b, owner = ownerSetAttentionMask b
  · obtain ⟨b, rfl⟩ := hmask
    unfold ownerSetAttentionMask
    split
    · exact ⟨id, fun hj => masked_judged hj b⟩
    · exact ⟨id, id⟩
  by_cases htrace : owner = ownerReadTrace
  · subst htrace
    refine ⟨fun hr => ?_, id⟩
    have : s.trace.records.length ≤ ringSize := hr
    simp only [State.RingBounded, ownerReadTrace, State.setTrace_trace, List.length_drop]
    omega
  have hl := h.latches (fun b hb => hclear ⟨b, hb⟩) (fun b hb => hmask ⟨b, hb⟩) htrace s
  exact ⟨hl.ring, hl.judged⟩

theorem request_ring_judged {owner : State → State × Answer} (h : RequestOwner owner) (kind : Byte) (s : State) :
    (s.RingBounded → (request kind owner s).RingBounded)
      ∧ (s.AttentionJudged → (request kind owner s).AttentionJudged) := by
  unfold request
  split
  · exact h.ring_judged s
  · split <;> exact ⟨id, id⟩

theorem Effect.ring_judged {s t : State} (h : Effect s t) :
    (s.RingBounded → t.RingBounded) ∧ (s.AttentionJudged → t.AttentionJudged) := by
  cases h
  case block h => exact ⟨h.latches.ring, h.latches.judged⟩
  case bus h => exact ⟨h.latches.ring, h.latches.judged⟩
  case run k owner h run =>
    have hl := takeRun_latches k owner run s fun f u => h.latches f u
    exact ⟨hl.ring, hl.judged⟩
  case receiver => exact ⟨id, id⟩
  case responseEnd =>
    have hl : Latches s (Machine.responseEnd s) := Latches.of_eq (by simp) (by simp)
    exact ⟨hl.ring, hl.judged⟩
  case request h kind => exact request_ring_judged h kind s
  case requestByte h kind => exact request_ring_judged h kind (s.setPort s.port.toHunt)

theorem atPowerOn_judged : Attention.atPowerOn.Judged := by
  unfold Attention.Judged
  decide

theorem powerOn_ring_judged (straps : Straps) (e f : Bool) (s : State) :
    (powerOn straps e f s).RingBounded ∧ (powerOn straps e f s).AttentionJudged := by
  have hring : (startCalSweep (powerOnValues straps f s)).RingBounded := by
    simp [State.RingBounded, powerOnValues]
  have hjudged : (startCalSweep (powerOnValues straps f s)).AttentionJudged := atPowerOn_judged
  unfold powerOn
  dsimp only
  split
  · have hl := (BusEffect.emergencyAssertion (startCalSweep (powerOnValues straps f s))).latches
    exact ⟨hl.ring hring, hl.judged hjudged⟩
  · exact ⟨hring, hjudged⟩

theorem ringBounded_kept : Kept State.RingBounded where
  powerOn straps e f s := (powerOn_ring_judged straps e f s).1
  pending _ _ h := h
  count _ h := h
  nextFree _ h := h
  effect _ _ he := he.ring_judged.1

theorem attentionJudged_kept : Kept State.AttentionJudged where
  powerOn straps e f s := (powerOn_ring_judged straps e f s).2
  pending _ _ h := h
  count _ h := h
  nextFree _ h := h
  effect _ _ he := he.ring_judged.2

end Sys2Proof.Machine
end

section
/-! The bus controller's slots and line-blocked timer, the own readings table and the service port, over every step (R21, R45,
R48, R54, R174). -/

namespace Sys2Proof.Machine

/-! ## The slots, the latch and the line-blocked timer -/

/-- What a step keeps of the bus controller: silent under the address-clash latch, the timer with an eligible slot, and a set
OFFER slot naming a record. -/
structure BusKeeps (s t : State) : Prop where
  silent : s.ClashSilent → t.ClashSilent
  timed : s.BlockedTimed → t.BlockedTimed
  named : s.OfferNamed → t.OfferNamed

theorem BusKeeps.refl (s : State) : BusKeeps s s := ⟨id, id, id⟩

theorem BusKeeps.trans {s t u : State} (h : BusKeeps s t) (k : BusKeeps t u) : BusKeeps s u :=
  ⟨k.silent ∘ h.silent, k.timed ∘ h.timed, k.named ∘ h.named⟩

/-- A step that leaves the slots, the latch, the attempt, the timer and the ranks alone. -/
theorem BusKeeps.of_slots {s t : State} (hslots : t.bus.slots = s.bus.slots) (hclash : t.bus.clash = s.bus.clash)
    (hattempt : t.bus.attempt.isSome = s.bus.attempt.isSome) (htimer : t.bus.blockedTimer = s.bus.blockedTimer)
    (hstaged : t.store.staged = s.store.staged) (hcurrent : t.store.current = s.store.current) : BusKeeps s t := by
  refine ⟨?_, ?_, ?_⟩
  · unfold State.ClashSilent
    rw [hslots, hclash, htimer, ← Option.not_isSome_iff_eq_none, ← Option.not_isSome_iff_eq_none, hattempt]; exact id
  · unfold State.BlockedTimed; rw [hslots, htimer]; exact id
  · unfold State.OfferNamed; rw [hslots, hstaged, hcurrent]; exact id

theorem BusKeeps.of_same {s t : State} (hbus : t.bus = s.bus) (hstaged : t.store.staged = s.store.staged)
    (hcurrent : t.store.current = s.store.current) : BusKeeps s t :=
  .of_slots (by rw [hbus]) (by rw [hbus]) (by rw [hbus]) (by rw [hbus]) hstaged hcurrent

/-- The record that an OFFER slot names is there. -/
def Store.holds (st : Store) (o : Option OfferSlot) : Prop :=
  ∀ x, o = some x → st.inRank x.rank ≠ none

theorem offerNamed_iff (s : State) : s.OfferNamed ↔ s.store.holds s.bus.slots.offer := by
  unfold State.OfferNamed Store.holds
  refine forall_congr' fun o => imp_congr_right fun _ => ?_
  cases o.rank <;> exact Iff.rfl

/-- With all slots empty none is eligible. -/
theorem anyEligible_empty : Slots.empty.anyEligible = false := rfl

/-- A bus controller under its latch (R45). -/
def Bus.Silent (b : Bus) : Prop := b.clash = true → b.slots = Slots.empty ∧ b.attempt = none ∧ b.blockedTimer = 0

theorem withSlots_silent {b : Bus} (h : b.Silent) {sl : Slots} (hsl : b.slots = Slots.empty → sl = Slots.empty) :
    (b.withSlots sl).Silent := by
  intro hc
  obtain ⟨hslots, hattempt, -⟩ := h hc
  have he := hsl hslots
  exact ⟨he, hattempt, by simp [Bus.withSlots, he, anyEligible_empty]⟩

/-- A change of the slots, by its part of each invariant. -/
theorem setBus_busKeeps {s : State} {b : Bus} (hsilent : s.bus.Silent → b.Silent) (htimed : s.bus.Timed → b.Timed)
    (hnamed : s.store.holds s.bus.slots.offer → s.store.holds b.slots.offer) : BusKeeps s (s.setBus b) :=
  ⟨hsilent, fun h => (timed_iff _).2 (htimed ((timed_iff s).1 h)),
    fun h => (offerNamed_iff _).2 (hnamed ((offerNamed_iff s).1 h))⟩

theorem setSafeSlot_silent {b : Bus} (h : b.Silent) : b.setSafeSlot.Silent := by
  unfold Bus.setSafeSlot
  split
  · exact h
  next hc => exact fun hclash => absurd hclash (by simp_all)

theorem setReportSlot_silent {b : Bus} (h : b.Silent) : b.setReportSlot.Silent := by
  unfold Bus.setReportSlot
  split
  · exact h
  next hc => exact fun hclash => absurd hclash (by simp_all)

theorem setOfferSlot_silent {b : Bus} (h : b.Silent) (r : Rank) : (b.setOfferSlot r).Silent := by
  unfold Bus.setOfferSlot
  split
  · exact h
  next hc => exact fun hclash => absurd hclash hc

theorem setDirectiveSlot_silent {b : Bus} (h : b.Silent) (d : DirectiveSlot) : (b.setDirectiveSlot d).Silent := by
  unfold Bus.setDirectiveSlot
  split
  · exact h
  next hc => exact fun hclash => absurd hclash (by simp_all)

theorem emptyOffer_silent {b : Bus} (h : b.Silent) (r : Rank) : (b.emptyOffer r).Silent := by
  unfold Bus.emptyOffer
  split
  · split
    · exact withSlots_silent h fun he => by rw [he]; rfl
    · exact h
  · exact h

theorem turnOffer_silent {b : Bus} (h : b.Silent) : b.turnOffer.Silent := by
  intro hc
  obtain ⟨hslots, hattempt, htimer⟩ := h hc
  exact ⟨by rw [Bus.turnOffer, hslots]; rfl, hattempt, htimer⟩

@[simp] theorem setSafeSlot_offer (b : Bus) : b.setSafeSlot.slots.offer = b.slots.offer := by
  unfold Bus.setSafeSlot; split <;> rfl

@[simp] theorem setReportSlot_offer (b : Bus) : b.setReportSlot.slots.offer = b.slots.offer := by
  unfold Bus.setReportSlot; split <;> rfl

@[simp] theorem setDirectiveSlot_offer (b : Bus) (d : DirectiveSlot) :
    (b.setDirectiveSlot d).slots.offer = b.slots.offer := by
  unfold Bus.setDirectiveSlot; split <;> rfl

/-- The OFFER slot after a setting holds what it held, or the rank given. -/
theorem setOfferSlot_offer (b : Bus) (r : Rank) {o : OfferSlot} (h : (b.setOfferSlot r).slots.offer = some o) :
    b.slots.offer = some o ∨ o.rank = r := by
  unfold Bus.setOfferSlot at h
  split at h
  · exact .inl h
  · simp only [withSlots_slots, offerSetting] at h
    split at h
    · cases h; exact .inr rfl
    next heq _ => rw [← h]; exact .inl heq
    · cases h; exact .inr rfl

/-- Emptying the OFFER slot of a rank leaves it only where it names the other one. -/
theorem emptyOffer_offer (b : Bus) (r : Rank) {o : OfferSlot} (h : (b.emptyOffer r).slots.offer = some o) :
    b.slots.offer = some o ∧ o.rank ≠ r := by
  unfold Bus.emptyOffer at h
  split at h
  next o' ho' =>
    split at h
    · cases h
    next hne => rw [ho'] at h; cases h; exact ⟨ho', hne⟩
  next hnone => rw [hnone] at h; cases h

theorem setBus_offer_same {s : State} {b : Bus} (h : b.slots.offer = s.bus.slots.offer) :
    s.store.holds s.bus.slots.offer → s.store.holds b.slots.offer := by rw [h]; exact id

/-! ## Charges -/

theorem Store.inRank_staged (st : Store) : st.inRank .staged = st.staged := rfl
theorem Store.inRank_current (st : Store) : st.inRank .current = st.current := rfl

theorem promoteStore_busKeeps {s : State} (h : s.store.staged ≠ none) : BusKeeps s (promoteStore s) where
  silent := turnOffer_silent
  timed h := (timed_iff _).2 (turnOffer_timed ((timed_iff s).1 h))
  named _ := by
    rw [offerNamed_iff]
    intro o ho
    obtain ⟨o', -, rfl⟩ := Option.map_eq_some_iff.1 ho
    exact h

theorem promote_busKeeps (k : Cause) {s : State} (h : s.store.staged ≠ none) : BusKeeps s (promote k s) :=
  (promoteStore_busKeeps h).trans (.of_same (by simp [promote]) (by simp [promote]) (by simp [promote]))

theorem abortCharge_busKeeps (s : State) : BusKeeps s (abortCharge s) := by
  have hbus : (abortCharge s).bus = s.bus.emptyOffer .current := by simp [abortCharge]
  refine ⟨?_, ?_, ?_⟩
  · unfold State.ClashSilent; rw [hbus]; exact fun h => emptyOffer_silent h _
  · rw [timed_iff, timed_iff, hbus]; exact fun h => emptyOffer_timed h _
  · rw [offerNamed_iff, offerNamed_iff, hbus, abortCharge_eq]
    intro h o ho
    obtain ⟨ho', hne⟩ := emptyOffer_offer _ _ ho
    have := h o ho'
    cases hr : o.rank with
    | current => exact absurd hr hne
    | staged => rw [hr] at this; simpa [Store.inRank] using this

/-! ## The frames' owners -/

theorem endRun_busKeeps (s : State) : BusKeeps s (endRun s) := .of_slots rfl rfl rfl rfl rfl rfl

theorem setClash_busKeeps (s : State) : BusKeeps s (setClash s) := by
  refine BusKeeps.trans (t := s.setBus s.bus.clashed) ?_ (.of_same (by simp [setClash]) (by simp [setClash]) (by simp [setClash]))
  exact setBus_busKeeps (fun _ _ => ⟨rfl, rfl, rfl⟩) (fun _ h => absurd rfl h) fun _ _ h => by cases h

theorem takeRun_busKeeps {owner : Frame → State → State} (h : ∀ f s, BusKeeps s (owner f s)) (k : FrameKind)
    (run : List LineByte) (s : State) : BusKeeps s (takeRun k owner run s) := by
  unfold takeRun takeMeanwhile
  split
  · split
    · exact endRun_busKeeps s
    · split
      · exact ((endRun_busKeeps s).trans (setClash_busKeeps _)).trans (h _ _)
      · exact (endRun_busKeeps s).trans (h _ _)
  · split
    · split
      · exact .refl s
      · split
        · exact .refl s
        · exact h _ s
    · exact .refl s

theorem reoffer_busKeeps (n : Nat) (d : ReportData) (s : State) : BusKeeps s (reoffer n d s) := by
  unfold reoffer
  split
  next h =>
    refine setBus_busKeeps (fun h => setOfferSlot_silent h _) (fun h => setOfferSlot_timed h _) fun hn o ho => ?_
    obtain ho | hr := setOfferSlot_offer _ _ ho
    · exact hn o ho
    · rw [hr, Store.inRank_current]
      intro hnone
      simp [State.drawsOffer, State.currentRecord, hnone] at h
  next => exact .refl s

theorem lateJoin_busKeeps (n : Nat) (d : ReportData) (s : State) : BusKeeps s (lateJoin n d s) := by
  unfold lateJoin
  split
  next h =>
    refine promote_busKeeps _ fun hnone => ?_
    simp [State.joinsLate, hnone] at h
  next => exact .refl s

theorem acceptReport_busKeeps (n : Nat) (d : ReportData) (s : State) : BusKeeps s (acceptReport n d s) := by
  have hshow (t : State) : BusKeeps t (showSchedule n d t) := .of_same (by simp) (by simp) (by simp)
  have hlatch (cs : List Condition) (t : State) : BusKeeps t (latchAll cs t) := .of_same (by simp) (by simp) (by simp)
  unfold acceptReport
  refine BusKeeps.trans ?_ (hshow _)
  refine BusKeeps.trans ?_ (lateJoin_busKeeps n d _)
  refine BusKeeps.trans ?_ (reoffer_busKeeps n d _)
  refine BusKeeps.trans ?_ (hlatch _ _)
  exact .of_same rfl rfl rfl

theorem cancelOnHearing_busKeeps (f : Frame) (s : State) : BusKeeps s (cancelOnHearing f s) := by
  unfold cancelOnHearing
  split
  · exact setBus_busKeeps (fun h => withSlots_silent h fun he => by rw [he]; rfl) (fun _ => withSlots_timed _ _)
      fun _ _ h => by cases h
  · exact .refl s

/-- Staging a record leaves every rank that holds one holding one. -/
theorem setStaged_busKeeps (s : State) (r : RankedRecord) :
    BusKeeps s (s.setStore { s.store with staged := some r }) := by
  refine ⟨id, id, ?_⟩
  rw [offerNamed_iff, offerNamed_iff]
  intro h o ho
  have := h o ho
  cases hr : o.rank with
  | staged => exact Option.some_ne_none r
  | current => rw [hr] at this; exact this

theorem latch_busKeeps (c : Condition) (s : State) : BusKeeps s (latch c s) := .of_same (by simp) (by simp) (by simp)

theorem ownOffer_busKeeps (f : Frame) (s : State) : BusKeeps s (ownOffer f s) := by
  have hstage (r : ChargeRecord) (t : State) : BusKeeps t (stageOffer r t) := by
    unfold stageOffer
    split
    · exact .refl t
    · split
      · exact setStaged_busKeeps t _
      · split
        · exact .refl t
        · exact latch_busKeeps _ t
  unfold ownOffer
  dsimp only
  refine (cancelOnHearing_busKeeps f s).trans ?_
  split
  · split
    · exact hstage _ _
    · exact latch_busKeeps _ _
  all_goals exact latch_busKeeps _ _

theorem storeStart_busKeeps (charge code : Nat) (s : State) : BusKeeps s (storeStart charge code s) := by
  unfold storeStart
  split
  · exact .refl s
  · split
    next r hr =>
      split
      · split
        · exact promote_busKeeps _ (by simp [hr])
        · exact latch_busKeeps _ s
      · exact latch_busKeeps _ s
    next => exact latch_busKeeps _ s

theorem applyDirective_busKeeps (k : DirectiveKind) (p : Option Position) (s : State) :
    BusKeeps s (applyDirective k p s) := by
  cases k
  case start => exact .refl s
  case abort => exact abortCharge_busKeeps s
  all_goals exact .of_same (by simp [applyDirective]) (by simp [applyDirective]) (by simp [applyDirective])

theorem judgeDirective_busKeeps (k : DirectiveKind) (charge code : Nat) (p : Option Position) (s : State) :
    BusKeeps s (judgeDirective k charge code p s) := by
  unfold judgeDirective
  split
  · split
    · exact storeStart_busKeeps _ _ s
    · exact .refl s
  · split
    · split
      · exact applyDirective_busKeeps k p s
      · exact .refl s
    · split
      · split
        · split
          · exact applyDirective_busKeeps k p s
          · exact latch_busKeeps _ s
        · exact .refl s
      · exact .refl s

theorem ownDirective_busKeeps (k : DirectiveKind) (f : Frame) (s : State) : BusKeeps s (ownDirective k f s) := by
  unfold ownDirective
  split
  · exact judgeDirective_busKeeps _ _ _ _ s
  · exact .refl s

theorem FrameOwner.busKeeps {k : FrameKind} {owner : Frame → State → State} (h : FrameOwner k owner) (f : Frame)
    (s : State) : BusKeeps s (owner f s) := by
  cases h
  case report =>
    unfold ownReport
    split
    · exact .refl s
    · split
      · exact acceptReport_busKeeps _ _ s
      · exact .refl s
  case offer => exact ownOffer_busKeeps f s
  case safe => exact .of_same (by simp) (by simp) (by simp)
  case directive k => exact ownDirective_busKeeps k f s
  case anyDirective =>
    unfold ownAnyDirective
    split
    · exact ownDirective_busKeeps _ f s
    · exact .refl s

/-! ## The requests' owners -/

theorem setDirectiveSlot_busKeeps (s : State) (d : DirectiveSlot) : BusKeeps s (s.setBus (s.bus.setDirectiveSlot d)) :=
  setBus_busKeeps (fun h => setDirectiveSlot_silent h d) (fun h => setDirectiveSlot_timed h d)
    (setBus_offer_same (setDirectiveSlot_offer _ _))

theorem originate_busKeeps (k : DirectiveKind) (charge code : Word16) (phase step : Byte) (s : State) :
    BusKeeps s (originate k charge code phase step s).1 := by
  unfold originate
  split
  · exact .refl s
  · split
    · exact .refl s
    · split
      · exact .of_same (by simp) (by simp) (by simp)
      · refine BusKeeps.trans ?_ (setDirectiveSlot_busKeeps _ _)
        unfold applyAtOrigin
        split
        · exact storeStart_busKeeps _ _ s
        · exact applyDirective_busKeeps _ _ s

theorem stageAndOffer_busKeeps (s : State) (r : RankedRecord) :
    BusKeeps s ((s.setStore { s.store with staged := some r }).setBus (s.bus.setOfferSlot .staged)) := by
  refine (setStaged_busKeeps s r).trans (setBus_busKeeps (fun h => setOfferSlot_silent h _)
    (fun h => setOfferSlot_timed h _) fun hn o ho => ?_)
  obtain ho | hr := setOfferSlot_offer _ _ ho
  · exact hn o ho
  · rw [hr]; exact Option.some_ne_none r

theorem ownerClearStaged_busKeeps (s : State) : BusKeeps s (ownerClearStaged s).1 := by
  refine ⟨fun h => emptyOffer_silent h _, ?_, ?_⟩
  · rw [timed_iff, timed_iff]; exact fun h => emptyOffer_timed h _
  · rw [offerNamed_iff, offerNamed_iff]
    intro h o ho
    obtain ⟨ho', hne⟩ := emptyOffer_offer _ _ ho
    have := h o ho'
    cases hr : o.rank with
    | staged => exact absurd hr hne
    | current => rw [hr] at this; exact this

theorem RequestOwner.busKeeps {owner : State → State × Answer} (h : RequestOwner owner) (s : State) :
    BusKeeps s (owner s).1 := by
  cases h
  case directive k charge code phase step => exact originate_busKeeps _ _ _ _ _ s
  case clearStaged => exact ownerClearStaged_busKeeps s
  case loadCharge payload =>
    unfold ownerLoadCharge
    split
    · exact .refl s
    · exact .refl s
    · split
      · exact .refl s
      · split
        · exact .refl s
        · exact stageAndOffer_busKeeps s _
  case noDirective payload hnone =>
    unfold ownerDirective
    rw [hnone]
    dsimp only
    split <;> exact .refl s
  case calibrate =>
    unfold ownerCalibrate
    split <;> exact .of_same (by simp) (by simp) (by simp)
  case readPeer => unfold ownerReadPeer; split <;> exact .refl s
  case clearConditions => unfold ownerClearConditions; split <;> exact .of_same rfl rfl rfl
  case setAttentionMask => unfold ownerSetAttentionMask; split <;> exact .of_same rfl rfl rfl
  all_goals exact .of_same rfl rfl rfl

theorem setPort_busKeeps (s : State) (p : Port) : BusKeeps s (s.setPort p) := .of_same rfl rfl rfl

theorem request_busKeeps {owner : State → State × Answer} (h : RequestOwner owner) (kind : Byte) (s : State) :
    BusKeeps s (request kind owner s) := by
  unfold request
  split
  · exact (h.busKeeps s).trans (setPort_busKeeps _ _)
  · split
    · exact setPort_busKeeps s _
    · exact .refl s

/-! ## The bus controller's own events -/

theorem Slots.finished_empty (k : FrameKind) : Slots.empty.finished k = Slots.empty := by cases k <;> rfl

theorem Slots.setFailed_empty (n : Nat) (k : FrameKind) : Slots.empty.setFailed n k = Slots.empty := by cases k <;> rfl

/-- An OFFER slot that stands after a frame is done with, or a count is set, named its rank before. -/
theorem Slots.finished_offer (sl : Slots) (k : FrameKind) {o : OfferSlot} (h : (sl.finished k).offer = some o) :
    sl.offer = some o := by
  cases k
  case offer => cases h
  case directive =>
    simp only [Slots.finished, afterTransmission] at h
    split at h
    · exact h
    · split at h <;> exact h
  all_goals exact h

theorem Slots.setFailed_offer (sl : Slots) (n : Nat) (k : FrameKind) {o : OfferSlot}
    (h : (sl.setFailed n k).offer = some o) : ∃ o', sl.offer = some o' ∧ o'.rank = o.rank := by
  cases k
  case offer =>
    obtain ⟨o', ho', rfl⟩ := Option.map_eq_some_iff.1 h
    exact ⟨o', ho', rfl⟩
  all_goals exact ⟨o, h, rfl⟩

/-- With an attempt running the latch is clear (R45), so that the slots may change. -/
theorem withSlots_of_attempt {b c : Bus} (hb : b.attempt.isSome = true) (hc : c.clash = b.clash) (sl : Slots) :
    b.Silent → (c.withSlots sl).Silent := by
  intro h hclash
  have := (h (hc ▸ hclash)).2.1
  simp [this] at hb

theorem attemptFail_busKeeps (s : State) : BusKeeps s (attemptFail s) := by
  unfold attemptFail
  split
  · exact .refl s
  next a ha =>
    have hsome : s.bus.attempt.isSome = true := by simp [ha]
    dsimp only
    split
    · refine setBus_busKeeps (fun h hclash => ?_) id id
      have := (h hclash).2.1
      simp [this] at ha
    · split
      · refine setBus_busKeeps (withSlots_of_attempt (c := s.bus.lineReleased) hsome rfl _) (fun _ => withSlots_timed _ _) fun hn o ho => ?_
        obtain ⟨o', ho', hr⟩ := Slots.setFailed_offer _ _ _ ho
        rw [← hr]; exact hn o' ho'
      · refine BusKeeps.trans ?_ (latch_busKeeps _ _)
        exact setBus_busKeeps (withSlots_of_attempt (c := s.bus.lineReleased) hsome rfl _) (fun _ => withSlots_timed _ _) fun hn o ho =>
          hn o (Slots.finished_offer _ _ ho)

theorem attemptComplete_busKeeps (s : State) : BusKeeps s (attemptComplete s) := by
  unfold attemptComplete
  split
  · exact .refl s
  next a ha =>
    have hslots : BusKeeps s (s.setBus
        ({ s.bus.lineReleased with ownSent := some a.bytes }.withSlots (s.bus.slots.finished a.kind))) :=
      setBus_busKeeps (withSlots_of_attempt (b := s.bus) (c := { s.bus.lineReleased with ownSent := some a.bytes })
        (by rw [ha]; rfl) rfl _) (fun _ => withSlots_timed _ _) fun hn o ho =>
        hn o (Slots.finished_offer _ _ ho)
    dsimp only
    split
    · exact hslots.trans (.of_same rfl rfl rfl)
    · exact hslots

theorem attemptBegin_busKeeps (s : State) : BusKeeps s (attemptBegin s) := by
  unfold attemptBegin
  split
  · exact .refl s
  next hclear =>
    split
    · exact .refl s
    · split
      · exact .refl s
      · exact setBus_busKeeps (fun _ hclash => absurd hclash (by simp_all)) id id

theorem quietGap_busKeeps (s : State) : BusKeeps s (quietGap s) := by
  unfold quietGap
  split
  · exact .refl s
  · refine setBus_busKeeps (fun h hclash => ?_) (fun _ => ?_) id
    · obtain ⟨hslots, hattempt, -⟩ := h hclash
      exact ⟨hslots, hattempt, by simp [Bus.gap, Bus.runOver, hslots, anyEligible_empty]⟩
    · intro hne
      by_contra hnone
      exact hne (if_neg hnone)

theorem lineBlockedTimerExpiry_busKeeps (s : State) : BusKeeps s (lineBlockedTimerExpiry s) := by
  unfold lineBlockedTimerExpiry
  split
  · exact .refl s
  · refine BusKeeps.trans ?_ (latch_busKeeps _ _)
    exact setBus_busKeeps (fun h hclash => ⟨(h hclash).1, (h hclash).2.1, rfl⟩) (fun _ h => absurd rfl h) id

theorem startBitSeen_busKeeps (s : State) : BusKeeps s (startBitSeen s) := by
  unfold startBitSeen
  split <;> exact .of_slots rfl rfl rfl rfl rfl rfl

theorem emergencyAssertion_busKeeps (s : State) : BusKeeps s (emergencyAssertion s) := by
  unfold emergencyAssertion
  split
  · exact .refl s
  · have hpins : BusKeeps s (s.setPins { s.pins with emergency := true }) := .of_same rfl rfl rfl
    have hset := hpins.trans (setBus_busKeeps (b := s.bus.setSafeSlot) setSafeSlot_silent setSafeSlot_timed
      (setBus_offer_same (setSafeSlot_offer _)))
    exact hset.trans (.of_same (by simp) (by simp) (by simp))

theorem BusEffect.busKeeps {s t : State} (h : BusEffect s t) : BusKeeps s t := by
  cases h
  case discardRun =>
    unfold Machine.discardRun
    split
    · exact endRun_busKeeps s
    · exact .refl s
  case attemptBegin => exact attemptBegin_busKeeps s
  case attemptFail => exact attemptFail_busKeeps s
  case attemptFailTold =>
    unfold Machine.attemptFailTold
    split
    · exact (attemptFail_busKeeps s).trans (.of_slots rfl rfl rfl rfl rfl rfl)
    · exact .refl s
  case attemptComplete => exact attemptComplete_busKeeps s
  case spacingTimer =>
    exact setBus_busKeeps (fun h => withSlots_silent h fun he => by rw [he]; rfl) (fun _ => withSlots_timed _ _) id
  case quietGap => exact quietGap_busKeeps s
  case lineBlockedTimer => exact lineBlockedTimerExpiry_busKeeps s
  case reportTimer =>
    have hpeers : BusKeeps s (s.setPeers { s.peers with reportTimer := reportTime }) := .of_same rfl rfl rfl
    exact hpeers.trans (setBus_busKeeps (b := s.bus.setReportSlot) setReportSlot_silent setReportSlot_timed
      (setBus_offer_same (setReportSlot_offer _)))
  case startBit => exact startBitSeen_busKeeps s
  case emergencyAssertion => exact emergencyAssertion_busKeeps s

theorem Effect.busKeeps {s t : State} (h : Effect s t) : BusKeeps s t := by
  cases h
  case block h => exact .of_same h.frame.1 h.onward.staged h.onward.current
  case bus h => exact h.busKeeps
  case run h run => exact takeRun_busKeeps (fun f u => h.busKeeps f u) _ run s
  case receiver p _ => exact setPort_busKeeps s p
  case responseEnd => exact .of_same (by simp) (by simp) (by simp)
  case request h kind => exact request_busKeeps h kind s
  case requestByte h kind => exact (setPort_busKeeps s _).trans (request_busKeeps h kind _)

/-! ## The clock's counting -/

theorem countDown_eq_zero {n : Nat} : countDown n = 0 ↔ n = 0 := by
  unfold countDown; split <;> omega

/-- Counting the spacing timer down changes no slot's eligibility: its expiry does. -/
theorem anyEligible_spacing (sl : Slots) : { sl with spacing := countDown sl.spacing }.anyEligible = sl.anyEligible := by
  have hbeq : (countDown sl.spacing == 0) = (sl.spacing == 0) := by
    rw [Bool.eq_iff_iff, beq_iff_eq, beq_iff_eq, countDown_eq_zero]
  simp [Slots.anyEligible, FrameKind.all, Slots.eligible, Slots.failedOf, hbeq]

theorem countAll_bus (s : State) :
    (countAll s).bus =
      { s.bus.lineTick (s.wires.kiln.headD .recessive) with
        slots := { s.bus.slots with spacing := countDown s.bus.slots.spacing }
        blockedTimer := countDown s.bus.blockedTimer } := by
  simp [countAll, Bus.tick]

theorem countAll_busKeeps (s : State) : BusKeeps s (countAll s) := by
  refine ⟨fun h hclash => ?_, ?_, ?_⟩
  · rw [countAll_bus] at hclash ⊢
    obtain ⟨hslots, hattempt, htimer⟩ := h (by simpa using hclash)
    refine ⟨by simp only [hslots]; rfl, ?_, by simp only [htimer]; rfl⟩
    have hsome := Bus.lineTick_attempt_isSome s.bus (s.wires.kiln.headD .recessive)
    rw [hattempt, Option.isSome_none] at hsome
    exact Option.not_isSome_iff_eq_none.1 (by rw [hsome]; exact Bool.false_ne_true)
  · rw [timed_iff, timed_iff, countAll_bus]
    intro h hne
    rw [anyEligible_spacing]
    exact h fun h0 => hne (countDown_eq_zero.2 h0)
  · rw [offerNamed_iff, offerNamed_iff, countAll_bus]
    exact id

theorem powerOn_bus (straps : Straps) (e f : Bool) (s : State) :
    (powerOn straps e f s).ClashSilent ∧ (powerOn straps e f s).BlockedTimed ∧ (powerOn straps e f s).OfferNamed := by
  have hstart : (startCalSweep (powerOnValues straps f s)).ClashSilent
      ∧ (startCalSweep (powerOnValues straps f s)).BlockedTimed
      ∧ (startCalSweep (powerOnValues straps f s)).OfferNamed :=
    ⟨fun h => absurd h Bool.false_ne_true, fun h => absurd rfl h, fun _ h => absurd h nofun⟩
  unfold powerOn
  dsimp only
  split
  · have hk := emergencyAssertion_busKeeps (startCalSweep (powerOnValues straps f s))
    exact ⟨hk.silent hstart.1, hk.timed hstart.2.1, hk.named hstart.2.2⟩
  · exact hstart

theorem clashSilent_kept : Kept State.ClashSilent where
  powerOn straps e f s := (powerOn_bus straps e f s).1
  pending _ _ h := h
  count s := (countAll_busKeeps s).silent
  nextFree _ h := h
  effect _ _ he := he.busKeeps.silent

theorem blockedTimed_kept : Kept State.BlockedTimed where
  powerOn straps e f s := (powerOn_bus straps e f s).2.1
  pending _ _ h := h
  count s := (countAll_busKeeps s).timed
  nextFree _ h := h
  effect _ _ he := he.busKeeps.timed

theorem offerNamed_kept : Kept State.OfferNamed where
  powerOn straps e f s := (powerOn_bus straps e f s).2.2
  pending _ _ h := h
  count s := (countAll_busKeeps s).named
  nextFree _ h := h
  effect _ _ he := he.busKeeps.named

/-! ## The own readings table (R21) -/

/-- A table of sound readings, none or one to a channel. -/
def TableSound (rs : List Reading) : Prop :=
  (rs = [] ∨ rs.map (·.channel) = [1, 2, 3, 4, 5, 6, 7, 8]) ∧ ∀ r ∈ rs, r.Sound

theorem remarked_sound {r : Reading} (_ : r.Sound) : r.remarked.Sound := by
  refine ⟨?_, fun m hm => by cases hm⟩
  simp [Reading.remarked, ReadingFlags.noValue]

theorem TableSound.remarked {rs : List Reading} (h : TableSound rs) : TableSound (rs.map Reading.remarked) := by
  obtain ⟨hch, hs⟩ := h
  refine ⟨hch.imp (fun h => by rw [h]; rfl) fun h => by rw [List.map_map, ← h]; rfl, fun r hr => ?_⟩
  obtain ⟨r', hr', rfl⟩ := List.mem_map.1 hr
  exact remarked_sound (hs r' hr')

theorem convertSweep_sound (inp : ConversionInputs) (xs : List Nat) : TableSound (convertSweep inp xs) := by
  refine ⟨.inr ?_, fun r hr => ?_⟩
  · simp [convertSweep, convertChannel_channel, List.range_succ]
  · obtain ⟨i, -, rfl⟩ := List.mem_map.1 hr
    exact convertChannel_sound _ _ _

/-- An effect at the blocks leaves the own readings, re-marks them, or converts a sweep. -/
theorem BlockEffect.readings {s t : State} (h : BlockEffect s t) :
    t.readings = s.readings ∨ t.readings = s.readings.map Reading.remarked
      ∨ ∃ inp xs, t.readings = convertSweep inp xs := by
  have hloss (u : State) : (dryBulbLoss u).readings = u.readings.map Reading.remarked := by
    unfold dryBulbLoss; dsimp only; split <;> rfl
  cases h
  case calibrationComplete =>
    unfold calibrationSweepComplete
    split
    · dsimp only
      split
      · simp
      · simp [remarkReadings]
    · exact .inl rfl
  case probeComplete =>
    unfold probeSweepComplete
    split
    · exact .inr (.inr ⟨_, _, by simp [convertReadings]; rfl⟩)
    · exact .inl rfl
  case controlPeriod d w =>
    simp only [Machine.controlPeriod, periodExits_keeps, judgeDeviation_keeps, climatePeriod_keeps, samplePeriod,
      latchAll_keeps, sampleWet_keeps, sampleDry]
    split
    · exact .inr (.inl (hloss _))
    · exact .inl rfl
  case holdTimer sensor =>
    cases sensor <;>
    · simp only [holdTimerExpiry]
      split
      · simp [hloss]
      · exact .inl rfl
  all_goals exact .inl (by simp)

theorem readingsSound_iff (s : State) : s.ReadingsSound ↔ TableSound s.readings := Iff.rfl

theorem Effect.readingsSound {s t : State} (h : Effect s t) (hs : s.ReadingsSound) : t.ReadingsSound := by
  rw [readingsSound_iff] at *
  cases h
  case block h =>
    obtain h | h | ⟨inp, xs, h⟩ := h.readings <;> rw [h]
    exacts [hs, hs.remarked, convertSweep_sound inp xs]
  case bus h => rw [h.frame.1]; exact hs
  case run h run => rw [(takeRun_frame h run s).1]; exact hs
  case receiver => exact hs
  case responseEnd => rw [(responseEnd_keeps s).2.2.2.2.2.2.1]; exact hs
  case request owner h kind =>
    unfold Machine.request
    split
    · change TableSound (owner s).1.readings
      rw [(h.frame s).1]; exact hs
    · split <;> exact hs
  case requestByte owner h kind =>
    unfold Machine.request
    split
    · change TableSound (owner (s.setPort s.port.toHunt)).1.readings
      rw [(h.frame _).1]; exact hs
    · split <;> exact hs

theorem powerOn_readings (straps : Straps) (e f : Bool) (s : State) : (powerOn straps e f s).readings = [] := by
  unfold powerOn
  dsimp only
  split
  · simp [powerOnValues]
  · rfl

theorem readingsSound_kept : Kept State.ReadingsSound where
  powerOn straps e f s := by
    rw [readingsSound_iff, powerOn_readings]
    exact ⟨.inl rfl, by simp⟩
  pending _ _ h := h
  count _ h := h
  nextFree _ h := h
  effect _ _ he := he.readingsSound

/-! ## The service port (R174) -/

/-- The BUSY list within four, and empty while no response is being sent. -/
def Port.Sound (p : Port) : Prop := p.busy.length ≤ busyMost ∧ (p.sending = none → p.busy = [])

theorem Port.Sound.of_answers {p q : Port} (h : p.Sound) (hq : p.SameAnswers q) : q.Sound := by
  unfold Port.Sound
  rw [hq.1, hq.2]; exact h

/-- What a request leaves at the port: a response that begins, one more kind in a BUSY list that had room, or what was there. -/
theorem request_port {owner : State → State × Answer} (h : RequestOwner owner) (kind : Byte) {s : State}
    (hs : s.port.Sound) : (request kind owner s).port.Sound := by
  unfold request
  split
  next hidle =>
    have hbusy : s.port.busy = [] := by simpa [Port.idle] using (Bool.and_eq_true_iff.1 hidle).2
    refine ⟨?_, fun hnone => by cases hnone⟩
    change (owner s).1.port.busy.length ≤ busyMost
    rw [(h.frame s).2, hbusy]; exact Nat.zero_le _
  next hbusy =>
    split
    next hroom =>
      refine ⟨by simpa using hroom, fun hnone => ?_⟩
      have hempty := hs.2 hnone
      exact absurd (by simp [Port.idle, show s.port.sending = none from hnone, hempty]) hbusy
    next => exact hs

theorem responseEnd_port {s : State} (hs : s.port.Sound) : (responseEnd s).port.Sound := by
  unfold responseEnd
  split
  · exact hs
  next hb => exact ⟨by simp [hb], fun _ => hb⟩
  next k rest _ hb =>
    refine ⟨?_, fun hnone => by cases hnone⟩
    have := hs.1
    rw [hb, List.length_cons] at this
    exact Nat.le_of_succ_le this

theorem Effect.portSound {s t : State} (h : Effect s t) (hs : s.port.Sound) : t.port.Sound := by
  cases h
  case block h => rw [h.frame.2]; exact hs
  case bus h => rw [h.frame.2]; exact hs
  case run h run => rw [(takeRun_frame h run s).2]; exact hs
  case receiver p hp => exact hs.of_answers hp
  case responseEnd => exact responseEnd_port hs
  case request h kind => exact request_port h kind hs
  case requestByte h kind => exact request_port h kind (s := s.setPort s.port.toHunt) (hs.of_answers ⟨rfl, rfl⟩)

theorem countAll_port_answers (s : State) :
    (countAll s).port.busy = s.port.busy ∧ ((countAll s).port.sending = none ↔ s.port.sending = none) := by
  change (s.port.tick _).busy = _ ∧ ((s.port.tick _).sending = none ↔ _)
  unfold Port.tick Port.wireTick
  dsimp only
  split
  · simp
  · split <;> simp

theorem powerOn_port (straps : Straps) (e f : Bool) (s : State) :
    (powerOn straps e f s).port.sending = none ∧ (powerOn straps e f s).port.busy = [] := by
  unfold powerOn
  dsimp only
  split
  · simp [powerOnValues]
  · exact ⟨rfl, rfl⟩

theorem portSound_kept : Kept State.PortSound where
  powerOn straps e f s := by
    obtain ⟨-, hbusy⟩ := powerOn_port straps e f s
    exact ⟨by simp [hbusy], fun _ => hbusy⟩
  pending _ _ h := h
  count s h := by
    obtain ⟨hbusy, hsending⟩ := countAll_port_answers s
    exact ⟨by rw [hbusy]; exact h.1, fun hnone => by rw [hbusy]; exact h.2 (hsending.1 hnone)⟩
  nextFree _ h := h
  effect _ _ he := he.portSound

/-- Settles O59: each of the seven properties holds after power-on and is kept by every effect and by the clock's counting. -/
theorem stepsKeepRingAttentionBusReadingsPort : Obligations.StepsKeepRingAttentionBusReadingsPort := fun _ _ hst =>
  ⟨ringBounded_kept.step hst, attentionJudged_kept.step hst, clashSilent_kept.step hst, offerNamed_kept.step hst,
    blockedTimed_kept.step hst, readingsSound_kept.step hst, portSound_kept.step hst⟩

end Sys2Proof.Machine
end

section
/-! The step and the commands, power-on, and the probe front end (01). -/

namespace Sys2Proof.Machine

/-! ## What a frame of a statement says, block by block -/

theorem onlyChanges_iff (blocks : List Block) (s t : State) :
    OnlyChanges blocks s t ↔
      (.pending ∉ blocks → t.pending = s.pending) ∧ (.wires ∉ blocks → t.wires = s.wires)
        ∧ (.straps ∉ blocks → t.straps = s.straps) ∧ (.pins ∉ blocks → t.pins = s.pins)
        ∧ (.frontEnd ∉ blocks → t.frontEnd = s.frontEnd) ∧ (.sensors ∉ blocks → t.sensors = s.sensors)
        ∧ (.readings ∉ blocks → t.readings = s.readings) ∧ (.bus ∉ blocks → t.bus = s.bus)
        ∧ (.peers ∉ blocks → t.peers = s.peers) ∧ (.picture ∉ blocks → t.picture = s.picture)
        ∧ (.store ∉ blocks → t.store = s.store) ∧ (.schedule ∉ blocks → t.schedule = s.schedule)
        ∧ (.climate ∉ blocks → t.climate = s.climate) ∧ (.attention ∉ blocks → t.attention = s.attention)
        ∧ (.trace ∉ blocks → t.trace = s.trace) ∧ (.port ∉ blocks → t.port = s.port)
        ∧ (.freeIndex ∉ blocks → t.freeIndex = s.freeIndex) := by
  constructor
  · exact fun h => ⟨h _, h _, h _, h _, h _, h _, h _, h _, h _, h _, h _, h _, h _, h _, h _, h _, h _⟩
  · rintro ⟨h1, h2, h3, h4, h5, h6, h7, h8, h9, h10, h11, h12, h13, h14, h15, h16, h17⟩ b hb
    cases b
    exacts [h1 hb, h2 hb, h3 hb, h4 hb, h5 hb, h6 hb, h7 hb, h8 hb, h9 hb, h10 hb, h11 hb, h12 hb, h13 hb, h14 hb, h15 hb,
      h16 hb, h17 hb]

theorem OnlyChanges.trans {blocks : List Block} {s t u : State} (h : OnlyChanges blocks s t)
    (k : OnlyChanges blocks t u) : OnlyChanges blocks s u := by
  intro b hb
  have hst := h b hb
  have htu := k b hb
  cases b <;> exact htu.trans hst

/-! ## The step and the commands -/

/-- Settles O1: a step with a command at the front of the queue is that command's execution. -/
theorem stepRunsFrontCommand : Obligations.StepRunsFrontCommand := fun _ _ _ => rfl

theorem exec_peerEntryStale (n : Nat) (s : State) :
    exec (.peerEntryStale n) s = if validStation n then .next (peerEntryStale n s) else .refused .noSuchEntry := by
  simp [exec, execPeerEntryStale, validStation]

theorem exec_peerEntryEmptied (n : Nat) (s : State) :
    exec (.peerEntryEmptied n) s = if validStation n then .next (peerEntryEmptied n s) else .refused .noSuchEntry := by
  simp [exec, execPeerEntryEmptied, validStation]

theorem exec_powerOn_eq (n k : Nat) (r : Role) (e f : Bool) (s : State) :
    exec (.powerOn n k r e f) s =
      if validStation n && validKiln k then .next (powerOn { station := n, kiln := k, role := r } e f s)
      else .refused .noSuchSetting := by
  simp [exec, execPowerOn, validStation, validKiln, and_assoc]

/-- Settles O4: three commands judge their operands, and every other one answers a next state outright. -/
theorem wellFormedCommandsComplete : Obligations.WellFormedCommandsComplete := by
  intro c s
  cases c
  case powerOn n k r e f =>
    rw [exec_powerOn_eq]
    refine ⟨fun h => ⟨_, if_pos h⟩, fun h => .inl ⟨?_, n, k, r, e, f, rfl⟩⟩
    rw [show (validStation n && validKiln k) = false from h]; rfl
  case peerEntryStale n =>
    rw [exec_peerEntryStale]
    refine ⟨fun h => ⟨_, if_pos h⟩, fun h => .inr ⟨?_, n, .inl rfl⟩⟩
    rw [show validStation n = false from h]; rfl
  case peerEntryEmptied n =>
    rw [exec_peerEntryEmptied]
    refine ⟨fun h => ⟨_, if_pos h⟩, fun h => .inr ⟨?_, n, .inr rfl⟩⟩
    rw [show validStation n = false from h]; rfl
  all_goals exact ⟨fun _ => ⟨_, rfl⟩, fun h => Bool.noConfusion h⟩

/-- The blocks that no command but POWER_ON changes, and that POWER_ON keeps apart from the straps. -/
def State.ownView (s : State) := (s.pending, s.wires, s.freeIndex)

theorem BlockEffect.ownView {s t : State} (h : BlockEffect s t) : t.ownView = s.ownView := by
  cases h <;> simp [State.ownView]

theorem BusEffect.ownView {s t : State} (h : BusEffect s t) : t.ownView = s.ownView := by
  cases h <;> simp [State.ownView]

theorem originate_ownView (k : DirectiveKind) (charge code : Word16) (phase step : Byte) (s : State) :
    (originate k charge code phase step s).1.ownView = s.ownView := by
  unfold originate applyAtOrigin
  split
  · rfl
  · split
    · rfl
    · split
      · simp [State.ownView]
      · dsimp only; split <;> simp [State.ownView]

theorem RequestOwner.ownView {owner : State → State × Answer} (h : RequestOwner owner) (s : State) :
    (owner s).1.ownView = s.ownView := by
  cases h
  case directive k charge code phase step => exact originate_ownView _ _ _ _ _ s
  case loadCharge payload => unfold ownerLoadCharge; repeat' split
                             all_goals rfl
  case noDirective payload hnone =>
    unfold ownerDirective
    rw [hnone]
    dsimp only
    split <;> rfl
  case calibrate => unfold ownerCalibrate; split <;> simp [State.ownView]
  case readPeer => unfold ownerReadPeer; split <;> rfl
  case clearConditions => unfold ownerClearConditions; split <;> rfl
  case setAttentionMask => unfold ownerSetAttentionMask; split <;> rfl
  all_goals rfl

theorem request_ownView {owner : State → State × Answer} (h : RequestOwner owner) (kind : Byte) (s : State) :
    (request kind owner s).ownView = s.ownView := by
  unfold request
  split
  · exact h.ownView s
  · split <;> rfl

theorem Effect.ownView {s t : State} (h : Effect s t) : t.ownView = s.ownView := by
  cases h
  case block h => exact h.ownView
  case bus h => exact h.ownView
  case run h run => cases h <;> simp [State.ownView]
  case receiver => rfl
  case responseEnd => simp [State.ownView]
  case request h kind => exact request_ownView h kind s
  case requestByte h kind => exact request_ownView h kind (s.setPort s.port.toHunt)

theorem powerOn_ownView (straps : Straps) (e f : Bool) (s : State) : (powerOn straps e f s).ownView = s.ownView := by
  unfold powerOn
  dsimp only
  split
  · exact (BusEffect.emergencyAssertion _).ownView
  · rfl

/-- Settles O5: every effect keeps the straps, the queue, the wires and the index; POWER_ON all but the straps. -/
theorem commandsKeepStrapsAndQueue : Obligations.CommandsKeepStrapsAndQueue := by
  intro c s t h
  have hown : t.ownView = s.ownView := by
    obtain ⟨straps, e, f, rfl⟩ | heff := exec_cases h
    · exact powerOn_ownView straps e f s
    · exact heff.ownView
  simp only [State.ownView, Prod.mk.injEq] at hown
  exact ⟨hown.1, hown.2.1, hown.2.2, fun hc => (exec_effect h hc).keeps.straps⟩

/-- Settles O56: each property of the state after reset, by evaluation. -/
theorem resetIsSound : Obligations.ResetIsSound where
  ring := Nat.zero_le _
  attention := by unfold State.AttentionJudged; decide
  ranks := ⟨nofun, nofun, nofun⟩
  position := ⟨by decide, nofun⟩
  clash := nofun
  offer := nofun
  blocked := fun h => absurd rfl h
  outputs := by unfold State.OutputsBounded; decide
  regime := ⟨rfl, fun _ => ⟨rfl, rfl, rfl, fun _ => rfl⟩⟩
  probe := by unfold State.ProbeAtRest; decide
  readings := ⟨.inl rfl, nofun⟩
  port := ⟨by decide, fun _ => rfl⟩

/-! ## Power-on -/

theorem exec_powerOn_of_settings {n k : Nat} (h1 : 1 ≤ n) (h32 : n ≤ 32) (hk : k ≤ 15) (r : Role) (e f : Bool) (s : State) :
    exec (.powerOn n k r e f) s = .next (powerOn { station := n, kiln := k, role := r } e f s) := by
  rw [exec_powerOn_eq, if_pos (by simp [validStation, validKiln, h1, h32, hk])]

theorem entry_of_replicate_none (n t : Nat) :
    PeerTable.entry { entries := Vector.replicate 32 none, reportTimer := t } n = none := by
  unfold PeerTable.entry
  split
  · exact Vector.getElem_replicate ..
  · rfl

theorem atPowerOn_stamp (c : Condition) : Attention.atPowerOn.stamp c = none := by
  simp [Attention.atPowerOn, Attention.stamp]

theorem atPowerOn_enabled (k : CondClass) : Attention.atPowerOn.enabled k = true := by
  cases k <;> rfl

/-- Settles O6: the blocks of TABLE 1-5, 3-5, 7-3 and 9-1 as the model writes them down, then the calibration sweep's start. -/
theorem powerOnSetsEveryBlock : Obligations.PowerOnSetsEveryBlock := by
  intro station kiln role fan s h1 h32 hk
  refine ⟨_, exec_powerOn_of_settings h1 h32 hk role false fan s, rfl, rfl, rfl, rfl, rfl, rfl, fun n => ?_, rfl, rfl, rfl,
    rfl, rfl, atPowerOn_stamp, atPowerOn_enabled, rfl, rfl, rfl, rfl, ?_⟩
  · exact entry_of_replicate_none n reportTime
  · simp [onlyChanges_iff, powerOn, startCalSweep, powerOnValues]

end Sys2Proof.Machine
end

section
/-! The ring and the attention unit in detail (chapters 10 and 11): what one event writes and latches. -/

namespace Sys2Proof.Machine

/-! ## What an event writes (R167) -/

theorem State.Writes.nil {s t : State} (hs : s.RingBounded) (ht : t.trace.records = s.trace.records) : s.Writes t [] := by
  unfold State.RingBounded ringSize at hs
  simp [State.Writes, ht, Nat.sub_eq_zero_of_le hs]

/-- A list kept to its last 512 and then extended is the extended list kept to its last 512. -/
theorem lastRecords_append {α : Type} (xs ys : List α) (m : Nat) :
    (xs.drop (xs.length - m) ++ ys).drop ((xs.drop (xs.length - m)).length + ys.length - m) =
      (xs ++ ys).drop (xs.length + ys.length - m) := by
  have hle : xs.length - m ≤ xs.length := Nat.sub_le _ _
  rw [← List.drop_append_of_le_length hle, List.drop_drop, List.length_drop]
  congr 1
  omega

theorem State.Writes.trans {s t u : State} {xs ys : List TraceRecord} (h : s.Writes t xs) (k : t.Writes u ys) :
    s.Writes u (xs ++ ys) := by
  unfold State.Writes at *
  rw [← List.length_append] at h
  rw [k, h, lastRecords_append, List.append_assoc, List.length_append, List.length_append, Nat.add_assoc]

theorem State.Writes.of_source {s s' t : State} {xs : List TraceRecord} (h : s'.Writes t xs)
    (hs : s'.trace.records = s.trace.records) : s.Writes t xs := by
  unfold State.Writes at *; rwa [hs] at h

theorem State.Writes.of_target {s t t' : State} {xs : List TraceRecord} (h : s.Writes t xs)
    (ht : t'.trace.records = t.trace.records) : s.Writes t' xs := ht.trans h

theorem State.Writes.bounded {s t : State} {xs : List TraceRecord} (h : s.Writes t xs) : t.RingBounded := by
  unfold State.Writes at h
  unfold State.RingBounded ringSize
  rw [h]
  simp only [List.length_drop, List.length_append]
  omega

theorem writeRecord_writes (r : TraceRecord) {s : State} (hs : s.RingBounded) : s.Writes (writeRecord r s) [r] := by
  unfold State.RingBounded at hs
  unfold State.Writes writeRecord
  split
  next h =>
    have : s.trace.records.length + 1 - 512 = 0 := by unfold ringSize at h; omega
    simp [this]
  next h =>
    obtain ⟨x, xs, hx⟩ : ∃ x xs, s.trace.records = x :: xs := by
      cases hr : s.trace.records with
      | nil => simp [hr, ringSize] at h
      | cons x xs => exact ⟨x, xs, rfl⟩
    have : s.trace.records.length + [r].length - 512 = 1 := by
      unfold ringSize at h hs; simp only [List.length_singleton]; omega
    rw [this]
    simp [hx]

theorem writeTrace_writes (k : TraceKind) {s : State} (hs : s.RingBounded) : s.Writes (writeTrace k s) [s.traceRecord k] :=
  writeRecord_writes _ hs

theorem attention_latched_iff (a : Attention) (c : Condition) : a.latched c = true ↔ a.stamp c ≠ none := by
  unfold Attention.latched; cases a.stamp c <;> simp

/-- The record of a kind depends on no ring and no attention unit. -/
theorem traceRecord_setAttention (s : State) (a : Attention) (k : TraceKind) :
    (s.setAttention a).traceRecord k = s.traceRecord k := rfl

/-- What a trace record shows of the state besides its position. -/
def State.shown (s : State) := (s.schedule.minute, s.schedule.mode, s.picture, s.dryBulb, s.wetBulb)

theorem traceRecord_of_shown {s t : State} (h : t.shown = s.shown) (k : TraceKind) (p : Position) :
    { t.traceRecord k with position := p } = { s.traceRecord k with position := p } := by
  simp only [State.shown, Prod.mk.injEq] at h
  obtain ⟨h1, h2, h3, h4, h5⟩ := h
  simp only [State.traceRecord, State.pictureBasis, h1, h2, h3, h4, h5]

theorem traceRecord_eq {s t : State} (h : t.shown = s.shown) (hp : t.schedule.position = s.schedule.position)
    (k : TraceKind) : t.traceRecord k = s.traceRecord k := by
  have := traceRecord_of_shown h k s.schedule.position
  rw [← hp] at this
  exact this.trans (by rw [hp]; rfl)

/-- The wet-bulb and dry-bulb shown are read from the straps and the sensors. -/
theorem shown_of_eq {s t : State} (h1 : t.schedule.minute = s.schedule.minute) (h2 : t.schedule.mode = s.schedule.mode)
    (h3 : t.picture = s.picture) (h4 : t.sensors = s.sensors) (h5 : t.straps = s.straps) : t.shown = s.shown := by
  simp [State.shown, State.dryBulb, State.wetBulb, h1, h2, h3, h4, h5]

theorem latchAll_traceRecord (cs : List Condition) (s : State) (k : TraceKind) :
    (latchAll cs s).traceRecord k = s.traceRecord k :=
  traceRecord_eq (shown_of_eq (by simp) (by simp) (by simp) (by simp) (by simp)) (by simp) k

theorem latch_traceRecord (c : Condition) (s : State) (k : TraceKind) : (latch c s).traceRecord k = s.traceRecord k :=
  traceRecord_eq (shown_of_eq (by simp) (by simp) (by simp) (by simp) (by simp)) (by simp) k

/-- A latching writes the CONDITION record of a condition that was clear, TRACE OVERRUN's apart (R159). -/
theorem latch_writes (c : Condition) {s : State} (hs : s.RingBounded) :
    s.Writes (latch c s)
      (if c ≠ .traceOverrun ∧ s.attention.stamp c = none then [s.traceRecord (.condition c)] else []) := by
  unfold latch
  split
  next h =>
    rw [if_neg (fun hc => (attention_latched_iff _ _).1 h hc.2)]
    exact State.Writes.nil hs rfl
  next h =>
    have hclear : s.attention.stamp c = none := by
      by_contra hn; exact h ((attention_latched_iff _ _).2 hn)
    dsimp only
    split
    next ho => rw [if_neg (fun hc => hc.1 ho)]; exact State.Writes.nil hs rfl
    next ho =>
      rw [if_pos ⟨ho, hclear⟩]
      exact (writeTrace_writes (.condition c) (s := s.setAttention (s.attention.latch c s.schedule.minute)) hs).of_source rfl

/-- A latching leaves the condition stamped: as before, or with the charge minute (R158). -/
theorem latch_stamp_self (c : Condition) (s : State) (hc : c ≠ .traceOverrun) :
    (latch c s).attention.stamp c =
      if s.attention.stamp c = none then some s.schedule.minute else s.attention.stamp c := by
  unfold latch
  dsimp only
  rw [if_neg hc]
  split
  next h => rw [if_neg ((attention_latched_iff _ _).1 h)]
  next h =>
    rw [writeTrace_stamp _ _ hc]
    simp [Attention.stamp_latch]

theorem foldl_latch_writes (cs : List Condition) {s : State} (hs : s.RingBounded) (hn : cs.Nodup) :
    s.Writes (cs.foldl (fun s c => latch c s) s)
      ((cs.filter fun c => decide (c ≠ .traceOverrun ∧ s.attention.stamp c = none)).map
        fun c => s.traceRecord (.condition c)) := by
  induction cs generalizing s with
  | nil => exact State.Writes.nil hs rfl
  | cons c cs ih =>
    obtain ⟨hc, hn⟩ := List.nodup_cons.1 hn
    have hhead := latch_writes c hs
    have htail := ih hhead.bounded hn
    have hfilter : (cs.filter fun d => decide (d ≠ .traceOverrun ∧ (latch c s).attention.stamp d = none)) =
        cs.filter fun d => decide (d ≠ .traceOverrun ∧ s.attention.stamp d = none) := by
      refine List.filter_congr fun d hd => ?_
      by_cases ho : d = .traceOverrun
      · simp [ho]
      · rw [latch_stamp_ne c s (fun h => hc (h ▸ hd)) ho]
    simp only [latch_traceRecord, hfilter] at htail
    rw [List.foldl_cons]
    have hall := hhead.trans htail
    by_cases hw : c ≠ .traceOverrun ∧ s.attention.stamp c = none
    · simpa [hw, List.filter_cons] using hall
    · rw [if_neg hw] at hall
      rwa [List.filter_cons_of_neg (by simpa using hw)]

/-- The conditions of an event that were clear write their records in the order of TABLE 10-1 (R159). -/
theorem latchAll_writes (cs : List Condition) {s : State} (hs : s.RingBounded) :
    s.Writes (latchAll cs s)
      (((Condition.all.filter (· ∈ cs)).filter fun c => decide (c ≠ .traceOverrun ∧ s.attention.stamp c = none)).map
        fun c => s.traceRecord (.condition c)) :=
  foldl_latch_writes _ hs ((by decide : Condition.all.Nodup).filter _)

theorem foldl_latch_stamp (cs : List Condition) (s : State) {d : Condition} (hd : d ≠ .traceOverrun) :
    (cs.foldl (fun s c => latch c s) s).attention.stamp d =
      if d ∈ cs ∧ s.attention.stamp d = none then some s.schedule.minute else s.attention.stamp d := by
  induction cs generalizing s with
  | nil => simp
  | cons c cs ih =>
    rw [List.foldl_cons, ih]
    by_cases hdc : d = c
    · subst hdc
      rw [latch_stamp_self _ _ hd]
      by_cases hnone : s.attention.stamp d = none <;> simp [hnone]
    · rw [latch_stamp_ne c s hdc hd]; simp [hdc]

/-- The stamps of an event's conditions (R158). -/
theorem latchAll_stamp (cs : List Condition) (s : State) {d : Condition} (hd : d ≠ .traceOverrun) :
    (latchAll cs s).attention.stamp d =
      if d ∈ cs ∧ s.attention.stamp d = none then some s.schedule.minute else s.attention.stamp d := by
  unfold latchAll
  rw [foldl_latch_stamp _ _ hd]
  simp [Condition.mem_all]

/-! ## TRACE OVERRUN (R167) -/

theorem State.Writes.length {s t : State} {xs : List TraceRecord} (h : s.Writes t xs) :
    t.trace.records.length = min 512 (s.trace.records.length + xs.length) := by
  unfold State.Writes at h
  rw [h, List.length_drop, List.length_append]
  omega

theorem writeRecord_overrun (r : TraceRecord) (s : State) :
    (writeRecord r s).attention.stamp .traceOverrun =
      if s.attention.stamp .traceOverrun = none ∧ 512 ≤ s.trace.records.length then some r.minute
      else s.attention.stamp .traceOverrun := by
  unfold writeRecord ringSize
  split
  next h => rw [if_neg (by omega)]; rfl
  next h => simp [Attention.stamp_latch, Nat.not_lt.1 h]

theorem latch_overrun {c : Condition} (s : State) (hc : c ≠ .traceOverrun) :
    (latch c s).attention.stamp .traceOverrun =
      if s.attention.stamp .traceOverrun = none ∧ s.attention.stamp c = none ∧ 512 ≤ s.trace.records.length then
        some s.schedule.minute
      else s.attention.stamp .traceOverrun := by
  unfold latch
  dsimp only
  rw [if_neg hc]
  split
  next h => rw [if_neg (fun hn => (attention_latched_iff _ _).1 h hn.2.1)]
  next h =>
    have hclear : s.attention.stamp c = none := by
      by_contra hn; exact h ((attention_latched_iff _ _).2 hn)
    unfold writeTrace
    rw [writeRecord_overrun]
    simp [Attention.stamp_latch, hc.symm, hclear, State.traceRecord]

theorem foldl_latch_overrun (cs : List Condition) {s : State} (hs : s.RingBounded) (hn : cs.Nodup)
    (ho : .traceOverrun ∉ cs) :
    (cs.foldl (fun s c => latch c s) s).attention.stamp .traceOverrun =
      if s.attention.stamp .traceOverrun = none
          ∧ 512 < s.trace.records.length + (cs.filter fun c => decide (s.attention.stamp c = none)).length then
        some s.schedule.minute
      else s.attention.stamp .traceOverrun := by
  induction cs generalizing s with
  | nil =>
    unfold State.RingBounded ringSize at hs
    rw [if_neg (by simp only [List.filter_nil, List.length_nil]; omega)]; rfl
  | cons c cs ih =>
    obtain ⟨hc, hn⟩ := List.nodup_cons.1 hn
    obtain ⟨hco, ho⟩ := not_or.1 (List.mem_cons.not.1 ho)
    have hco : c ≠ .traceOverrun := Ne.symm hco
    have hhead := latch_writes c hs
    have hfilter : (cs.filter fun d => decide ((latch c s).attention.stamp d = none)) =
        cs.filter fun d => decide (s.attention.stamp d = none) := by
      refine List.filter_congr fun d hd => ?_
      rw [latch_stamp_ne c s (fun h => hc (h ▸ hd)) (fun h => ho (h ▸ hd))]
    rw [List.foldl_cons, ih hhead.bounded hn ho, hfilter, hhead.length, latch_overrun s hco]
    unfold State.RingBounded ringSize at hs
    cases s.attention.stamp .traceOverrun with
    | some m => simp
    | none =>
      by_cases hclear : s.attention.stamp c = none
      · by_cases hfull : 512 ≤ s.trace.records.length
        · simp [hclear, hco, hfull]
          omega
        · simp [hclear, hco, hfull]
          congr 1
          simp only [eq_iff_iff]
          omega
      · simp [hclear, hs]

end Sys2Proof.Machine
end

section
/-! Entries one after another at one event (R108, TABLE 7-2): the schedule, the climate controller, the records. -/

namespace Sys2Proof.Machine

/-! ## One entry -/

theorem entrySchedule_eq (r : ChargeRecord) (p : Position) (c : Schedule) :
    entrySchedule (some r) p c = c.entered r p := by
  cases p <;> rfl

theorem entryKind_eq (left p : Position) (cause : Cause) :
    (if withinDrying left p then TraceKind.step cause else .phase cause) = entryKind left p cause := by
  cases left <;> cases p <;> rfl

theorem entryLatches_eq (left p : Position) :
    (if withinDrying left p then Condition.stepAdvanced else .phaseEntered) = entryLatches left p := by
  cases left <;> cases p <;> rfl

theorem entryLatches_cases (left p : Position) :
    entryLatches left p = .stepAdvanced ∨ entryLatches left p = .phaseEntered := by
  cases left <;> cases p <;> simp [entryLatches]

/-- The climate controller after an entry outside SAFE. -/
def State.entryClimate (s : State) (r : ChargeRecord) (p : Position) : Climate :=
  if p.isLoop then
    { s.climate.entering (targetsOf r p) s.schedule.position p s.dryBulb with regime := .loops }
  else
    { s.climate.entering (targetsOf r p) s.schedule.position p s.dryBulb with
      integral := 0, heat := 0, spray := 0, vent := if s.straps.role = .zone ∧ p = .cool then 1000 else 0
      regime := if p = .cool then .cooling else .off }

theorem judgeRegime_of_loops {s : State} (h : tableRegime s.schedule.mode s.schedule.position = .loops) :
    (judgeRegime s).climate = { s.climate with regime := .loops } := by
  rw [judgeRegime_climate, if_pos h]

theorem judgeRegime_of_still {s : State} {g : Regime} (h : tableRegime s.schedule.mode s.schedule.position = g)
    (hg : g ≠ .loops) :
    (judgeRegime s).climate =
      { s.climate with
        regime := g, integral := 0, heat := 0, spray := 0
        vent := match s.straps.role with | .zone => tableVent s.currentRecord g | .probe => 0 } := by
  subst h
  exact (judgeRegime_climate s).trans (if_neg hg)

/-- The regime of a position without loops outside SAFE (TABLE 9-3). -/
theorem tableRegime_still {m : Mode} {p : Position} (hm : m ≠ .safe) (hp : p.isLoop = false) :
    tableRegime m p = if p = .cool then .cooling else .off := by
  cases m <;> cases p <;> simp_all [tableRegime, Position.isLoop]

theorem enterPosition_climate (p : Position) (k : Cause) (cs : List Condition) {s : State} {r : ChargeRecord}
    (hr : s.currentRecord = some r) (hm : s.schedule.mode ≠ .safe) :
    (enterPosition p k cs s).climate = s.entryClimate r p := by
  simp only [enterPosition, latchAll_keeps, writeTrace_keeps, climateEntry_eq]
  have hrec : (s.setSchedule (entrySchedule s.currentRecord p s.schedule)).currentRecord = some r := hr
  rw [hrec]
  unfold State.entryClimate
  cases hp : p.isLoop with
  | true =>
    refine (judgeRegime_of_loops ?_).trans rfl
    exact tableRegime_eq_loops.2 ⟨hm, hp⟩
  | false =>
    refine (judgeRegime_of_still (tableRegime_still (p := p) hm hp) ?_).trans ?_
    · split <;> simp
    · simp only [Bool.false_eq_true, if_false]
      change (Climate.mk _ _ _ _ _ _ _ (match s.straps.role with
        | .zone => tableVent s.currentRecord (if p = .cool then .cooling else .off) | .probe => 0) _ _ _) = _
      congr 1
      cases s.straps.role <;> by_cases hc : p = .cool <;> simp [hc, tableVent]

/-- An entry after another, from a position with loops, or from the outputs at 0, or to a position without loops. -/
def State.Steady (s : State) (p q : Position) : Prop :=
  q.isLoop = true → p.isLoop = true
    ∨ p ≠ .cool ∧ s.schedule.position.isLoop = false ∧ s.climate.heat = 0 ∧ s.climate.vent = 0 ∧ s.climate.spray = 0

/-- The second of two entries leaves the climate controller as that entry alone would. -/
theorem entryClimate_entryClimate {s u : State} {r : ChargeRecord} {p q : Position} (hc : u.climate = s.entryClimate r p)
    (hp : u.schedule.position = p) (hd : u.dryBulb = s.dryBulb) (hs : u.straps = s.straps) (hq : s.Steady p q) :
    u.entryClimate r q = s.entryClimate r q := by
  unfold State.entryClimate
  rw [hc, hp, hd, hs]
  unfold State.entryClimate Climate.entering
  unfold State.Steady at hq
  cases hql : q.isLoop
  · cases hpl : p.isLoop <;> simp
  · cases hpl : p.isLoop
    · obtain ⟨hcool, hleft, hheat, hvent, hspray⟩ := (hq hql).resolve_left (by simp [hpl])
      simp [hleft, hheat, hvent, hspray, hcool]
    · simp

theorem climateEntered_of_entryClimate {s t : State} {r : ChargeRecord} {p : Position}
    (hc : t.climate = s.entryClimate r p) : ClimateEntered s t r p := by
  have hloop (dep : Option Nat) (k : Nat) (hp : p.isLoop = true) (ht : targetsOf r p = stepTarget r k dep) :
      ∀ st, r.stepAt k = some st → LoopEntered s t st.dryBulb (dep.getD st.depression) := by
    intro st hst
    have htarget : targetsOf r p = some (st.dryBulb, dep.getD st.depression) := by simp [ht, stepTarget, hst]
    rw [State.entryClimate, if_pos hp, htarget] at hc
    refine ⟨_, _, hc, ?_⟩
    unfold Climate.entering
    rw [hp]
    cases s.schedule.position <;> rfl
  cases p
  case warmup => exact hloop none 1 rfl rfl
  case drying k => exact hloop none k rfl rfl
  case equalize => exact hloop (some r.equalizeDepression) _ rfl rfl
  case condition => exact hloop (some r.conditionDepression) _ rfl rfl
  all_goals exact hc

/-- The conditions of an event stand in the order of TABLE 10-1, before STEP ADVANCED and PHASE ENTERED. -/
def EventOrdered (event : List Condition) : Prop :=
  .traceOverrun ∉ event ∧ ∀ l ∈ [Condition.stepAdvanced, .phaseEntered],
    Condition.all.filter (· ∈ event ++ [l]) = event ++ [l]

theorem eventOrdered_nil : EventOrdered [] := ⟨by simp, by decide⟩

theorem eventOrdered_rosterShort : EventOrdered [.rosterShort] := ⟨by decide, by decide⟩

theorem enterPosition_writes (p : Position) (k : Cause) {event : List Condition} (he : EventOrdered event) {s : State}
    (hs : s.RingBounded) :
    s.Writes (enterPosition p k event s)
      ({ s.traceRecord (entryKind s.schedule.position p k) with position := p }
        :: ((event ++ [entryLatches s.schedule.position p]).filter fun c => decide (s.attention.stamp c = none)).map
            fun c => { s.traceRecord (.condition c) with position := p }) := by
  unfold enterPosition
  dsimp only
  rw [entryKind_eq, entryLatches_eq]
  set s1 := climateEntry s.schedule.position (s.setSchedule (entrySchedule s.currentRecord p s.schedule)) with hs1
  have hrec : ∀ kind, s1.traceRecord kind = { s.traceRecord kind with position := p } := fun kind => by
    have h := traceRecord_of_shown (s := s) (t := s1) (shown_of_eq (by simp [hs1, entrySchedule])
      (by simp [hs1, entrySchedule]) (by simp [hs1]) (by simp [hs1]) (by simp [hs1])) kind p
    rw [← h]
    have hpos : s1.schedule.position = p := by simp [hs1, entrySchedule]
    have : (s1.traceRecord kind).position = p := hpos
    rw [← this]
  have htrace : s1.trace.records = s.trace.records := by simp [hs1]
  have hstamps : ∀ c, s1.attention.stamp c = s.attention.stamp c := fun c => by simp [hs1]
  have hb1 : s1.RingBounded := by unfold State.RingBounded at *; rwa [htrace]
  have hfirst := writeTrace_writes (entryKind s.schedule.position p k) hb1
  have hl : entryLatches s.schedule.position p ∈ [Condition.stepAdvanced, .phaseEntered] := by
    simpa using entryLatches_cases s.schedule.position p
  have hsecond := latchAll_writes (event ++ [entryLatches s.schedule.position p]) hfirst.bounded
  rw [he.2 _ hl] at hsecond
  have hfilter : ((event ++ [entryLatches s.schedule.position p]).filter fun c => decide (c ≠ .traceOverrun
      ∧ (writeTrace (entryKind s.schedule.position p k) s1).attention.stamp c = none)) =
      (event ++ [entryLatches s.schedule.position p]).filter fun c => decide (s.attention.stamp c = none) := by
    refine List.filter_congr fun c hc => ?_
    have ho : c ≠ .traceOverrun := by
      rintro rfl
      rcases List.mem_append.1 hc with hc | hc
      · exact he.1 hc
      · rw [List.mem_singleton] at hc
        rcases entryLatches_cases s.schedule.position p with h | h <;> rw [h] at hc <;> cases hc
    rw [writeTrace_stamp _ _ ho, hstamps]
    simp [ho]
  have hrec2 : ∀ kind, (writeTrace (entryKind s.schedule.position p k) s1).traceRecord kind = s1.traceRecord kind :=
    fun kind => traceRecord_eq (shown_of_eq (by simp) (by simp) (by simp) (by simp) (by simp)) (by simp) kind
  rw [hfilter] at hsecond
  have hall := (hfirst.trans hsecond).of_source htrace
  simpa only [hrec2, hrec, List.singleton_append] using hall

theorem enterPosition_stamp (p : Position) (k : Cause) (event : List Condition) (s : State) {c : Condition}
    (hc : c ≠ .traceOverrun) :
    (enterPosition p k event s).attention.stamp c =
      if c ∈ event ++ [entryLatches s.schedule.position p] ∧ s.attention.stamp c = none then some s.schedule.minute
      else s.attention.stamp c := by
  unfold enterPosition
  dsimp only
  rw [entryLatches_eq, latchAll_stamp _ _ hc, writeTrace_stamp _ _ hc]
  simp [entrySchedule]

/-! ## Entries in a row -/

/-- A run of entries at one event. -/
def enterAll : List (Position × Cause) → State → State
  | [], s => s
  | (p, k) :: rest, s => enterAll rest (enterPosition p k [] s)

theorem enterAll_append (xs ys : List (Position × Cause)) (s : State) :
    enterAll (xs ++ ys) s = enterAll ys (enterAll xs s) := by
  induction xs generalizing s with
  | nil => rfl
  | cons x xs ih => exact ih _

theorem enterAll_induct {P : State → State → Prop} (hr : ∀ s, P s s) (ht : ∀ {s t u}, P s t → P t u → P s u)
    (he : ∀ p k s, P s (enterPosition p k [] s)) (path : List (Position × Cause)) (s : State) : P s (enterAll path s) := by
  induction path generalizing s with
  | nil => exact hr s
  | cons x xs ih => exact ht (he x.1 x.2 s) (ih _)

/-- `enterAll` changes no block but `schedule`, `climate`, `trace`, `attention`. -/
@[simp] theorem enterAll_keeps (path : List (Position × Cause)) (s : State) :
    (enterAll path s).pending = s.pending ∧ (enterAll path s).wires = s.wires ∧ (enterAll path s).straps = s.straps
      ∧ (enterAll path s).pins = s.pins ∧ (enterAll path s).frontEnd = s.frontEnd
      ∧ (enterAll path s).sensors = s.sensors ∧ (enterAll path s).readings = s.readings
      ∧ (enterAll path s).bus = s.bus ∧ (enterAll path s).peers = s.peers ∧ (enterAll path s).picture = s.picture
      ∧ (enterAll path s).store = s.store ∧ (enterAll path s).port = s.port
      ∧ (enterAll path s).freeIndex = s.freeIndex := by
  induction path generalizing s with
  | nil => simp [enterAll]
  | cons x xs ih => simpa [enterAll] using ih (enterPosition x.1 x.2 [] s)

theorem enterAll_latches (path : List (Position × Cause)) (s : State) : Latches s (enterAll path s) :=
  enterAll_induct Latches.refl Latches.trans (fun p k s => enterPosition_latches p k [] s) path s

/-- The entries of an event leave the charge minute, the mode and all the blocks a record shows. -/
theorem enterPosition_shown (p : Position) (k : Cause) (cs : List Condition) (s : State) :
    (enterPosition p k cs s).shown = s.shown :=
  shown_of_eq (by simp [entrySchedule]) (by simp [entrySchedule]) (by simp) (by simp) (by simp)

theorem enterAll_shown (path : List (Position × Cause)) (s : State) : (enterAll path s).shown = s.shown :=
  enterAll_induct (P := fun s t => t.shown = s.shown) (fun _ => rfl) (fun h k => k.trans h)
    (fun p k s => enterPosition_shown p k [] s) path s

/-- Where a run of entries that began in one state stands, after the entry to a position. -/
structure EnteredAt (s : State) (r : ChargeRecord) (p : Position) (u : State) : Prop where
  record : u.currentRecord = some r
  straps : u.straps = s.straps
  shown : u.shown = s.shown
  mode : s.schedule.mode ≠ .safe
  schedule : u.schedule = s.schedule.entered r p
  climate : u.climate = s.entryClimate r p

theorem mode_of_shown {s t : State} (h : t.shown = s.shown) : t.schedule.mode = s.schedule.mode := congrArg (·.2.1) h

theorem dryBulb_of_shown {s t : State} (h : t.shown = s.shown) : t.dryBulb = s.dryBulb := congrArg (·.2.2.2.1) h

theorem EnteredAt.first (p : Position) (k : Cause) (cs : List Condition) {s : State} {r : ChargeRecord}
    (hr : s.currentRecord = some r) (hm : s.schedule.mode ≠ .safe) : EnteredAt s r p (enterPosition p k cs s) where
  record := by simpa [State.currentRecord] using hr
  straps := by simp
  shown := enterPosition_shown p k cs s
  mode := hm
  schedule := by rw [enterPosition_schedule, hr, entrySchedule_eq]
  climate := enterPosition_climate p k cs hr hm

theorem EnteredAt.step {s u : State} {r : ChargeRecord} {p q : Position} (h : EnteredAt s r p u) (k : Cause)
    (hq : s.Steady p q) : EnteredAt s r q (enterPosition q k [] u) := by
  have hm : u.schedule.mode ≠ .safe := mode_of_shown h.shown ▸ h.mode
  have hnext := EnteredAt.first q k [] h.record hm
  have hpos : u.schedule.position = p := by rw [h.schedule]; rfl
  exact
    { record := hnext.record
      straps := hnext.straps.trans h.straps
      shown := hnext.shown.trans h.shown
      mode := h.mode
      schedule := by rw [hnext.schedule, h.schedule]; rfl
      climate := hnext.climate.trans
        (entryClimate_entryClimate h.climate hpos (dryBulb_of_shown h.shown) h.straps hq) }

/-- The position that a run of entries ends in. -/
def lastPosition (p : Position) : List (Position × Cause) → Position
  | [] => p
  | (q, _) :: rest => lastPosition q rest

/-- Each entry of a run follows steadily on the one before. -/
def State.SteadyPath (s : State) : Position → List (Position × Cause) → Prop
  | _, [] => True
  | p, (q, _) :: rest => s.Steady p q ∧ s.SteadyPath q rest

theorem EnteredAt.all {s u : State} {r : ChargeRecord} {p : Position} (h : EnteredAt s r p u)
    {rest : List (Position × Cause)} (hp : s.SteadyPath p rest) :
    EnteredAt s r (lastPosition p rest) (enterAll rest u) := by
  induction rest generalizing p u with
  | nil => exact h
  | cons x rest ih => exact ih (h.step x.2 hp.1) hp.2

theorem getLast_lastPosition (p : Position) (k : Cause) (rest : List (Position × Cause)) {x : Position × Cause}
    (hx : ((p, k) :: rest).getLast? = some x) : x.1 = lastPosition p rest := by
  induction rest generalizing p k with
  | nil => cases hx; rfl
  | cons y rest ih => exact ih y.1 y.2 (by rwa [List.getLast?_cons_cons] at hx)

/-- The entries of an event after its first write their own records and those of the conditions they bring from clear. -/
theorem enterAll_writes {s t : State} (rest : List (Position × Cause)) {u : State} {done : List Condition}
    (hu : u.RingBounded) (ht : t.shown = u.shown)
    (hdone : ∀ c ∈ [Condition.stepAdvanced, .phaseEntered],
      u.attention.stamp c = none ↔ s.attention.stamp c = none ∧ c ∉ done) :
    u.Writes (enterAll rest u) (pathRecords s t u.schedule.position [] done rest) := by
  induction rest generalizing u done with
  | nil => exact State.Writes.nil hu rfl
  | cons x rest ih =>
    obtain ⟨p, k⟩ := x
    have hmem : ∀ q, entryLatches q p ∈ [Condition.stepAdvanced, .phaseEntered] := fun q => by
      simpa using entryLatches_cases q p
    have hone := enterPosition_writes p k eventOrdered_nil hu
    have hpos : (enterPosition p k [] u).schedule.position = p := by simp [entrySchedule]
    have hrest := ih (u := enterPosition p k [] u) (done := entryLatches u.schedule.position p :: done) hone.bounded
      (ht.trans (enterPosition_shown p k [] u).symm) (fun c hc => by
        have ho : c ≠ .traceOverrun := by rintro rfl; simp at hc
        have hcd := hdone c hc
        rw [enterPosition_stamp p k [] u ho]
        by_cases hcl : c = entryLatches u.schedule.position p
        · by_cases hn : u.attention.stamp (entryLatches u.schedule.position p) = none <;> simp [hcl, hn]
        · simp [hcl, hcd])
    rw [hpos] at hrest
    have hall := hone.trans hrest
    have hfilter : ([entryLatches u.schedule.position p].filter fun c => decide (u.attention.stamp c = none)) =
        [entryLatches u.schedule.position p].filter fun c => decide (s.attention.stamp c = none ∧ c ∉ done) := by
      refine List.filter_congr fun c hc => ?_
      rw [List.mem_singleton] at hc
      rw [decide_eq_decide, hc]
      exact hdone _ (hmem _)
    simp only [pathRecords, List.nil_append, traceRecord_of_shown ht]
    rw [← hfilter]
    change u.Writes (enterAll rest (enterPosition p k [] u)) _
    simpa only [List.nil_append, List.cons_append] using hall

/-- A first entry with the conditions of its event, and the entries that follow it: a run of entries. -/
theorem entersPath_enterAll {s : State} {r : ChargeRecord} (p : Position) (k : Cause) (rest : List (Position × Cause))
    {event : List Condition} (hr : s.currentRecord = some r) (hm : s.schedule.mode ≠ .safe) (he : EventOrdered event)
    (hfresh : rest = [] ∨ .stepAdvanced ∉ event ∧ .phaseEntered ∉ event) (hp : s.SteadyPath p rest) :
    EntersPath s (enterAll rest (enterPosition p k event s)) r [] ((p, k) :: rest) event := by
  have hat := (EnteredAt.first p k event hr hm).all hp
  have hlatched := enterPosition_latched p k event s
  rw [entryLatches_eq] at hlatched
  refine ⟨?_, fun x hx => ?_, fun hs => ?_, fun x hx c hc => ?_⟩
  · obtain ⟨x, hx⟩ := Option.ne_none_iff_exists'.1 (show ((p, k) :: rest).getLast? ≠ none by simp)
    rw [hx, hat.schedule, ← getLast_lastPosition p k rest hx]
  · rw [getLast_lastPosition p k rest hx]
    exact climateEntered_of_entryClimate hat.climate
  · have hone := enterPosition_writes p k he hs
    have hshown := (enterAll_shown rest (enterPosition p k event s))
    have hrest := enterAll_writes (s := s) (t := enterAll rest (enterPosition p k event s)) rest
      (u := enterPosition p k event s) (done := [entryLatches s.schedule.position p]) hone.bounded hshown
    have hpos : (enterPosition p k event s).schedule.position = p := by simp [entrySchedule]
    rw [hpos] at hrest
    have hall : s.Writes (enterAll rest (enterPosition p k event s)) _ := hone.trans (ys := pathRecords s
      (enterAll rest (enterPosition p k event s)) p [] [entryLatches s.schedule.position p] rest) (by
        rcases hfresh with rfl | ⟨hsa, hpe⟩
        · exact State.Writes.nil hone.bounded rfl
        · refine hrest fun c hc => ?_
          have ho : c ≠ .traceOverrun := by rintro rfl; simp at hc
          have hce : c ∉ event := by
            simp only [List.mem_cons, List.not_mem_nil, or_false] at hc
            rcases hc with rfl | rfl
            exacts [hsa, hpe]
          rw [enterPosition_stamp p k event s ho]
          by_cases hcl : c = entryLatches s.schedule.position p
          · by_cases hn : s.attention.stamp (entryLatches s.schedule.position p) = none <;> simp [hcl, hn]
          · simp [hcl, hce])
    simp only [List.nil_append, pathRecords, List.not_mem_nil, not_false_eq_true, and_true,
      traceRecord_of_shown (hshown.trans (enterPosition_shown p k event s))]
    simpa only [List.cons_append] using hall
  · cases hx
    rcases List.mem_cons.1 hc with rfl | hc
    · exact (enterAll_latches rest _).latched hlatched.2
    · exact (enterAll_latches rest _).latched (hlatched.1 c hc)

end Sys2Proof.Machine
end

section
/-! The exits taken at once after an entry (TABLE 7-2), as runs of entries. -/

namespace Sys2Proof.Machine

/-! ## A run of entries seen from another state -/

theorem pathRecords_congr {s s' t t' : State} (ht : t'.shown = t.shown) {event : List Condition}
    (hs : ∀ c ∈ Condition.stepAdvanced :: .phaseEntered :: event, s'.attention.stamp c = s.attention.stamp c)
    (path : List (Position × Cause)) (left : Position) (done : List Condition) :
    pathRecords s' t' left event done path = pathRecords s t left event done path := by
  induction path generalizing left event done with
  | nil => rfl
  | cons x rest ih =>
    obtain ⟨p, k⟩ := x
    have hrest := ih (event := []) (fun c hc => hs c (by simp only [List.mem_cons, List.not_mem_nil, or_false] at hc ⊢; tauto)) p
      (entryLatches left p :: done)
    have hfilter : ((event ++ [entryLatches left p]).filter fun c => decide (s'.attention.stamp c = none ∧ c ∉ done)) =
        (event ++ [entryLatches left p]).filter fun c => decide (s.attention.stamp c = none ∧ c ∉ done) := by
      refine List.filter_congr fun c hc => ?_
      rw [hs c]
      rcases List.mem_append.1 hc with hc | hc
      · exact List.mem_cons_of_mem _ (List.mem_cons_of_mem _ hc)
      · rw [List.mem_singleton] at hc
        rcases entryLatches_cases left p with h | h <;> simp [hc, h]
    simp only [pathRecords, hrest, hfilter, traceRecord_of_shown ht]

/-- The blocks that the climate controller's part of an entry reads. -/
theorem climateEntered_congr {s s' t : State} {r : ChargeRecord} {p : Position} (h : ClimateEntered s' t r p)
    (hc : s'.climate = s.climate) (hpos : s'.schedule.position = s.schedule.position) (hd : s'.dryBulb = s.dryBulb)
    (hs : s'.straps = s.straps) : ClimateEntered s t r p := by
  unfold ClimateEntered LoopEntered at *
  rwa [hc, hpos, hd, hs] at h

/-- A run of entries that follows on what else the event did: on the records it wrote before. -/
theorem EntersPath.after {s s' t : State} {r : ChargeRecord} {before : List TraceRecord}
    {path : List (Position × Cause)} {event : List Condition} (h : EntersPath s' t r [] path event)
    (hw : s.RingBounded → s.Writes s' before) (hstill : path = [] → s'.schedule = s.schedule)
    (hsched : ∀ p, s'.schedule.entered r p = s.schedule.entered r p) (hc : s'.climate = s.climate)
    (hpos : s'.schedule.position = s.schedule.position) (hd : s'.dryBulb = s.dryBulb) (hs : s'.straps = s.straps)
    (hstamp : ∀ c ∈ Condition.stepAdvanced :: .phaseEntered :: event, s'.attention.stamp c = s.attention.stamp c) :
    EntersPath s t r before path event := by
  obtain ⟨h1, h2, h3, h4⟩ := h
  refine ⟨?_, fun x hx => climateEntered_congr (h2 x hx) hc hpos hd hs, fun hb => ?_, fun x hx => ?_⟩
  · rw [h1]
    cases hl : path.getLast? with
    | none => exact hstill (by simpa using hl)
    | some x => exact hsched x.1
  · have hall := (hw hb).trans (h3 (hw hb).bounded)
    rwa [List.nil_append, hpos, pathRecords_congr (s := s) (t := t) rfl hstamp] at hall
  · rw [← hpos]; exact h4 x hx

/-- A run of entries is so to a state that differs in what no entry touches. -/
theorem EntersPath.of_target {s t t' : State} {r : ChargeRecord} {before : List TraceRecord}
    {path : List (Position × Cause)} {event : List Condition} (h : EntersPath s t r before path event)
    (hsched : t'.schedule = t.schedule) (hc : t'.climate = t.climate) (ht : t'.trace.records = t.trace.records)
    (ha : t'.attention = t.attention) (hshown : t'.shown = t.shown) : EntersPath s t' r before path event := by
  obtain ⟨h1, h2, h3, h4⟩ := h
  refine ⟨hsched.trans h1, fun x hx => ?_, fun hb => ?_, fun x hx c hx' => ?_⟩
  · have hx' := h2 x hx
    unfold ClimateEntered LoopEntered at *
    rwa [hc]
  · rw [pathRecords_congr (s := s) (t := t) hshown fun _ _ => rfl]
    exact (h3 hb).of_target ht
  · rw [ha]; exact h4 x hx c hx'

/-! ## The exits -/

theorem onward_of_same {s u : State} (hm : u.schedule.mode = s.schedule.mode) (hd : u.dryBulb = s.dryBulb)
    (r : ChargeRecord) (p : Position) : u.onward r p = s.onward r p := by
  unfold State.onward
  rw [hm, hd]

theorem onward_of_shown {s u : State} (h : u.shown = s.shown) (r : ChargeRecord) (p : Position) :
    u.onward r p = s.onward r p := onward_of_same (mode_of_shown h) (dryBulb_of_shown h) r p

/-- The exits that follow at once on a position that stands, each with cause OWN. -/
def State.exits (s : State) (r : ChargeRecord) (p : Position) : List (Position × Cause) := (s.onward r p).map (·, .own)

theorem exits_of_held {s : State} (h : s.schedule.mode ≠ .run) (r : ChargeRecord) (p : Position) : s.exits r p = [] := by
  simp [State.exits, State.onward, h]

theorem exits_of_still (s : State) (r : ChargeRecord) {p : Position}
    (h : p ≠ .warmup ∧ p ≠ .condition ∧ p ≠ .cool) : s.exits r p = [] := by
  cases p <;> simp_all [State.exits, State.onward]

theorem testWarmup_eq {s : State} {r : ChargeRecord} (hr : s.currentRecord = some r)
    (hp : s.schedule.position = .warmup) : testWarmup s = enterAll (s.exits r .warmup) s := by
  by_cases hm : s.schedule.mode = .run
  · have hrun : s.runningAt .warmup = true := (runningAt_iff s _).2 ⟨hm, hp⟩
    unfold testWarmup State.warmupMet State.exits State.onward
    rw [hrun, hr]
    cases hst : r.stepAt 1 with
    | none => simp [hm, hst, enterAll]
    | some st =>
      cases hd : s.dryBulb with
      | none => simp [hm, hst, enterAll]
      | some db => by_cases hle : st.dryBulb - (r.warmBand : Int) ≤ db <;> simp [hm, hst, hle, enterAll]
  · have hrun : ¬s.runningAt .warmup = true := fun h => hm ((runningAt_iff s _).1 h).1
    rw [exits_of_held hm]
    simp [testWarmup, hrun, enterAll]

theorem testCool_eq {s : State} {r : ChargeRecord} (hr : s.currentRecord = some r)
    (hp : s.schedule.position = .cool) : testCool s = enterAll (s.exits r .cool) s := by
  by_cases hm : s.schedule.mode = .run
  · have hrun : s.runningAt .cool = true := (runningAt_iff s _).2 ⟨hm, hp⟩
    unfold testCool State.coolMet State.exits State.onward
    rw [hrun, hr]
    cases hd : s.dryBulb with
    | none => simp [hm, enterAll]
    | some db => by_cases hle : db ≤ r.coolEnd <;> simp [hm, hle, enterAll]
  · have hrun : ¬s.runningAt .cool = true := fun h => hm ((runningAt_iff s _).1 h).1
    rw [exits_of_held hm]
    simp [testCool, hrun, enterAll]

theorem currentRecord_enterPosition {s : State} {r : ChargeRecord} (hr : s.currentRecord = some r) (p : Position)
    (k : Cause) (cs : List Condition) : (enterPosition p k cs s).currentRecord = some r := by
  simpa [State.currentRecord] using hr

theorem position_enterPosition (p : Position) (k : Cause) (cs : List Condition) (s : State) :
    (enterPosition p k cs s).schedule.position = p := by simp [entrySchedule]

/-- The entry to COOL with its test at once. -/
theorem enterCool_eq {s : State} {r : ChargeRecord} (hr : s.currentRecord = some r) (k : Cause) (cs : List Condition) :
    testCool (enterPosition .cool k cs s) = enterAll (s.exits r .cool) (enterPosition .cool k cs s) := by
  rw [testCool_eq (currentRecord_enterPosition hr _ _ _) (position_enterPosition _ _ _ _), State.exits,
    onward_of_shown (enterPosition_shown _ _ _ _), ← State.exits]

theorem enterWarmup_eq {s : State} {r : ChargeRecord} (hr : s.currentRecord = some r) (k : Cause) (cs : List Condition) :
    testWarmup (enterPosition .warmup k cs s) = enterAll (s.exits r .warmup) (enterPosition .warmup k cs s) := by
  rw [testWarmup_eq (currentRecord_enterPosition hr _ _ _) (position_enterPosition _ _ _ _), State.exits,
    onward_of_shown (enterPosition_shown _ _ _ _), ← State.exits]

theorem testCondition_eq {s : State} {r : ChargeRecord} (hr : s.currentRecord = some r)
    (hp : s.schedule.position = .condition) :
    testCondition s =
      if s.schedule.mode = .run ∧ s.schedule.conditionTimer = 0 then enterAll ((.cool, .own) :: s.exits r .cool) s
      else s := by
  have hrun : s.runningAt .condition = true ↔ s.schedule.mode = .run := by rw [runningAt_iff]; simp [hp]
  unfold testCondition
  by_cases hm : s.schedule.mode = .run ∧ s.schedule.conditionTimer = 0
  · rw [if_pos hm, if_pos (by simp [hrun.2 hm.1, hm.2]), enterCool_eq hr]; rfl
  · rw [if_neg hm, if_neg]
    rw [Bool.and_eq_true, hrun, beq_iff_eq]; exact hm

/-- An entry outside GATHER with its test at once is the run of the entries of TABLE 7-2. -/
theorem enter_eq {s : State} {r : ChargeRecord} (hr : s.currentRecord = some r) {p : Position} (hp : p ≠ .gather)
    (k : Cause) : enter p k s = enterAll ((p, k) :: s.exits r p) s := by
  have hrec := currentRecord_enterPosition hr p k []
  have hpos := position_enterPosition p k [] s
  have hon (q : Position) : (enterPosition p k [] s).exits r q = s.exits r q := by
    rw [State.exits, onward_of_shown (enterPosition_shown _ _ _ _), ← State.exits]
  change exitsAtOnce (enterPosition p k [] s) = enterAll (s.exits r p) (enterPosition p k [] s)
  unfold exitsAtOnce
  rw [hpos]
  cases p
  case gather => exact absurd rfl hp
  case warmup => exact (testWarmup_eq hrec hpos).trans (by rw [hon])
  case cool => exact (testCool_eq hrec hpos).trans (by rw [hon])
  case condition =>
    refine (testCondition_eq hrec hpos).trans ?_
    have hm : (enterPosition .condition k [] s).schedule.mode = s.schedule.mode := mode_of_shown (enterPosition_shown _ _ _ _)
    have htimer : (enterPosition .condition k [] s).schedule.conditionTimer = r.conditionTime := by
      simp [entrySchedule, entryCondition, hr]
    rw [hon, hm, htimer]
    unfold State.exits State.onward
    by_cases hmr : s.schedule.mode = .run <;> by_cases hz : r.conditionTime = 0 <;> simp [hmr, hz, enterAll]
  all_goals rw [exits_of_still s r (by simp)]; rfl

/-- The exits taken at once lead from loops on, or to positions without them. -/
theorem steadyPath_exits (s u : State) (r : ChargeRecord) (p : Position) : s.SteadyPath p (u.exits r p) := by
  unfold State.exits State.onward
  cases p <;> dsimp only <;> repeat' split
  all_goals simp [State.SteadyPath, State.Steady, Position.isLoop]

theorem entersPath_enter {s : State} {r : ChargeRecord} (hr : s.currentRecord = some r) (hm : s.schedule.mode ≠ .safe)
    {p : Position} (hp : p ≠ .gather) (k : Cause) : EntersPath s (enter p k s) r [] ((p, k) :: s.exits r p) := by
  rw [enter_eq hr hp]
  exact entersPath_enterAll p k _ hr hm eventOrdered_nil (.inr (by simp)) (steadyPath_exits s s r p)

/-- The gather exit test, met: WARMUP and what follows it. -/
theorem testGather_eq {s : State} {r : ChargeRecord} (hr : s.currentRecord = some r) :
    testGather s =
      if s.schedule.mode = .run ∧ s.schedule.position = .gather ∧ s.schedule.gatherArmed = true ∧ s.gatherMet = true then
        enterAll ((.warmup, .own) :: s.exits r .warmup) s
      else s := by
  unfold testGather
  have hiff : (s.runningAt .gather && s.schedule.gatherArmed && s.gatherMet) = true ↔
      s.schedule.mode = .run ∧ s.schedule.position = .gather ∧ s.schedule.gatherArmed = true ∧ s.gatherMet = true := by
    rw [Bool.and_eq_true, Bool.and_eq_true, runningAt_iff, and_assoc, and_assoc]
  simp only [hiff, enterWarmup_eq hr]
  rfl

end Sys2Proof.Machine
end

section
/-! Changes of mode in detail (R130, R136, R138, R146): the climate controller, the records, the safe origin. -/

namespace Sys2Proof.Machine

theorem climateIn_of_loops {s : State} {m : Mode} (h : tableRegime m s.schedule.position = .loops) :
    s.climateIn m = { s.climate with regime := .loops, deviation := 0 } := by
  unfold State.climateIn; rw [h]

theorem climateIn_of_still {s : State} {m : Mode} (h : tableRegime m s.schedule.position ≠ .loops) :
    s.climateIn m =
      { s.climate with
        regime := tableRegime m s.schedule.position, integral := 0, heat := 0, spray := 0, deviation := 0
        vent :=
          match s.straps.role with
          | .zone => tableVent s.currentRecord (tableRegime m s.schedule.position)
          | .probe => 0 } := by
  unfold State.climateIn
  cases hg : tableRegime m s.schedule.position
  case loops => exact absurd hg h
  all_goals rfl

theorem climateMode_climate (s : State) : (climateMode s).climate = s.climateIn s.schedule.mode := by
  unfold climateMode
  by_cases h : tableRegime s.schedule.mode s.schedule.position = .loops
  · refine (judgeRegime_of_loops ?_).trans ?_
    · exact h
    · exact (climateIn_of_loops h).symm
  · refine (judgeRegime_of_still rfl ?_).trans ?_
    · exact h
    · exact (climateIn_of_still h).symm

theorem changeMode_climate (m : Mode) (cs : List Condition) (s : State) :
    (changeMode m cs s).climate = s.climateIn m := by
  simp only [changeMode, latchAll_keeps, writeTrace_keeps]
  exact climateMode_climate (s.setSchedule { s.schedule with mode := m })

/-- The records of a change of mode: the MODE record, then those of the conditions that were clear (R159). -/
theorem changeMode_writes (m : Mode) {cs : List Condition} (ho : .traceOverrun ∉ cs) {s : State} (hs : s.RingBounded) :
    s.Writes (changeMode m cs s)
      ({ s.traceRecord .mode with mode := m }
        :: ((Condition.all.filter (· ∈ cs)).filter fun c => decide (s.attention.stamp c = none)).map
          fun c => { s.traceRecord (.condition c) with mode := m }) := by
  unfold changeMode
  set s1 := climateMode (s.setSchedule { s.schedule with mode := m }) with hs1
  have hrec : ∀ kind, s1.traceRecord kind = { s.traceRecord kind with mode := m } := fun kind => by
    simp [hs1, State.traceRecord, State.pictureBasis, State.dryBulb, State.wetBulb]
  have htrace : s1.trace.records = s.trace.records := by simp [hs1]
  have hstamps : s1.attention = s.attention := by simp [hs1]
  have hb1 : s1.RingBounded := by unfold State.RingBounded at *; rwa [htrace]
  have hfirst := writeTrace_writes .mode hb1
  have hsecond := latchAll_writes cs hfirst.bounded
  have hfilter : ((Condition.all.filter (· ∈ cs)).filter fun c =>
        decide (c ≠ .traceOverrun ∧ (writeTrace .mode s1).attention.stamp c = none)) =
      (Condition.all.filter (· ∈ cs)).filter fun c => decide (s.attention.stamp c = none) := by
    refine List.filter_congr fun c hc => ?_
    have hco : c ≠ .traceOverrun := by
      rintro rfl; exact ho (by simpa using (List.mem_filter.1 hc).2)
    rw [writeTrace_stamp _ _ hco, hstamps]
    simp [hco]
  have hrec2 : ∀ kind, (writeTrace .mode s1).traceRecord kind = s1.traceRecord kind :=
    fun kind => traceRecord_eq (shown_of_eq (by simp) (by simp) (by simp) (by simp) (by simp)) (by simp) kind
  rw [hfilter] at hsecond
  have hall := (hfirst.trans hsecond).of_source htrace
  simpa only [hrec2, hrec, List.singleton_append] using hall

theorem changeMode_stamp (m : Mode) (cs : List Condition) (s : State) {c : Condition} (hc : c ≠ .traceOverrun) :
    (changeMode m cs s).attention.stamp c =
      if c ∈ cs ∧ s.attention.stamp c = none then some s.schedule.minute else s.attention.stamp c := by
  unfold changeMode
  rw [latchAll_stamp _ _ hc, writeTrace_stamp _ _ hc]
  simp

/-! ## Entry to SAFE (R136) -/

/-- The conditions that come with an entry to SAFE are SAFE alone. -/
def SafeOnly (cs : List Condition) : Prop := ∀ c ∈ cs, c = .safe

theorem enterSafe_safe {s : State} (h : s.schedule.mode = .safe) (o : SafeOrigin) (cs : List Condition) :
    enterSafe o cs s = latchAll cs s := by
  unfold enterSafe; rw [if_pos h]

theorem enterSafe_schedule {s : State} (h : s.schedule.mode ≠ .safe) (o : SafeOrigin) (cs : List Condition) :
    (enterSafe o cs s).schedule = { s.schedule with mode := .safe, safeOrigin := some o } := by
  unfold enterSafe
  rw [if_neg h, changeMode_schedule]; rfl

theorem enterSafe_latched {s : State} (h : s.schedule.mode ≠ .safe) (o : SafeOrigin) (cs : List Condition) :
    (enterSafe o cs s).attention.latched .safe = true := by
  unfold enterSafe
  rw [if_neg h]
  exact changeMode_latched _ _ _ _ List.mem_cons_self

theorem safeOnly_filter {cs : List Condition} (hcs : SafeOnly cs) :
    Condition.all.filter (· ∈ Condition.safe :: cs) = [.safe] := by
  have : ∀ c, c ∈ Condition.safe :: cs ↔ c = .safe := fun c => by
    rw [List.mem_cons]; exact ⟨fun h => h.elim id (hcs c), .inl⟩
  simp only [this]
  decide

theorem enterSafe_writes {s : State} (h : s.schedule.mode ≠ .safe) (o : SafeOrigin) {cs : List Condition}
    (hcs : SafeOnly cs) (hs : s.RingBounded) :
    s.Writes (enterSafe o cs s)
      ({ s.traceRecord .mode with mode := .safe }
        :: if s.attention.stamp .safe = none then [{ s.traceRecord (.condition .safe) with mode := .safe }] else []) := by
  unfold enterSafe
  rw [if_neg h]
  have ho : Condition.traceOverrun ∉ Condition.safe :: cs := by
    rw [List.mem_cons, not_or]
    exact ⟨by decide, fun hc => by cases hcs _ hc⟩
  have hw := changeMode_writes .safe ho (s := s.setSchedule { s.schedule with safeOrigin := some o }) hs
  rw [safeOnly_filter hcs] at hw
  refine State.Writes.of_source ?_ (s' := s.setSchedule { s.schedule with safeOrigin := some o }) rfl
  simp only [List.filter_cons, List.filter_nil, State.setSchedule_attention] at hw
  by_cases hc : s.attention.stamp .safe = none
  · simp only [hc, ↓reduceIte] at hw ⊢; exact hw
  · simp only [hc, ↓reduceIte] at hw ⊢; exact hw

theorem enterSafe_announced {s : State} (h : s.schedule.mode ≠ .safe) (o : SafeOrigin) {cs : List Condition}
    (hcs : SafeOnly cs) : SafeAnnounced s (enterSafe o cs s) := by
  refine ⟨?_, fun hs => enterSafe_writes h o hcs hs⟩
  unfold enterSafe
  rw [if_neg h]
  exact changeMode_climate .safe _ (s.setSchedule { s.schedule with safeOrigin := some o })

end Sys2Proof.Machine
end

section
/-! Power-on with the emergency input asserted, the probe front end (01), the temperature factor (02). -/

namespace Sys2Proof.Machine

theorem emergencyAssertion_eq {s : State} (h : s.pins.emergency = false) :
    emergencyAssertion s =
      enterSafe { station := s.straps.station, cause := 0x01 } [.safe]
        ((s.setPins { s.pins with emergency := true }).setBus s.bus.setSafeSlot) := by
  unfold emergencyAssertion
  simp [h, emergencyCause]

theorem enterSafe_stamp {s : State} (h : s.schedule.mode ≠ .safe) (o : SafeOrigin) (cs : List Condition) {c : Condition}
    (hc : c ≠ .traceOverrun) :
    (enterSafe o cs s).attention.stamp c =
      if c ∈ Condition.safe :: cs ∧ s.attention.stamp c = none then some s.schedule.minute else s.attention.stamp c := by
  unfold enterSafe
  rw [if_neg h, changeMode_stamp _ _ _ hc]; rfl

theorem safeOnly_safe : SafeOnly [.safe] := fun _ h => List.mem_singleton.1 h

/-- A judged attention unit in which SAFE alone is latched asserts its output at level FATAL (R161, R163). -/
theorem judged_of_safe_latched {a : Attention} (h : a.Judged) (hs : a.latched .safe = true) :
    a.output = true ∧ a.level = some .fatal := by
  obtain ⟨-, hout, hlevel⟩ := h
  constructor
  · rw [hout, Attention.outputOf, List.any_eq_true]
    exact ⟨.safe, Condition.mem_all _, by rw [hs]; rfl⟩
  · have hany : (Condition.all.any fun c => a.latched c && c.cls == .fatal) = true :=
      List.any_eq_true.2 ⟨.safe, Condition.mem_all _, by rw [hs]; rfl⟩
    rw [hlevel, Attention.levelOf, CondClass.all]
    simp only [List.find?_cons, hany]

theorem enterSafe_overrun {s : State} (h : s.schedule.mode ≠ .safe) (o : SafeOrigin) {cs : List Condition}
    (hcs : SafeOnly cs) (hshort : s.trace.records.length + 2 ≤ 512) :
    (enterSafe o cs s).attention.stamp .traceOverrun = s.attention.stamp .traceOverrun := by
  unfold enterSafe changeMode latchAll
  rw [if_neg h, safeOnly_filter hcs, List.foldl_cons, List.foldl_nil, latch_overrun _ (by decide)]
  have hb : s.RingBounded := by unfold State.RingBounded ringSize; omega
  set s2 := climateMode ((s.setSchedule { s.schedule with safeOrigin := some o }).setSchedule
    { (s.setSchedule { s.schedule with safeOrigin := some o }).schedule with mode := .safe }) with hs2
  have htrace : s2.trace.records = s.trace.records := by simp [hs2]
  have hb2 : s2.RingBounded := by unfold State.RingBounded at *; rwa [htrace]
  have hlen := (writeTrace_writes .mode hb2).length
  rw [htrace, List.length_singleton] at hlen
  have hfirst : (writeTrace .mode s2).attention.stamp .traceOverrun = s.attention.stamp .traceOverrun := by
    unfold writeTrace
    rw [writeRecord_overrun, htrace, if_neg (by omega)]
    simp [hs2]
  rw [if_neg (by omega), hfirst]

/-- Settles O7: the values of power-on, then one assertion of the emergency input. -/
theorem powerOnWithEmergencyEntersSafe : Obligations.PowerOnWithEmergencyEntersSafe := by
  intro station kiln role fan s h1 h32 hk
  refine ⟨_, exec_powerOn_of_settings h1 h32 hk role true fan s, ?_⟩
  set s1 := startCalSweep (powerOnValues { station, kiln, role } fan s) with hs1
  set s2 := (s1.setPins { s1.pins with emergency := true }).setBus s1.bus.setSafeSlot with hs2
  set t := enterSafe { station, cause := 0x01 } [.safe] s2 with ht
  have heq : powerOn { station, kiln, role } true fan s = t := emergencyAssertion_eq (s := s1) rfl
  rw [heq]
  have hmode : s2.schedule.mode ≠ .safe := by simp [hs2, hs1, startCalSweep, powerOnValues, Schedule.atPowerOn]
  have hsched : t.schedule = _ := enterSafe_schedule hmode _ _
  obtain ⟨hclimate, hwrites⟩ := enterSafe_announced hmode { station, cause := 0x01 } safeOnly_safe
  have hempty : s2.trace.records = [] := rfl
  have hclear : ∀ c, s2.attention.stamp c = none := atPowerOn_stamp
  have hrecords : t.trace.records =
      [{ s2.traceRecord .mode with mode := .safe }, { s2.traceRecord (.condition .safe) with mode := .safe }] := by
    have hw := hwrites (Nat.zero_le _)
    unfold State.Writes at hw
    rw [ht]
    simpa [hempty, hclear] using hw
  have hlatched : t.attention.latched .safe = true := enterSafe_latched hmode _ _
  have hjudged : t.attention.Judged := (enterSafe_latches _ _ s2).judged atPowerOn_judged
  have hstill : s2.climateIn .safe = _ := climateIn_of_still (by simp [tableRegime])
  rw [hstill] at hclimate
  obtain ⟨hout, hlevel⟩ := judged_of_safe_latched hjudged hlatched
  refine ⟨by simp [ht, hs2, hs1, startCalSweep, powerOnValues], by rw [hsched], by rw [hsched]; rfl, by rw [hsched],
    by simp [ht, hs2, hs1, startCalSweep, powerOnValues]; rfl, by simp [ht, hs2, hs1, startCalSweep, powerOnValues]; rfl,
    fun c => ?_, hout, hlevel, by rw [hrecords]; rfl, by rw [ht, hclimate]; rfl, by rw [ht, hclimate],
    by rw [ht, hclimate], by rw [ht, hclimate]; cases role <;> rfl, by simp [ht, hs2, hs1, startCalSweep, powerOnValues],
    by simp [ht, hs2, hs1, startCalSweep, powerOnValues]⟩
  by_cases hc : c = .traceOverrun
  · subst hc
    rw [if_neg (by decide), ht, enterSafe_overrun hmode _ safeOnly_safe (by rw [hempty]; decide), hclear]
  · rw [ht, enterSafe_stamp hmode _ _ hc, hclear]
    simp only [List.mem_cons, List.not_mem_nil, or_false, or_self, and_true]
    rfl

/-! ## Probe front end (01) -/

/-- Settles O8: a window that runs stores its saturated sample, and the next begins where there is one. -/
theorem windowEndStoresSample : Obligations.WindowEndStoresSample := by
  intro grade s windows hsweep hlen
  have hwindows : s.frontEnd.sweep.windows = windows := by
    rcases hsweep with ⟨h, rfl⟩ | ⟨h, rfl⟩ <;> rw [h] <;> rfl
  have hsat : saturate grade = if grade < 300 then 300 else if 1400 < grade then 1400 else grade := by
    unfold saturate; split <;> [omega; (split <;> omega)]
  change Host.Outcome.next (measurementWindowEnd grade s) = _
  unfold measurementWindowEnd FrontEnd.windowRuns FrontEnd.windowEnd
  rw [hwindows, if_pos (decide_eq_true hlen), hsat]
  have hnext : (s.frontEnd.samples.length + 1 < windows) = ¬(s.frontEnd.samples.length + 1 = windows) := by
    rw [eq_iff_iff]; omega
  by_cases hlast : s.frontEnd.samples.length + 1 = windows <;> simp [hnext, hlast, halfSecond]

theorem calibrationOk_iff (a b c d e f g h : Nat) :
    calibrationOk [a, b, c, d, e, f, g, h] = true ↔
      (675 ≤ (a + b + c + d + 2) / 4 ∧ (a + b + c + d + 2) / 4 ≤ 725)
        ∧ (975 ≤ (e + f + g + h + 2) / 4 ∧ (e + f + g + h + 2) / 4 ≤ 1025)
        ∧ max (max a b) (max c d) - min (min a b) (min c d) ≤ 16
        ∧ max (max e f) (max g h) - min (min e f) (min g h) ≤ 16 := by
  have hlow : lowSamples [a, b, c, d, e, f, g, h] = [a, b, c, d] := rfl
  have hhigh : highSamples [a, b, c, d, e, f, g, h] = [e, f, g, h] := rfl
  unfold calibrationOk
  rw [hlow, hhigh, meanOfFour_four, meanOfFour_four, spreadOf_four, spreadOf_four]
  simp only [Bool.and_eq_true, inRange, decide_eq_true_eq, and_assoc]

/-- The figures of a calibration sweep's eight samples. -/
theorem calibration_means {samples : List Nat} {a b c d e f g h : Nat} (hs : samples = [a, b, c, d, e, f, g, h]) :
    meanOfFour (lowSamples samples) = (a + b + c + d + 2) / 4
      ∧ meanOfFour (highSamples samples) = (e + f + g + h + 2) / 4 := by
  subst hs
  exact ⟨meanOfFour_four a b c d, meanOfFour_four e f g h⟩

/-- Settles O9: a sweep that succeeds takes its own means as the pair, and nothing after it touches the record written. -/
theorem calibrationSucceeds : Obligations.CalibrationSucceeds := by
  intro s a b c d e f g h hsweep hsamples h1 h2 h3 h4 h5 h6
  have hok : calibrationOk s.frontEnd.samples = true := by
    rw [hsamples, calibrationOk_iff]; exact ⟨⟨h1, h2⟩, ⟨h3, h4⟩, h5, h6⟩
  have hdone : s.frontEnd.sweepDone .calSweep = true := by
    simp [FrontEnd.sweepDone, hsweep, hsamples, SweepState.windows]
  obtain ⟨hlo, hhi⟩ := calibration_means hsamples
  have heq : calibrationSweepComplete s =
      startProbeSweep (writeTrace (.calibration true ((a + b + c + d + 2) / 4) ((e + f + g + h + 2) / 4))
        (s.setFrontEnd s.frontEnd.calibrated)) := by
    simp only [calibrationSweepComplete, hdone, hok, hlo, hhi, if_true]
  refine ⟨_, rfl, ?_⟩
  rw [heq]
  refine ⟨?_, writeTrace_getLast _ _, ?_⟩
  · simp [startProbeSweep, FrontEnd.calibrated, hok, hlo, hhi, halfSecond, calibrationInterval, seconds,
      State.sweepInterval, State.currentRecord, Nat.mul_comm]
  · simp [onlyChanges_iff, startProbeSweep]

theorem remarkReadings_eq (s : State) :
    remarkReadings s =
      s.setReadings (s.readings.map fun r => { r with mc := none, flags := { r.flags with invalid := true } }) := rfl

/-- Whatever an event writes after a record leaves that record in the ring, since it is the newest. -/
theorem latch_keeps_last (c : Condition) {s : State} {r : TraceRecord} (h : s.trace.records.getLast? = some r) :
    r ∈ (latch c s).trace.records := by
  obtain ⟨xs, hxs⟩ := List.getLast?_eq_some_iff.1 h
  unfold latch
  split
  · rw [hxs]; simp
  · dsimp only
    split
    · simp [hxs]
    · unfold writeTrace writeRecord
      split
      · simp [hxs]
      next hfull =>
        cases xs with
        | nil => simp [hxs, ringSize] at hfull
        | cons x xs => simp [hxs]

/-- Settles O10: a sweep that fails keeps the pair, and its record is the newest when REFERENCE FAULT is latched. -/
theorem calibrationFails : Obligations.CalibrationFails := by
  intro s a b c d e f g h hsweep hsamples hbad
  have hok : calibrationOk s.frontEnd.samples = false := by
    rw [Bool.eq_false_iff, hsamples, Ne, calibrationOk_iff]; omega
  have hdone : s.frontEnd.sweepDone .calSweep = true := by
    simp [FrontEnd.sweepDone, hsweep, hsamples, SweepState.windows]
  obtain ⟨hlo, hhi⟩ := calibration_means hsamples
  set s1 := remarkReadings (s.setFrontEnd s.frontEnd.calibrated) with hs1
  set s2 := writeTrace (.calibration false ((a + b + c + d + 2) / 4) ((e + f + g + h + 2) / 4)) s1 with hs2
  have heq : calibrationSweepComplete s = startProbeSweep (latch .referenceFault s2) := by
    simp only [calibrationSweepComplete, hdone, hok, hlo, hhi, if_true]; rfl
  refine ⟨_, rfl, ?_⟩
  rw [heq]
  refine ⟨?_, ?_, latch_latched _ _, latch_keeps_last _ (writeTrace_getLast _ _), ?_⟩
  · simp [startProbeSweep, hs2, hs1, remarkReadings, FrontEnd.calibrated, hok, halfSecond, calibrationInterval, seconds,
      State.sweepInterval, State.currentRecord, Nat.mul_comm]
  · simp [startProbeSweep, hs2, hs1, remarkReadings_eq]
  · simp [onlyChanges_iff, startProbeSweep, hs2, hs1, remarkReadings]

theorem convertSweep_eq (inp : ConversionInputs) {samples : List Nat} (h : samples.length = 32) :
    convertSweep inp samples =
      [convertChannel inp 1 (samples.take 4), convertChannel inp 2 ((samples.drop 4).take 4),
        convertChannel inp 3 ((samples.drop 8).take 4), convertChannel inp 4 ((samples.drop 12).take 4),
        convertChannel inp 5 ((samples.drop 16).take 4), convertChannel inp 6 ((samples.drop 20).take 4),
        convertChannel inp 7 ((samples.drop 24).take 4), convertChannel inp 8 (samples.drop 28)] := by
  have hlast : (samples.drop 28).take 4 = samples.drop 28 := List.take_of_length_le (by simp [h])
  simp [convertSweep, List.range, List.range.loop, hlast]

theorem OnlyChanges.mono {blocks more : List Block} {s t : State} (h : OnlyChanges blocks s t) (hsub : blocks ⊆ more) :
    OnlyChanges more s t := fun b hb => h b fun hm => hb (hsub hm)

theorem sweepDone_of {f : FrontEnd} {k : SweepState} (h : f.sweep = k) (hl : f.samples.length = k.windows) :
    f.sweepDone k = true := by simp [FrontEnd.sweepDone, h, hl]

/-- A report is built from no block that a probe sweep's end changes after the picture has been judged. -/
theorem reportData_of_same {s t : State} (h1 : t.straps = s.straps) (h2 : t.store = s.store)
    (h3 : t.schedule = s.schedule) (h4 : t.readings = s.readings) (h5 : t.picture = s.picture)
    (h6 : t.sensors = s.sensors) : t.reportData = s.reportData := by
  simp [State.reportData, State.currentNumber, State.currentCheck, State.currentRecord, State.cannotMeasure,
    State.pictureBasis, State.dryBulb, State.reportedReadings, State.channelInUse, h1, h2, h3, h4, h5, h6]

/-- Settles O11: the parts of R75 in their order, each read off the blocks it changes. -/
theorem probeSweepCompletes : Obligations.ProbeSweepCompletes := by
  intro s hsweep hlen h1 h32
  set s1 := judgePicture (latchPictureShort (buildPicture (convertReadings s))) with hs1
  have heq : probeSweepComplete s = leaveProbeSweep (writeOwnEntry s1) := by
    simp only [probeSweepComplete, sweepDone_of hsweep hlen, if_true, hs1]
  have hreadings : s1.readings = convertSweep s.conversionInputs s.frontEnd.samples := by
    simp [hs1, convertReadings, buildPicture]
  have hpicture : s1.picture =
      some (pictureOf s.currentRecord (s.setReadings (convertSweep s.conversionInputs s.frontEnd.samples)).accepted) := by
    simp [hs1, convertReadings, buildPicture, State.currentRecord]
  have hfe : s1.frontEnd = s.frontEnd := by simp [hs1, convertReadings, buildPicture]
  have hstraps : s1.straps = s.straps := by simp [hs1, convertReadings, buildPicture]
  have hpeers : s1.peers = s.peers := by simp [hs1, convertReadings, buildPicture]
  have hleave : ∀ u : State, (leaveProbeSweep u).readings = u.readings ∧ (leaveProbeSweep u).picture = u.picture
      ∧ (leaveProbeSweep u).peers = u.peers ∧ (leaveProbeSweep u).reportData = u.reportData := fun u => by
    unfold leaveProbeSweep startCalSweep
    split <;> exact ⟨rfl, rfl, rfl, rfl⟩
  refine ⟨_, rfl, ?_⟩
  rw [heq]
  obtain ⟨hr, hp, hpe, hd⟩ := hleave (writeOwnEntry s1)
  have hread : (writeOwnEntry s1).readings = convertSweep s.conversionInputs s.frontEnd.samples := hreadings
  refine ⟨?_, ?_, ?_, fun n hn => ?_, ?_, ?_, ?_⟩
  · rw [hr, hread, convertSweep_eq _ hlen]
  · rw [hp, hr, hread]; exact hpicture
  · rw [hpe, hd, ← hstraps]
    simp only [writeOwnEntry, State.setPeers_peers, setEntry_entry, hstraps, h1, h32, and_self, if_true]
    rfl
  · rw [hpe]
    simp [writeOwnEntry, setEntry_entry, hstraps, hn, hpeers]
  · rw [hpe]
    simp only [writeOwnEntry, State.setPeers_peers, PeerTable.setEntry]
    split <;> rw [hpeers]
  · unfold leaveProbeSweep
    simp only [writeOwnEntry, State.setPeers_frontEnd, hfe]
    split <;> simp [startCalSweep, hfe, halfSecond]
  · have hsame : OnlyChanges [.frontEnd] (writeOwnEntry s1) (leaveProbeSweep (writeOwnEntry s1)) := by
      unfold leaveProbeSweep startCalSweep
      split <;> simp [onlyChanges_iff]
    refine OnlyChanges.trans (OnlyChanges.mono ?_ (blocks := [.readings, .picture, .peers, .schedule, .climate, .trace, .attention])
      (by simp)) (hsame.mono (by simp))
    simp [onlyChanges_iff, writeOwnEntry, hs1, convertReadings, buildPicture]

/-- Settles O12: each timer's expiry by the sweep state. -/
theorem sweepTimersExpire : Obligations.SweepTimersExpire := by
  intro s
  refine ⟨fun h => ⟨?_, ?_⟩, fun h => ?_, fun h => ?_⟩
  · change Host.Outcome.next (sweepIntervalExpiry s) = _
    simp [sweepIntervalExpiry, h, startProbeSweep, halfSecond, seconds, State.sweepInterval, Nat.mul_comm]
  · change Host.Outcome.next (calibrationTimerExpiry s) = _
    simp [calibrationTimerExpiry, requestCalibration, h, startCalSweep, halfSecond, State.setFrontEnd]
  · change Host.Outcome.next (sweepIntervalExpiry s) = _
    simp [sweepIntervalExpiry, h]
  · change Host.Outcome.next (calibrationTimerExpiry s) = _
    cases hs : s.frontEnd.sweep <;> simp_all [calibrationTimerExpiry, requestCalibration, State.setFrontEnd]

/-! ## The temperature factor and the moisture value (02) -/

theorem tempFactor_eq (coeff : Nat) (t : Int) :
    tempFactor coeff t = max 2500 (min 15000 (10000 - halfAway ((coeff : Int) * (t - 200)) 10)) := rfl

theorem halfAway_zero_ten : halfAway 0 10 = 0 := by decide

/-- Settles O16: the clamps of R32 and R33, by the side of the bound on which the figure lies. -/
theorem factorAndValueClamped : Obligations.FactorAndValueClamped := by
  refine ⟨fun coeff t plain hplain => ?_, fun mcRaw f => ?_⟩
  · have hzero : tempFactor 0 t = 10000 := by simp [tempFactor_eq, halfAway_zero_ten]
    have hmid : tempFactor coeff 200 = 10000 := by simp [tempFactor_eq, halfAway_zero_ten]
    rw [tempFactor_eq coeff t, ← hplain]
    exact ⟨fun _ => by omega, fun _ _ => by omega, fun _ => by omega, by omega, by omega, hzero, hmid⟩
  · have hnat : ((mcRaw : Int) * (f : Int)).toNat = mcRaw * f := by
      rw [← Int.natCast_mul]; exact Int.toNat_natCast _
    unfold moistureOf halfUp
    rw [hnat]
    exact ⟨fun _ => by omega, fun _ => by omega⟩

end Sys2Proof.Machine
end

section
/-! Hold timers, the deviation limit, fan reversals (01, 09), and the schedule controller's own timers (07, 11). -/

namespace Sys2Proof.Machine

/-! ## Loss of a sensor (R17, R153, R154) -/

theorem dryBulbLoss_eq (s : State) :
    dryBulbLoss s =
      (remarkReadings s).setClimate
        (if s.straps.role = .zone then { s.climate with heat := 0, integral := 0, deviation := 0 }
        else { s.climate with deviation := 0 }) := by
  unfold dryBulbLoss
  cases h : s.straps.role <;> simp [remarkReadings]

theorem wetBulbLoss_climate (s : State) :
    (wetBulbLoss s).climate =
      if s.straps.role = .zone ∧ s.climate.regime = .loops then { s.climate with vent := 0, spray := 0 }
      else s.climate := by
  unfold wetBulbLoss
  cases hrole : s.straps.role <;> cases hreg : s.climate.regime <;> simp

/-- Settles O19: each sensor's loss, in the two roles. -/
theorem holdTimerLosesSensor : Obligations.HoldTimerLosesSensor := by
  intro s
  constructor
  · intro h
    set s1 := s.setSensors { s.sensors with dry := { s.sensors.dry with state := .lost, holdTimer := 0 } } with hs1
    have heq : holdTimerExpiry .dryBulb s = latchAll (dryBulbLossConditions s) (dryBulbLoss s1) := by
      simp only [holdTimerExpiry, h, if_true]; rfl
    refine ⟨_, rfl, ?_⟩
    rw [heq]
    refine ⟨by simp [dryBulbLoss_eq, hs1, remarkReadings], by simp [dryBulbLoss_eq, hs1, remarkReadings_eq],
      fun hz => ⟨?_, ?_⟩, fun hp => ⟨?_, ?_⟩, ?_⟩
    · simp [dryBulbLoss_eq, hs1, hz]
    · exact latchAll_latched _ _ _ (by simp [dryBulbLossConditions, hz])
    · simp [dryBulbLoss_eq, hs1, hp]
    · simp [dryBulbLossConditions, hp, dryBulbLoss_eq, hs1, remarkReadings]
    · simp [onlyChanges_iff, dryBulbLoss_eq, hs1, remarkReadings]
  · intro h
    set s1 := s.setSensors { s.sensors with wet := { s.sensors.wet with state := .lost, holdTimer := 0 } } with hs1
    have heq : holdTimerExpiry .wetBulb s = wetBulbLoss s1 := by
      simp only [holdTimerExpiry, h, if_true]; rfl
    refine ⟨_, rfl, ?_⟩
    rw [heq]
    exact ⟨by simp [hs1], wetBulbLoss_climate s1, by simp [onlyChanges_iff, hs1]⟩

/-- Settles O20: the count is in force, so the row sets it to the limit and latches. -/
theorem deviationLimitLatches : Obligations.DeviationLimitLatches := by
  intro s r hr hrole hmode hstate hpos hdev
  have hjudge : s.schedule.position.judgesDeviation = true := by
    obtain ⟨k, hk⟩ | hk | hk := hpos <;> rw [hk] <;> rfl
  have hforce : s.deviationInForce = true := by
    simp [State.deviationInForce, hrole, hmode, hstate, hjudge]
  have heq : deviationLimit s =
      latch .climateDeviation (s.setClimate { s.climate with deviation := 15 * r.deviationTime }) := by
    simp [deviationLimit, hr, hforce, deviationLimitOf, hdev]
  refine ⟨_, rfl, ?_⟩
  rw [heq]
  exact ⟨by simp, latch_latched _ _, by simp [onlyChanges_iff]⟩

/-! ## Fan reversals (R115, R151) -/

theorem startSettle_climate (s : State) :
    (startSettle s).climate =
      if s.straps.role = .zone then
        { s.climate with settleTimer := 19200 * (s.currentRecord.map (·.settleWindow)).getD 0 }
      else s.climate := by
  unfold startSettle
  cases s.straps.role <;> simp [seconds, Nat.mul_comm]

theorem currentStep_eq {s : State} {k : Nat} {r : ChargeRecord} (hp : s.schedule.position = .drying k)
    (hr : s.currentRecord = some r) : s.currentStep = r.stepAt k := by
  simp [State.currentStep, hp, hr]

theorem currentStep_none {s : State} (h : ∀ k, s.schedule.position ≠ .drying k) : s.currentStep = none := by
  unfold State.currentStep
  split
  next k hk => exact absurd hk (h k)
  next => rfl

theorem countReversal_still {s : State} (h : ∀ st, s.currentStep = some st → st.basis = .reversals → s.schedule.mode ≠ .run) :
    countReversal s = s := by
  unfold countReversal
  split
  next st hst => exact if_neg fun hc => h st hst hc.1 hc.2
  next => rfl

/-- Settles O21: the reversal at the schedule controller, then at the climate controller. -/
theorem fanReversalCountsAndSettles : Obligations.FanReversalCountsAndSettles := by
  intro s
  refine ⟨⟨_, rfl, ?_⟩, rfl⟩
  set s1 := s.setPins { s.pins with fan := !s.pins.fan } with hs1
  have hstep : s1.currentStep = s.currentStep := rfl
  have hstill (h : countReversal s1 = s1) : (fanReversal s).schedule = s.schedule := by
    change (startSettle (countReversal s1)).schedule = s.schedule
    rw [h]; simp [hs1]
  refine ⟨by simp [fanReversal], fun k r st hp hr hst hb hm => ?_, fun hm => ?_, fun hp => ?_, fun k r st hp hr hst hb => ?_,
    ?_, by simp [onlyChanges_iff]⟩
  · change (startSettle (countReversal s1)).schedule = _
    have hcount : countReversal s1 = s1.setSchedule { s.schedule with stepTimer := s.schedule.stepTimer - 1 } := by
      unfold countReversal
      rw [hstep, currentStep_eq hp hr, hst]
      exact if_pos ⟨hb, hm⟩
    rw [hcount]; simp
  · exact hstill (countReversal_still fun _ _ _ => hm)
  · exact hstill (countReversal_still fun st hst => by rw [hstep, currentStep_none hp] at hst; cases hst)
  · refine hstill (countReversal_still fun st' hst' hb' => ?_)
    rw [hstep, currentStep_eq hp hr, hst] at hst'
    cases hst'
    simp [hb] at hb'
  · change (startSettle (countReversal s1)).climate = _
    rw [startSettle_climate]
    simp [hs1, State.currentRecord]

/-! ## The schedule controller's timers (R112, R114, R116, R119, R170) -/

theorem overtimeMaximum_eq {s : State} {r : ChargeRecord} (hr : s.currentRecord = some r) {most : Nat}
    (h : (∃ k st, s.schedule.position = .drying k ∧ r.stepAt k = some st ∧ most = st.maximum)
      ∨ s.schedule.position = .equalize ∧ most = r.equalizeMaximum) : s.overtimeMaximum = some most := by
  unfold State.overtimeMaximum
  obtain ⟨k, st, hp, hst, rfl⟩ | ⟨hp, rfl⟩ := h
  · simp [hp, currentStep_eq hp hr, hst]
  · simp [hp, hr]

theorem takeSnapshot_timer (s : State) :
    (takeSnapshot s).trace.snapshotTimer = (s.currentRecord.map (·.traceInterval)).getD 0 := by simp [takeSnapshot]

theorem takeSnapshot_records (s : State) : (takeSnapshot s).trace.records = (writeTrace .snapshot s).trace.records := by
  simp [takeSnapshot]

/-- Settles O45: each timer's row, by the mode and the position. -/
theorem stepAndSnapshotTimersExpire : Obligations.StepAndSnapshotTimersExpire := by
  intro s
  refine ⟨fun hm => ⟨?_, ?_⟩, fun hp => ?_, fun r hr => ⟨fun k hp hm => ?_, fun k st most hm hpos hlt => ?_, fun hp => ?_⟩⟩
  · change Host.Outcome.next (stepTimerExpiry s) = _
    unfold stepTimerExpiry
    split
    next hrun => exact absurd hrun hm
    next => rfl
  · change Host.Outcome.next (overtimeLimit s) = _
    unfold overtimeLimit
    split
    · rw [if_neg fun h => hm h.1]
    · rfl
  · change Host.Outcome.next (snapshotTimerExpiry s) = _
    unfold snapshotTimerExpiry
    rw [if_pos hp]
  · change Host.Outcome.next (stepTimerExpiry s) = _
    unfold stepTimerExpiry
    rw [hp, hm]
  · have hmost : s.overtimeMaximum = some most := overtimeMaximum_eq hr (by
      obtain ⟨hp, hst, hmax⟩ | h := hpos
      · exact .inl ⟨k, st, hp, hst, hmax⟩
      · exact .inr h)
    have heq : overtimeLimit s = latch .stepOvertime (s.setSchedule { s.schedule with overtime := most }) := by
      simp [overtimeLimit, hmost, hm, hlt]
    refine ⟨_, rfl, ?_⟩
    rw [heq]
    refine ⟨by simp, ?_, by simp [onlyChanges_iff]⟩
    rw [latch_stamp_self _ _ (by decide)]
    cases hst : s.attention.stamp .stepOvertime <;> simp [hst]
  · have heq : snapshotTimerExpiry s = takeSnapshot s := if_neg hp
    refine ⟨_, rfl, ?_⟩
    rw [heq]
    refine ⟨?_, by rw [takeSnapshot_timer, hr]; rfl, by simp [onlyChanges_iff]⟩
    rw [takeSnapshot_records]
    exact writeTrace_getLast _ _

/-- Settles O46: each expiry is an entry with its test at once, seen from the state before the timer stopped. -/
theorem phaseTimersExpire : Obligations.PhaseTimersExpire := by
  intro s r hr hm
  have hsafe : s.schedule.mode ≠ .safe := by rw [hm]; decide
  refine ⟨fun hp => ⟨_, rfl, ?_, by simp [onlyChanges_iff]⟩, fun hp => ⟨_, rfl, ?_, by simp [onlyChanges_iff]⟩⟩
  · have heq : gatherTimerExpiry s = enterAll (s.exits r .warmup) (enterPosition .warmup .own [.rosterShort] s) := by
      unfold gatherTimerExpiry
      rw [if_pos ((runningAt_iff s _).2 ⟨hm, hp⟩), enterWarmup_eq hr]
    rw [heq]
    exact entersPath_enterAll .warmup .own _ hr hsafe eventOrdered_rosterShort (.inr (by decide))
      (steadyPath_exits s s r .warmup)
  · set s1 := s.setSchedule { s.schedule with conditionTimer := 0 } with hs1
    have heq : conditionTimerExpiry s = enterAll ((.cool, .own) :: s1.exits r .cool) s1 := by
      unfold conditionTimerExpiry
      rw [if_pos ((runningAt_iff s _).2 ⟨hm, hp⟩), testCondition_eq (s := s1) hr hp, if_pos ⟨hm, rfl⟩]
    rw [heq]
    have hpath := entersPath_enterAll (s := s1) .cool .own (s1.exits r .cool) hr hsafe eventOrdered_nil (.inr (by simp))
      (steadyPath_exits s1 s1 r .cool)
    exact hpath.after (fun hb => State.Writes.nil hb rfl) (by simp) (fun _ => rfl) rfl rfl rfl rfl fun _ _ => rfl

end Sys2Proof.Machine
end

section
/-! The control period (R147): sampling, the loops, the deviation count, the exits. -/

namespace Sys2Proof.Machine

/-! ## The sampling (R14, R15, R17) -/

theorem sampleValid_iff (v : Int) : sampleValid v = true ↔ -400 ≤ v ∧ v ≤ 1300 := by simp [sampleValid]

theorem faults_iff (c : SensorChannel) (v : Int) :
    c.faults v = true ↔ ¬(-400 ≤ v ∧ v ≤ 1300) ∧ (c.state = .awaiting ∨ c.state = .valid) := by
  rw [← sampleValid_iff]; simp [SensorChannel.faults]

theorem loses_iff (c : SensorChannel) (v : Int) :
    c.loses v = true ↔ ¬(-400 ≤ v ∧ v ≤ 1300) ∧ c.state = .awaiting := by
  rw [← sampleValid_iff]; simp [SensorChannel.loses]

theorem sampled_eq (c : SensorChannel) (v : Int) :
    c.sampled v =
      if -400 ≤ v ∧ v ≤ 1300 then { state := .valid, lastValid := some v, holdTimer := 0 }
      else match c.state with
        | .awaiting => { c with state := .lost }
        | .valid => { c with state := .holding, holdTimer := 11520000 }
        | .holding | .lost => c := by
  unfold SensorChannel.sampled
  by_cases h : -400 ≤ v ∧ v ≤ 1300
  · rw [if_pos h, if_pos ((sampleValid_iff v).2 h)]
  · rw [if_neg h, if_neg fun hv => h ((sampleValid_iff v).1 hv)]; rfl

/-- The value available after a sample. -/
theorem sampled_available (c : SensorChannel) (v : Int) :
    (c.sampled v).available =
      if -400 ≤ v ∧ v ≤ 1300 then some v
      else if c.state = .valid ∨ c.state = .holding then c.lastValid else none := by
  rw [sampled_eq]
  by_cases h : -400 ≤ v ∧ v ≤ 1300
  · rw [if_pos h, if_pos h]; rfl
  · rw [if_neg h, if_neg h]
    cases hs : c.state <;> simp [SensorChannel.available, hs]

/-- Only a valid sample leaves a sensor VALID. -/
theorem sampled_valid_iff (c : SensorChannel) (v : Int) : (c.sampled v).state = .valid ↔ -400 ≤ v ∧ v ≤ 1300 := by
  rw [sampled_eq]
  by_cases h : -400 ≤ v ∧ v ≤ 1300
  · simp [h]
  · rw [if_neg h]
    cases hs : c.state <;> simp [h, hs]

/-- The sensors, the readings and the climate controller once both samples are taken. -/
def sampledState (dry wet : Int) (s : State) : State :=
  sampleWet wet (sampleDry dry (s.setSensors { s.sensors with controlTimer := controlTime }))

theorem sampleWet_sensors (v : Int) (s : State) :
    (sampleWet v s).sensors =
      { s.sensors with wet := if s.straps.role = .probe then s.sensors.wet else s.sensors.wet.sampled v } := by
  unfold sampleWet
  split
  next h => dsimp only; split <;> simp [h]
  next h => simp [h]

theorem sampledState_sensors (dry wet : Int) (s : State) :
    (sampledState dry wet s).sensors =
      { controlTimer := controlTime, dry := s.sensors.dry.sampled dry
        wet := if s.straps.role = .probe then s.sensors.wet else s.sensors.wet.sampled wet } := by
  have hdry (u : State) : (sampleDry dry u).sensors = { u.sensors with dry := u.sensors.dry.sampled dry } := by
    unfold sampleDry; dsimp only; split <;> simp
  unfold sampledState
  rw [sampleWet_sensors, hdry]
  simp

theorem sampledState_readings (dry wet : Int) (s : State) :
    (sampledState dry wet s).readings =
      if ¬(-400 ≤ dry ∧ dry ≤ 1300) ∧ s.sensors.dry.state = .awaiting then
        s.readings.map (fun r => { r with mc := none, flags := { r.flags with invalid := true } })
      else s.readings := by
  unfold sampledState
  simp only [sampleWet_keeps, sampleDry, ← loses_iff, State.setSensors_sensors]
  by_cases hl : s.sensors.dry.loses dry = true <;> simp [hl, dryBulbLoss_eq, remarkReadings_eq]

/-- What the sampling leaves of the climate controller: the zeros of the losses (R153, R154). -/
theorem sampledState_climate (dry wet : Int) (s : State) :
    (sampledState dry wet s).climate =
      { s.climate with
        heat := if s.straps.role = .zone ∧ s.sensors.dry.loses dry then 0 else s.climate.heat
        integral := if s.straps.role = .zone ∧ s.sensors.dry.loses dry then 0 else s.climate.integral
        vent := if s.straps.role = .zone ∧ s.climate.regime = .loops ∧ s.sensors.wet.loses wet then 0 else s.climate.vent
        spray :=
          if s.straps.role = .zone ∧ s.climate.regime = .loops ∧ s.sensors.wet.loses wet then 0 else s.climate.spray
        deviation := if s.sensors.dry.loses dry then 0 else s.climate.deviation } := by
  have hdry (u : State) : (sampleDry dry u).climate =
      { u.climate with
        heat := if u.straps.role = .zone ∧ u.sensors.dry.loses dry then 0 else u.climate.heat
        integral := if u.straps.role = .zone ∧ u.sensors.dry.loses dry then 0 else u.climate.integral
        deviation := if u.sensors.dry.loses dry then 0 else u.climate.deviation } := by
    unfold sampleDry
    cases hl : u.sensors.dry.loses dry
    · simp
    · by_cases hz : u.straps.role = .zone <;> simp [hz, dryBulbLoss_eq]
  have hwet (u : State) : (sampleWet wet u).climate =
      { u.climate with
        vent := if u.straps.role = .zone ∧ u.climate.regime = .loops ∧ u.sensors.wet.loses wet then 0 else u.climate.vent
        spray :=
          if u.straps.role = .zone ∧ u.climate.regime = .loops ∧ u.sensors.wet.loses wet then 0 else u.climate.spray } := by
    unfold sampleWet
    cases hrole : u.straps.role
    · simp
    · cases hl : u.sensors.wet.loses wet
      · simp
      · by_cases hreg : u.climate.regime = .loops <;> simp [hreg, wetBulbLoss_climate, hrole]
  have hsens (u : State) : (sampleDry dry u).sensors.wet = u.sensors.wet := by
    unfold sampleDry; dsimp only; split <;> simp
  unfold sampledState
  rw [hwet, hsens, hdry]
  by_cases hz : s.straps.role = .zone <;> by_cases hreg : s.climate.regime = .loops <;> simp [hz, hreg] <;> rfl

/-- `sampledState` changes no block but `sensors`, `readings`, `climate`. -/
@[simp] theorem sampledState_keeps (dry wet : Int) (s : State) :
    (sampledState dry wet s).straps = s.straps ∧ (sampledState dry wet s).picture = s.picture
      ∧ (sampledState dry wet s).store = s.store ∧ (sampledState dry wet s).schedule = s.schedule
      ∧ (sampledState dry wet s).attention = s.attention ∧ (sampledState dry wet s).trace = s.trace := by
  simp [sampledState]

/-- The conditions that a sampling latches, in the order of TABLE 10-1. -/
def sampleConditions (dry wet : Int) (s : State) : List Condition :=
  (if s.straps.role = .zone ∧ s.sensors.wet.faults wet then [.wetBulbFault] else [])
    ++ (if s.straps.role = .zone ∧ s.sensors.dry.loses dry then [.heatCutoff] else [])
    ++ (if s.sensors.dry.faults dry then [.temperatureFault] else [])

theorem filter_sampleConditions (dry wet : Int) (s : State) :
    Condition.all.filter (· ∈ dryConditions dry s ++ wetConditions wet s) = sampleConditions dry wet s := by
  unfold sampleConditions dryConditions wetConditions dryBulbLossConditions
  cases s.straps.role <;> cases s.sensors.dry.faults dry <;> cases s.sensors.dry.loses dry <;>
    cases s.sensors.wet.faults wet <;> decide

theorem samplePeriod_eq (dry wet : Int) (s : State) :
    samplePeriod dry wet (s.setSensors { s.sensors with controlTimer := controlTime }) =
      latchAll (dryConditions dry s ++ wetConditions wet s) (sampledState dry wet s) := rfl

theorem mem_sampleConditions (dry wet : Int) (s : State) (c : Condition) :
    c ∈ dryConditions dry s ++ wetConditions wet s ↔ c ∈ sampleConditions dry wet s := by
  rw [← filter_sampleConditions, List.mem_filter, decide_eq_true_eq]
  exact ⟨fun h => ⟨c.mem_all, h⟩, fun h => h.2⟩

/-! ## The loops and the deviation count -/

theorem climatePeriod_climate (s : State) :
    (climatePeriod s).climate =
      { s.climate with
        integral := (climatePeriod s).climate.integral, heat := (climatePeriod s).climate.heat
        vent := (climatePeriod s).climate.vent, spray := (climatePeriod s).climate.spray } := by
  unfold climatePeriod
  split
  · split
    · simp only [State.setClimate_climate]
      rw [humidityLoop_keeps, heatLoop_keeps]
    · rfl
  · rfl

theorem climatePeriod_still {s : State} (h : s.straps.role = .probe ∨ s.climate.regime ≠ .loops) :
    climatePeriod s = s := by
  unfold climatePeriod
  split
  next hrole hreg hrec =>
    obtain h | h := h
    · rw [hrole] at h; cases h
    · exact absurd hreg h
  next => rfl

/-- The deviation count after the judgement of a period. -/
def State.deviationAfter (s : State) : Nat :=
  match s.currentRecord with
  | some r =>
    if s.deviationInForce ∧ s.outsideBand r then min (deviationLimitOf r) (s.climate.deviation + 1) else 0
  | none => 0

/-- Whether the judgement of a period latches CLIMATE DEVIATION: the count reaches its limit and did not stand there. -/
def State.deviationLatches (s : State) : Bool :=
  match s.currentRecord with
  | some r =>
    s.deviationInForce && s.outsideBand r && decide (s.deviationAfter = deviationLimitOf r)
      && decide (s.climate.deviation ≠ s.deviationAfter)
  | none => false

theorem judgeDeviation_eq (s : State) :
    judgeDeviation s =
      latchAll (if s.deviationLatches then [.climateDeviation] else [])
        (s.setClimate { s.climate with deviation := s.deviationAfter }) := by
  have hone (u : State) : latchAll [.climateDeviation] u = latch .climateDeviation u := rfl
  unfold judgeDeviation State.deviationLatches State.deviationAfter
  cases s.currentRecord with
  | none => simp
  | some r =>
    by_cases h : s.deviationInForce = true ∧ s.outsideBand r = true
    · simp only [h, and_self, if_true, Bool.and_self, Bool.true_and, Bool.and_eq_true, decide_eq_true_eq]
      split <;> simp [hone]
    · have h' : ¬(s.deviationInForce && s.outsideBand r) = true := by simpa using h
      simp [h, h']

/-! ## The exits of a period -/

/-- The entries that a control period ends in, from the value available after the sample. -/
def State.periodPath (s : State) (available : Option Int) : List (Position × Cause) :=
  match s.schedule.mode, s.schedule.position, s.currentRecord, available with
  | .run, .warmup, some r, some db =>
    match r.stepAt 1 with
    | some st => if st.dryBulb - r.warmBand ≤ db then [(.drying 1, .own)] else []
    | none => []
  | .run, .cool, some r, some db => if db ≤ r.coolEnd then [(.complete, .own)] else []
  | _, _, _, _ => []

theorem periodPath_of_exits {s : State} {r : ChargeRecord} (hr : s.currentRecord = some r) :
    (s.schedule.position = .warmup ∨ s.schedule.position = .cool →
        s.periodPath s.dryBulb = s.exits r s.schedule.position)
      ∧ (s.schedule.position ≠ .warmup → s.schedule.position ≠ .cool → s.periodPath s.dryBulb = []) := by
  unfold State.periodPath State.exits State.onward
  rw [hr]
  constructor
  · rintro (h | h) <;> rw [h]
    · cases s.schedule.mode <;> cases s.dryBulb <;> cases hst : r.stepAt 1 <;> simp [hst]
      split <;> rfl
    · cases s.schedule.mode <;> cases s.dryBulb <;> simp
      split <;> rfl
  · intro h1 h2
    cases hm : s.schedule.mode <;> cases hp : s.schedule.position <;> simp_all

theorem periodPath_none {s : State} (h : s.currentRecord = none) (a : Option Int) : s.periodPath a = [] := by
  unfold State.periodPath
  rw [h]
  cases s.schedule.mode <;> cases s.schedule.position <;> rfl

theorem periodExits_eq (s : State) : periodExits s = enterAll (s.periodPath s.dryBulb) s := by
  cases hr : s.currentRecord with
  | none =>
    rw [periodPath_none hr]
    have hw : s.warmupMet = false := by simp [State.warmupMet, hr]
    have hc : s.coolMet = false := by simp [State.coolMet, hr]
    unfold periodExits
    split <;> simp [testWarmup, testCool, hw, hc, enterAll]
  | some r =>
    obtain ⟨hexits, hnone⟩ := periodPath_of_exits hr
    unfold periodExits
    split
    next hp => rw [hexits (.inl hp), testWarmup_eq hr hp, hp]
    next hp => rw [hexits (.inr hp), testCool_eq hr hp, hp]
    next hw hc => rw [hnone hw hc]; rfl

/-- A period enters at most one position: the first step from WARMUP, or COMPLETE from COOL. -/
theorem periodPath_cases (s : State) (a : Option Int) :
    s.periodPath a = []
      ∨ (∃ r, s.currentRecord = some r ∧ s.schedule.mode = .run ∧ s.schedule.position = .warmup
          ∧ s.periodPath a = [(.drying 1, .own)])
      ∨ (∃ r, s.currentRecord = some r ∧ s.schedule.mode = .run ∧ s.schedule.position = .cool
          ∧ s.periodPath a = [(.complete, .own)]) := by
  unfold State.periodPath
  split
  next r db hm hp hr =>
    split
    · split
      · exact .inr (.inl ⟨r, hr, hm, hp, rfl⟩)
      · exact .inl rfl
    · exact .inl rfl
  next r db hm hp hr =>
    split
    · exact .inr (.inr ⟨r, hr, hm, hp, rfl⟩)
    · exact .inl rfl
  next => exact .inl rfl

end Sys2Proof.Machine
end

section
/-! The control period as a whole (R147, R155): what it samples, latches, drives and enters. -/

namespace Sys2Proof.Machine

/-! ## A period, part by part -/

/-- The state of a period after its sampling and its conditions. -/
def periodSampled (dry wet : Int) (s : State) : State :=
  latchAll (dryConditions dry s ++ wetConditions wet s) (sampledState dry wet s)

/-- The state of a period before its exits. -/
def periodJudged (dry wet : Int) (s : State) : State := judgeDeviation (climatePeriod (periodSampled dry wet s))

theorem controlPeriod_eq (dry wet : Int) (s : State) :
    controlPeriod dry wet s = enterAll ((periodJudged dry wet s).periodPath (periodJudged dry wet s).dryBulb) (periodJudged dry wet s) :=
  periodExits_eq _

@[simp] theorem periodSampled_keeps (dry wet : Int) (s : State) :
    (periodSampled dry wet s).straps = s.straps ∧ (periodSampled dry wet s).picture = s.picture
      ∧ (periodSampled dry wet s).store = s.store ∧ (periodSampled dry wet s).schedule = s.schedule := by
  simp [periodSampled]

@[simp] theorem periodJudged_keeps (dry wet : Int) (s : State) :
    (periodJudged dry wet s).straps = s.straps ∧ (periodJudged dry wet s).picture = s.picture
      ∧ (periodJudged dry wet s).store = s.store ∧ (periodJudged dry wet s).schedule = s.schedule := by
  simp [periodJudged]

theorem periodSampled_sensors (dry wet : Int) (s : State) :
    (periodSampled dry wet s).sensors = (sampledState dry wet s).sensors := by simp [periodSampled]

theorem periodJudged_sensors (dry wet : Int) (s : State) :
    (periodJudged dry wet s).sensors = (sampledState dry wet s).sensors := by
  simp [periodJudged, periodSampled_sensors]

theorem dryBulb_of_sensors {s t : State} (h : t.sensors = s.sensors) : t.dryBulb = s.dryBulb := by
  simp [State.dryBulb, h]

/-- The dry-bulb available once a period has sampled. -/
theorem sampledState_dryBulb (dry wet : Int) (s : State) :
    (sampledState dry wet s).dryBulb =
      if -400 ≤ dry ∧ dry ≤ 1300 then some dry
      else if s.sensors.dry.state = .valid ∨ s.sensors.dry.state = .holding then s.sensors.dry.lastValid else none := by
  unfold State.dryBulb
  rw [sampledState_sensors]
  exact sampled_available _ _

theorem periodJudged_dryBulb (dry wet : Int) (s : State) :
    (periodJudged dry wet s).dryBulb = (sampledState dry wet s).dryBulb :=
  dryBulb_of_sensors (periodJudged_sensors dry wet s)

theorem periodPath_of_same {s t : State} (h1 : t.schedule = s.schedule) (h2 : t.store = s.store) (a : Option Int) :
    t.periodPath a = s.periodPath a := by
  unfold State.periodPath State.currentRecord
  rw [h1, h2]

/-- The run of entries of a period, read off the state before it and the value its sample makes available. -/
theorem controlPeriod_enters (dry wet : Int) (s : State) :
    controlPeriod dry wet s =
      enterAll (s.periodPath (sampledState dry wet s).dryBulb) (periodJudged dry wet s) := by
  rw [controlPeriod_eq, periodJudged_dryBulb, periodPath_of_same (s := s) (by simp) (by simp)]

theorem periodJudged_climate (dry wet : Int) (s : State) :
    (periodJudged dry wet s).climate =
      { (climatePeriod (periodSampled dry wet s)).climate with
        deviation := (climatePeriod (periodSampled dry wet s)).deviationAfter } := by
  simp [periodJudged, judgeDeviation_eq]

theorem periodSampled_climate (dry wet : Int) (s : State) :
    (periodSampled dry wet s).climate = (sampledState dry wet s).climate := by simp [periodSampled]

theorem shown_periodJudged (dry wet : Int) (s : State) : (periodJudged dry wet s).shown = (sampledState dry wet s).shown :=
  shown_of_eq (by simp) (by simp) (by simp) (periodJudged_sensors dry wet s) (by simp)

/-! ## Stamps -/

theorem judgeDeviation_stamp (s : State) {c : Condition} (hc : c ≠ .climateDeviation) (ho : c ≠ .traceOverrun) :
    (judgeDeviation s).attention.stamp c = s.attention.stamp c := by
  rw [judgeDeviation_eq, latchAll_stamp_ne _ _ _ ho]
  · rfl
  · split
    · simpa using hc
    · simp

theorem judgeDeviation_deviation_stamp {s : State} (h : s.deviationLatches = false) :
    (judgeDeviation s).attention.stamp .climateDeviation = s.attention.stamp .climateDeviation := by
  rw [judgeDeviation_eq, h]
  simp

theorem enterAll_stamp (path : List (Position × Cause)) (s : State) {c : Condition} (h1 : c ≠ .stepAdvanced)
    (h2 : c ≠ .phaseEntered) (ho : c ≠ .traceOverrun) :
    (enterAll path s).attention.stamp c = s.attention.stamp c := by
  refine enterAll_induct (P := fun s t => t.attention.stamp c = s.attention.stamp c) (fun _ => rfl)
    (fun h k => k.trans h) (fun p k s => ?_) path s
  rw [enterPosition_stamp _ _ _ _ ho, List.nil_append]
  refine if_neg fun h => ?_
  have hc := List.mem_singleton.1 h.1
  rcases entryLatches_cases s.schedule.position p with hl | hl <;> rw [hl] at hc
  exacts [h1 hc, h2 hc]

/-- A period's stamps of the sensors' conditions. -/
theorem controlPeriod_stamp (dry wet : Int) (s : State) {c : Condition}
    (hc : c = .wetBulbFault ∨ c = .heatCutoff ∨ c = .temperatureFault) :
    (controlPeriod dry wet s).attention.stamp c =
      if c ∈ sampleConditions dry wet s ∧ s.attention.stamp c = none then some s.schedule.minute
      else s.attention.stamp c := by
  have hne : c ≠ .stepAdvanced ∧ c ≠ .phaseEntered ∧ c ≠ .traceOverrun ∧ c ≠ .climateDeviation := by
    rcases hc with rfl | rfl | rfl <;> decide
  obtain ⟨h1, h2, h3, h4⟩ := hne
  rw [controlPeriod_enters, enterAll_stamp _ _ h1 h2 h3, periodJudged, judgeDeviation_stamp _ h4 h3]
  simp only [climatePeriod_keeps]
  rw [periodSampled, latchAll_stamp _ _ h3]
  simp only [mem_sampleConditions, sampledState_keeps]

theorem getD_of_latched {a : Option Nat} {p : Prop} [Decidable p] {m : Nat} :
    (p → (if p ∧ a = none then some m else a) = some (a.getD m)) ∧ (¬p → (if p ∧ a = none then some m else a) = a) := by
  constructor
  · intro hp; cases a <;> simp [hp]
  · intro hp; simp [hp]

theorem mem_sampleConditions_iff (dry wet : Int) (s : State) :
    (.wetBulbFault ∈ sampleConditions dry wet s ↔ s.straps.role = .zone ∧ s.sensors.wet.faults wet = true)
      ∧ (.heatCutoff ∈ sampleConditions dry wet s ↔ s.straps.role = .zone ∧ s.sensors.dry.loses dry = true)
      ∧ (.temperatureFault ∈ sampleConditions dry wet s ↔ s.sensors.dry.faults dry = true) := by
  unfold sampleConditions
  by_cases h1 : s.straps.role = .zone ∧ s.sensors.wet.faults wet = true <;>
    by_cases h2 : s.straps.role = .zone ∧ s.sensors.dry.loses dry = true <;>
      by_cases h3 : s.sensors.dry.faults dry = true <;> simp [h1, h2, h3]

/-! ## The records of a period (R159) -/

theorem sampleConditions_ne (dry wet : Int) (s : State) : ∀ c ∈ sampleConditions dry wet s, c ≠ .traceOverrun := by
  unfold sampleConditions
  intro c hc
  simp only [List.mem_append] at hc
  rcases hc with (hc | hc) | hc <;> split at hc <;> simp_all

/-- The conditions of a period that were clear, in the order in which they are latched. -/
def periodNew (dry wet : Int) (s : State) : List Condition :=
  (sampleConditions dry wet s
    ++ if (climatePeriod (periodSampled dry wet s)).deviationLatches then [Condition.climateDeviation] else []).filter
      fun c => decide (s.attention.stamp c = none)

theorem periodJudged_writes (dry wet : Int) {s : State} (hs : s.RingBounded) :
    s.Writes (periodJudged dry wet s)
      ((periodNew dry wet s).map fun c => (sampledState dry wet s).traceRecord (.condition c)) := by
  set s1 := sampledState dry wet s with hs1
  have hrec1 : s1.trace.records = s.trace.records := by simp [hs1]
  have hb1 : s1.RingBounded := by unfold State.RingBounded at *; rwa [hrec1]
  have hfirst := (latchAll_writes (dryConditions dry s ++ wetConditions wet s) hb1).of_source hrec1
  rw [filter_sampleConditions] at hfirst
  set s2 := climatePeriod (periodSampled dry wet s) with hs2
  have hb2 : s2.RingBounded := by
    have : s2.trace.records = (periodSampled dry wet s).trace.records := by simp [hs2]
    unfold State.RingBounded
    rw [this]; exact hfirst.bounded
  set s3 := s2.setClimate { s2.climate with deviation := s2.deviationAfter } with hs3
  have hsecond := latchAll_writes (if s2.deviationLatches then [Condition.climateDeviation] else []) (s := s3) hb2
  have hrec3 : ∀ k, s3.traceRecord k = s1.traceRecord k := fun k =>
    traceRecord_eq (shown_of_eq (by simp [hs3, hs2, hs1]) (by simp [hs3, hs2, hs1]) (by simp [hs3, hs2, hs1])
      (by simp [hs3, hs2, hs1, periodSampled_sensors]) (by simp [hs3, hs2, hs1])) (by simp [hs3, hs2, hs1]) k
  have hstamp3 : s3.attention.stamp .climateDeviation = s.attention.stamp .climateDeviation := by
    simp only [hs3, hs2, State.setClimate_attention, climatePeriod_keeps, periodSampled]
    rw [latchAll_stamp_ne _ _ _ (by decide), ← hs1, hs1]
    · simp
    · rw [mem_sampleConditions]
      unfold sampleConditions
      intro hc
      simp only [List.mem_append] at hc
      rcases hc with (hc | hc) | hc <;> split at hc <;> simp_all
  have hall := hfirst.trans (hsecond.of_source (s := periodSampled dry wet s) (by simp [hs3, hs2]))
  have hjudged : periodJudged dry wet s = latchAll (if s2.deviationLatches then [Condition.climateDeviation] else []) s3 :=
    judgeDeviation_eq s2
  rw [hjudged]
  have hnew1 : ((sampleConditions dry wet s).filter fun c => decide (c ≠ .traceOverrun ∧ s1.attention.stamp c = none)) =
      (sampleConditions dry wet s).filter fun c => decide (s.attention.stamp c = none) := by
    refine List.filter_congr fun c hc => ?_
    simp [sampleConditions_ne dry wet s c hc, hs1]
  have hnew2 : ((Condition.all.filter (· ∈ if s2.deviationLatches then [Condition.climateDeviation] else [])).filter
        fun c => decide (c ≠ .traceOverrun ∧ s3.attention.stamp c = none)) =
      (if s2.deviationLatches then [Condition.climateDeviation] else []).filter
        fun c => decide (s.attention.stamp c = none) := by
    cases s2.deviationLatches
    · simp
    · rw [if_pos rfl, show Condition.all.filter (· ∈ [Condition.climateDeviation]) = [.climateDeviation] by decide]
      refine List.filter_congr fun c hc => ?_
      rw [List.mem_singleton] at hc
      subst hc
      simp [hstamp3]
  rw [hnew1, hnew2] at hall
  simpa only [hrec3, periodNew, List.filter_append, List.map_append] using hall

/-! ## The parts of the statement -/

theorem periodPath_entry {s : State} {a : Option Int} {x : Position × Cause} (h : s.periodPath a = [x]) :
    ∃ r, s.currentRecord = some r ∧ s.schedule.mode = .run
      ∧ (s.schedule.position = .warmup ∧ x = (.drying 1, .own) ∨ s.schedule.position = .cool ∧ x = (.complete, .own)) := by
  obtain h0 | ⟨r, hr, hm, hp, h1⟩ | ⟨r, hr, hm, hp, h1⟩ := periodPath_cases s a
  · rw [h0] at h; cases h
  · rw [h1] at h; cases h; exact ⟨r, hr, hm, .inl ⟨hp, rfl⟩⟩
  · rw [h1] at h; cases h; exact ⟨r, hr, hm, .inr ⟨hp, rfl⟩⟩

theorem periodPath_shape (s : State) (a : Option Int) :
    s.periodPath a = [] ∨ s.periodPath a = [(.drying 1, .own)] ∨ s.periodPath a = [(.complete, .own)] := by
  obtain h | ⟨_, _, _, _, h⟩ | ⟨_, _, _, _, h⟩ := periodPath_cases s a
  exacts [.inl h, .inr (.inl h), .inr (.inr h)]

theorem currentRecord_of_store {s t : State} (h : t.store = s.store) : t.currentRecord = s.currentRecord := by
  simp [State.currentRecord, h]

/-- The climate controller after a period that enters the first step: that of the period's loops, with the step's targets. -/
theorem controlPeriod_warmed {dry wet : Int} {s : State} {r : ChargeRecord}
    (hr : s.currentRecord = some r) (hm : s.schedule.mode = .run) (hp : s.schedule.position = .warmup)
    (hpath : s.periodPath (sampledState dry wet s).dryBulb = [(.drying 1, .own)]) :
    (controlPeriod dry wet s).climate =
      { (periodJudged dry wet s).climate with
        targetDry := (targetsOf r (.drying 1)).map (·.1), targetDep := (targetsOf r (.drying 1)).map (·.2)
        activeDep := (targetsOf r (.drying 1)).map (·.2), deviation := 0, regime := .loops } := by
  have hrec : (periodJudged dry wet s).currentRecord = some r := by rw [currentRecord_of_store (s := s) (by simp)]; exact hr
  rw [controlPeriod_enters, hpath]
  refine (enterPosition_climate (.drying 1) .own [] hrec (by simp [hm])).trans ?_
  unfold State.entryClimate Climate.entering
  simp [hp, Position.isLoop]

theorem controlPeriod_cooled {dry wet : Int} {s : State} {r : ChargeRecord}
    (hr : s.currentRecord = some r) (hm : s.schedule.mode = .run)
    (hpath : s.periodPath (sampledState dry wet s).dryBulb = [(.complete, .own)]) :
    (controlPeriod dry wet s).climate = (periodJudged dry wet s).entryClimate r .complete := by
  have hrec : (periodJudged dry wet s).currentRecord = some r := by rw [currentRecord_of_store (s := s) (by simp)]; exact hr
  rw [controlPeriod_enters, hpath]
  exact enterPosition_climate .complete .own [] hrec (by simp [hm])

theorem controlPeriod_stays {dry wet : Int} {s : State} (hpath : s.periodPath (sampledState dry wet s).dryBulb = []) :
    controlPeriod dry wet s = periodJudged dry wet s := by rw [controlPeriod_enters, hpath]; rfl

/-- What a period can change of the climate controller before its exits. -/
theorem periodJudged_climate_frame (dry wet : Int) (s : State) :
    (periodJudged dry wet s).climate =
      { s.climate with
        integral := (periodJudged dry wet s).climate.integral, heat := (periodJudged dry wet s).climate.heat
        vent := (periodJudged dry wet s).climate.vent, spray := (periodJudged dry wet s).climate.spray
        deviation := (periodJudged dry wet s).climate.deviation } := by
  rw [periodJudged_climate, climatePeriod_climate, periodSampled_climate, sampledState_climate]

/-- Outside the loops a period leaves the outputs and I as the sampling leaves them. -/
theorem periodJudged_still {dry wet : Int} {s : State} (h : s.straps.role = .probe ∨ s.climate.regime ≠ .loops) :
    (periodJudged dry wet s).climate =
      { (sampledState dry wet s).climate with deviation := (periodJudged dry wet s).climate.deviation } := by
  have hstill : climatePeriod (periodSampled dry wet s) = periodSampled dry wet s := by
    refine climatePeriod_still ?_
    rwa [periodSampled_climate, sampledState_climate, (periodSampled_keeps dry wet s).1]
  rw [periodJudged_climate, hstill, periodSampled_climate]

end Sys2Proof.Machine
end

section
/-! The control period's obligations: outside the loops and in them (R147 to R150, R153 to R155). -/

namespace Sys2Proof.Machine

/-! ## Outside the loops -/

/-- The period's list of entries is the one the statement reads off the state. -/
theorem controlPeriod_shown (dry wet : Int) (s : State) :
    (controlPeriod dry wet s).shown = (sampledState dry wet s).shown := by
  rw [controlPeriod_enters, enterAll_shown, shown_periodJudged]

theorem sampledState_records (dry wet : Int) (s : State) (c : Condition) :
    (sampledState dry wet s).traceRecord (.condition c) =
      { (controlPeriod dry wet s).traceRecord (.condition c) with position := s.schedule.position } := by
  rw [traceRecord_of_shown (controlPeriod_shown dry wet s)]
  simp [State.traceRecord]

/-- The deviation count and its condition in a period in which it is not in force (R155). -/
theorem periodJudged_deviation_zero {dry wet : Int} {s : State}
    (h : (climatePeriod (periodSampled dry wet s)).deviationInForce = false ∨ s.currentRecord = none) :
    (periodJudged dry wet s).climate.deviation = 0 ∧ (climatePeriod (periodSampled dry wet s)).deviationLatches = false := by
  rw [periodJudged_climate]
  dsimp only
  unfold State.deviationLatches State.deviationAfter
  rw [currentRecord_of_store (s := s) (by simp)]
  obtain h | h := h
  · rw [h]
    cases s.currentRecord <;> simp
  · rw [h]
    exact ⟨rfl, rfl⟩

theorem deviationInForce_iff (dry wet : Int) (s : State) :
    (climatePeriod (periodSampled dry wet s)).deviationInForce = true ↔
      s.straps.role = .zone ∧ s.schedule.position.judgesDeviation = true ∧ s.schedule.mode = .run
        ∧ -400 ≤ dry ∧ dry ≤ 1300 := by
  simp only [State.deviationInForce, climatePeriod_keeps, periodSampled_keeps, periodSampled_sensors, sampledState_sensors,
    Bool.and_eq_true, beq_iff_eq, sampled_valid_iff, and_assoc]

/-- A period in a position without loops, or that leaves it, leaves the deviation count as the judgement or at 0. -/
theorem controlPeriod_deviation_zero {dry wet : Int} {s : State} (h : (periodJudged dry wet s).climate.deviation = 0) :
    (controlPeriod dry wet s).climate.deviation = 0 := by
  obtain hp | ⟨r, hr, hm, hpos, hp⟩ | ⟨r, hr, hm, hpos, hp⟩ := periodPath_cases s (sampledState dry wet s).dryBulb
  · rw [controlPeriod_stays hp]; exact h
  · rw [controlPeriod_warmed hr hm hpos hp]
  · rw [controlPeriod_cooled hr hm hp]; rfl

theorem controlPeriod_deviation_stamp {dry wet : Int} {s : State}
    (h : (climatePeriod (periodSampled dry wet s)).deviationLatches = false) :
    (controlPeriod dry wet s).attention.stamp .climateDeviation = s.attention.stamp .climateDeviation := by
  rw [controlPeriod_enters, enterAll_stamp _ _ (by decide) (by decide) (by decide), periodJudged,
    judgeDeviation_deviation_stamp h]
  simp only [climatePeriod_keeps, periodSampled]
  rw [latchAll_stamp_ne _ _ _ (by decide)]
  · simp
  · rw [mem_sampleConditions]
    unfold sampleConditions
    intro hc
    simp only [List.mem_append] at hc
    rcases hc with (hc | hc) | hc <;> split at hc <;> simp_all

theorem filter_guarded {α : Type} {p : Prop} [Decidable p] (a : α) (q : α → Bool) :
    (if p then [a] else []).filter q = if p ∧ q a = true then [a] else [] := by
  by_cases hp : p <;> simp [hp, List.filter_cons]

theorem filter_four {α : Type} (q : α → Bool) (a b c d : α) :
    [a, b, c, d].filter q =
      (if q a = true then [a] else []) ++ ((if q b = true then [b] else [])
        ++ ((if q c = true then [c] else []) ++ if q d = true then [d] else [])) := by
  simp only [List.filter_cons, List.filter_nil]
  cases q a <;> cases q b <;> cases q c <;> rfl

/-- The conditions whose records a period writes are those of the four that it brings from clear to latched. -/
theorem periodNew_eq (dry wet : Int) (s : State) :
    periodNew dry wet s =
      [Condition.wetBulbFault, .heatCutoff, .temperatureFault, .climateDeviation].filter fun c =>
        (s.attention.stamp c).isNone && (controlPeriod dry wet s).attention.latched c := by
  set t := controlPeriod dry wet s with ht
  have hsensor : ∀ c, c = .wetBulbFault ∨ c = .heatCutoff ∨ c = .temperatureFault →
      ((s.attention.stamp c).isNone && t.attention.latched c) =
        decide (c ∈ sampleConditions dry wet s ∧ s.attention.stamp c = none) := fun c hc => by
    have h := controlPeriod_stamp dry wet s hc
    unfold Attention.latched
    rw [ht, h]
    cases hs : s.attention.stamp c <;> by_cases hm : c ∈ sampleConditions dry wet s <;> simp [hm]
  have hdev : ((s.attention.stamp .climateDeviation).isNone && t.attention.latched .climateDeviation) =
      decide ((climatePeriod (periodSampled dry wet s)).deviationLatches = true
        ∧ s.attention.stamp .climateDeviation = none) := by
    cases hl : (climatePeriod (periodSampled dry wet s)).deviationLatches
    · unfold Attention.latched
      rw [ht, controlPeriod_deviation_stamp hl]
      cases s.attention.stamp .climateDeviation <;> simp
    · have hlatched : t.attention.latched .climateDeviation = true := by
        rw [ht, controlPeriod_enters]
        refine (enterAll_latches _ _).latched ?_
        rw [periodJudged, judgeDeviation_eq, hl]
        exact latchAll_latched _ _ _ (by simp)
      rw [hlatched]
      cases s.attention.stamp .climateDeviation <;> simp
  obtain ⟨h1, h2, h3⟩ := mem_sampleConditions_iff dry wet s
  have e1 := hsensor .wetBulbFault (by simp)
  have e2 := hsensor .heatCutoff (by simp)
  have e3 := hsensor .temperatureFault (by simp)
  simp only [h1] at e1
  simp only [h2] at e2
  simp only [h3] at e3
  simp only [filter_four, e1, e2, e3, hdev, periodNew, sampleConditions, List.filter_append, filter_guarded,
    decide_eq_true_eq, List.append_assoc]

theorem controlPeriod_writes (dry wet : Int) {s : State} (hs : s.RingBounded) :
    s.Writes (controlPeriod dry wet s)
      ((([Condition.wetBulbFault, .heatCutoff, .temperatureFault, .climateDeviation].filter fun c =>
          (s.attention.stamp c).isNone && (controlPeriod dry wet s).attention.latched c).map fun c =>
            { (controlPeriod dry wet s).traceRecord (.condition c) with position := s.schedule.position })
        ++ pathRecords s (controlPeriod dry wet s) s.schedule.position [] []
            (s.periodPath (sampledState dry wet s).dryBulb)) := by
  have hfirst := periodJudged_writes dry wet hs
  simp only [sampledState_records, periodNew_eq] at hfirst
  have hstamps : ∀ c ∈ [Condition.stepAdvanced, .phaseEntered],
      (periodJudged dry wet s).attention.stamp c = none ↔ s.attention.stamp c = none ∧ c ∉ ([] : List Condition) := by
    intro c hc
    have hne : c ≠ .climateDeviation ∧ c ≠ .traceOverrun ∧ c ∉ sampleConditions dry wet s := by
      have hmem : ∀ d ∈ sampleConditions dry wet s, d = .wetBulbFault ∨ d = .heatCutoff ∨ d = .temperatureFault := by
        unfold sampleConditions
        intro d hd
        simp only [List.mem_append] at hd
        rcases hd with (hd | hd) | hd <;> split at hd <;> simp_all
      simp only [List.mem_cons, List.not_mem_nil, or_false] at hc
      rcases hc with rfl | rfl <;> exact ⟨by decide, by decide, fun h => by simpa using hmem _ h⟩
    rw [periodJudged, judgeDeviation_stamp _ hne.1 hne.2.1]
    simp only [climatePeriod_keeps, periodSampled]
    rw [latchAll_stamp_ne _ _ (by rw [mem_sampleConditions]; exact hne.2.2) hne.2.1]
    simp
  have hrest := enterAll_writes (s := s) (t := controlPeriod dry wet s) (s.periodPath (sampledState dry wet s).dryBulb)
    hfirst.bounded ((controlPeriod_shown dry wet s).trans (shown_periodJudged dry wet s).symm) hstamps
  rw [(periodJudged_keeps dry wet s).2.2.2] at hrest
  have hall := hfirst.trans hrest
  rwa [← controlPeriod_enters] at hall

theorem sampledState_outside_loops {dry wet : Int} {s : State} (h : s.straps.role = .probe ∨ s.climate.regime ≠ .loops) :
    ((sampledState dry wet s).climate.heat, (sampledState dry wet s).climate.integral) =
        (if s.straps.role = .zone ∧ ¬(-400 ≤ dry ∧ dry ≤ 1300) ∧ s.sensors.dry.state = .awaiting then (0, 0)
        else (s.climate.heat, s.climate.integral))
      ∧ ((sampledState dry wet s).climate.vent, (sampledState dry wet s).climate.spray) = (s.climate.vent, s.climate.spray) := by
  rw [sampledState_climate]
  simp only [← loses_iff]
  constructor
  · by_cases hl : s.straps.role = .zone ∧ s.sensors.dry.loses dry = true
    · simp [hl]
    · simp only [hl, ↓reduceIte]
  · have hne : ¬(s.straps.role = .zone ∧ s.climate.regime = .loops ∧ s.sensors.wet.loses wet = true) := by
      rintro ⟨hz, hreg, -⟩
      obtain h | h := h
      · rw [hz] at h; cases h
      · exact h hreg
    simp only [hne, ↓reduceIte]

/-- On a PROBE station and in a regime other than LOOPS the outputs and I stand, but for the zeros of the dry-bulb's loss. -/
theorem controlPeriod_outside_loops {dry wet : Int} {s : State} (h : s.straps.role = .probe ∨ s.climate.regime ≠ .loops)
    (hne : s.periodPath (sampledState dry wet s).dryBulb ≠ [(.complete, .own)]) :
    ((controlPeriod dry wet s).climate.heat, (controlPeriod dry wet s).climate.integral) =
        (if s.straps.role = .zone ∧ ¬(-400 ≤ dry ∧ dry ≤ 1300) ∧ s.sensors.dry.state = .awaiting then (0, 0)
        else (s.climate.heat, s.climate.integral))
      ∧ ((controlPeriod dry wet s).climate.vent, (controlPeriod dry wet s).climate.spray) =
          (s.climate.vent, s.climate.spray) := by
  have hjudged := sampledState_outside_loops (dry := dry) (wet := wet) h
  have hstill := periodJudged_still (dry := dry) (wet := wet) h
  obtain hp | ⟨r, hr, hm, hpos, hp⟩ | ⟨_, _, _, _, hp⟩ := periodPath_cases s (sampledState dry wet s).dryBulb
  · rw [controlPeriod_stays hp, hstill]; exact hjudged
  · rw [controlPeriod_warmed hr hm hpos hp, hstill]; exact hjudged
  · exact absurd hp hne

theorem controlPeriod_entry {dry wet : Int} {s : State} {r : ChargeRecord} {x : Position × Cause}
    (hr : s.currentRecord = some r) (hx : s.periodPath (sampledState dry wet s).dryBulb = [x]) :
    (controlPeriod dry wet s).schedule = s.schedule.entered r x.1
      ∧ (controlPeriod dry wet s).attention.latched .phaseEntered = true
      ∧ (x.1 = .complete → ClimateEntered s (controlPeriod dry wet s) r .complete)
      ∧ (x.1 = .drying 1 → ∀ st, r.stepAt 1 = some st →
        (controlPeriod dry wet s).climate =
          { s.climate with
            targetDry := some st.dryBulb, targetDep := some st.depression, activeDep := some st.depression
            regime := .loops, integral := (controlPeriod dry wet s).climate.integral
            heat := (controlPeriod dry wet s).climate.heat, vent := (controlPeriod dry wet s).climate.vent
            spray := (controlPeriod dry wet s).climate.spray, deviation := 0 }) := by
  obtain ⟨r', hr', hm, hcase⟩ := periodPath_entry hx
  have hrec : (periodJudged dry wet s).currentRecord = some r := by
    rw [currentRecord_of_store (s := s) (by simp)]; exact hr
  have heq : controlPeriod dry wet s = enterPosition x.1 x.2 [] (periodJudged dry wet s) := by
    rw [controlPeriod_enters, hx]; rfl
  have hlatches : entryLatches s.schedule.position x.1 = .phaseEntered := by
    obtain ⟨hp, rfl⟩ | ⟨hp, rfl⟩ := hcase <;> rw [hp] <;> rfl
  refine ⟨?_, ?_, fun hc => ?_, fun hd st hst => ?_⟩
  · rw [heq, enterPosition_schedule, hrec, entrySchedule_eq, (periodJudged_keeps dry wet s).2.2.2]
  · have h := (enterPosition_latched x.1 x.2 [] (periodJudged dry wet s)).2
    rwa [entryLatches_eq, (periodJudged_keeps dry wet s).2.2.2, hlatches, ← heq] at h
  · obtain ⟨hp, rfl⟩ | ⟨hp, rfl⟩ := hcase
    · cases hc
    · change (controlPeriod dry wet s).climate = _
      rw [controlPeriod_cooled hr hm hx]
      unfold State.entryClimate Climate.entering
      rw [periodJudged_climate_frame]
      simp [Position.isLoop, targetsOf]
  · obtain ⟨hp, rfl⟩ | ⟨hp, rfl⟩ := hcase
    · rw [controlPeriod_warmed hr hm hp hx, periodJudged_climate_frame]
      simp [targetsOf, stepTarget, hst]
    · cases hd

/-- Settles O17: the sampling, the judgement and the exits, each read off its own lemma. -/
theorem controlPeriodSamples : Obligations.ControlPeriodSamples := by
  intro dry wet s
  refine ⟨_, rfl, ?_⟩
  have hsensors : (controlPeriod dry wet s).sensors = (sampledState dry wet s).sensors := by
    rw [controlPeriod_enters, (enterAll_keeps _ _).2.2.2.2.2.1, periodJudged_sensors]
  have hreadings : (controlPeriod dry wet s).readings = (sampledState dry wet s).readings := by
    rw [controlPeriod_enters, (enterAll_keeps _ _).2.2.2.2.2.2.1]
    simp [periodJudged, periodSampled]
  rw [sampledState_sensors] at hsensors
  change (controlPeriod dry wet s).sensors.controlTimer = 76800 ∧ _
  rw [hsensors]
  refine ⟨rfl, sampled_eq _ _, ?_, ?_, ?_, ?_, ?_, ?_⟩
  · by_cases hrole : s.straps.role = .probe
    · simp [hrole]
    · simp only [hrole, if_false]; exact sampled_eq _ _
  · rintro faults rfl x hx
    obtain ⟨h1, h2, h3⟩ := mem_sampleConditions_iff dry wet s
    rw [faults_iff] at h1 h3
    rw [loses_iff] at h2
    simp only [List.mem_cons, List.not_mem_nil, or_false] at hx
    rcases hx with rfl | rfl | rfl
    · rw [controlPeriod_stamp dry wet s (by simp)]
      dsimp only
      rw [← h1]; exact getD_of_latched
    · rw [controlPeriod_stamp dry wet s (by simp)]
      dsimp only
      rw [← h2]; exact getD_of_latched
    · rw [controlPeriod_stamp dry wet s (by simp)]
      dsimp only
      rw [← h3]; exact getD_of_latched
  · exact hreadings.trans (sampledState_readings dry wet s)
  · intro available havail path hpath
    rw [← sampledState_dryBulb dry wet s] at havail
    have hpath' : s.periodPath (sampledState dry wet s).dryBulb = path := by rw [hpath, ← havail]; rfl
    clear hpath
    subst havail
    refine ⟨fun hnil => ?_, fun hout hne => ?_, fun r x hr hx => ?_, fun hb conds hconds => ?_⟩
    · have hstay := controlPeriod_stays (hpath'.trans hnil)
      change (controlPeriod dry wet s).schedule = _ ∧ (controlPeriod dry wet s).climate = _
      rw [hstay]
      exact ⟨by simp, periodJudged_climate_frame dry wet s⟩
    · exact controlPeriod_outside_loops hout (hpath'.trans_ne hne)
    · rw [← hpath'] at hx
      exact controlPeriod_entry hr hx
    · subst hconds
      rw [← hpath']
      exact controlPeriod_writes dry wet hb
  · intro h
    have hzero := periodJudged_deviation_zero (dry := dry) (wet := wet) (s := s) (by
      by_cases hf : (climatePeriod (periodSampled dry wet s)).deviationInForce = true
      · obtain ⟨hz, hj, hm, hd⟩ := (deviationInForce_iff dry wet s).1 hf
        obtain h | h | h | h | h := h
        · rw [hz] at h; cases h
        · exact .inr h
        · exact absurd hm h
        · exact absurd hd h
        · simp only [List.mem_cons, List.not_mem_nil, or_false] at h
          obtain h | h | h | h | h := h <;> rw [h] at hj <;> cases hj
      · exact .inl (by simpa using hf))
    exact ⟨controlPeriod_deviation_zero hzero.1, controlPeriod_deviation_stamp hzero.2⟩
  · simp [onlyChanges_iff]

/-! ## In the loops -/

theorem clampDemand_cast (x : Int) : (clampDemand x : Int) = max 0 (min 1000 x) := by
  unfold clampDemand clampInt
  omega

/-- A period in a loop position keeps what its loops leave; an entry to the first step touches the targets alone. -/
theorem controlPeriod_in_loops {dry wet : Int} {s : State} (hp : s.schedule.position.isLoop = true) :
    ∃ targetDry targetDep activeDep deviation, (controlPeriod dry wet s).climate =
      { (periodJudged dry wet s).climate with
        targetDry := targetDry, targetDep := targetDep, activeDep := activeDep, deviation := deviation
        regime := (controlPeriod dry wet s).climate.regime } := by
  obtain h | ⟨r, hr, hm, hpos, h⟩ | ⟨r, _, _, hpos, _⟩ := periodPath_cases s (sampledState dry wet s).dryBulb
  · rw [controlPeriod_stays h]
    exact ⟨_, _, _, _, rfl⟩
  · rw [controlPeriod_warmed hr hm hpos h]
    exact ⟨_, _, _, _, rfl⟩
  · rw [hpos] at hp; cases hp

/-- Outside WARMUP a period in a loop position enters nothing. -/
theorem controlPeriod_past_warmup {dry wet : Int} {s : State} (hp : s.schedule.position.isLoop = true)
    (hw : s.schedule.position ≠ .warmup) : controlPeriod dry wet s = periodJudged dry wet s := by
  obtain h | ⟨r, _, _, hpos, _⟩ | ⟨r, _, _, hpos, _⟩ := periodPath_cases s (sampledState dry wet s).dryBulb
  · exact controlPeriod_stays h
  · exact absurd hpos hw
  · rw [hpos] at hp; cases hp

/-- The climate controller after the loops of a period (R147). -/
theorem climatePeriod_loops {dry wet : Int} {s : State} {r : ChargeRecord} (hz : s.straps.role = .zone)
    (hreg : s.climate.regime = .loops) (hr : s.currentRecord = some r) :
    (climatePeriod (periodSampled dry wet s)).climate =
      if s.climate.settleTimer = 0 then
        humidityLoop r (s.sensors.wet.sampled wet)
          (heatLoop r (sampledState dry wet s).dryBulb (sampledState dry wet s).climate)
      else (sampledState dry wet s).climate := by
  have hc := periodSampled_climate dry wet s
  have hregime : (periodSampled dry wet s).climate.regime = .loops := by rw [hc, sampledState_climate]; exact hreg
  have hsettle : (periodSampled dry wet s).climate.settleTimer = s.climate.settleTimer := by rw [hc, sampledState_climate]
  have hrec : (periodSampled dry wet s).currentRecord = some r := by
    rw [currentRecord_of_store (s := s) (by simp)]; exact hr
  have hrole : (periodSampled dry wet s).straps.role = .zone := by rw [(periodSampled_keeps dry wet s).1]; exact hz
  have hwet : (periodSampled dry wet s).sensors.wet = s.sensors.wet.sampled wet := by
    rw [periodSampled_sensors, sampledState_sensors]; simp [hz]
  unfold climatePeriod
  rw [hrole, hregime, hrec]
  dsimp only
  rw [hsettle, hwet, dryBulb_of_sensors (periodSampled_sensors dry wet s)]
  split
  · rw [State.setClimate_climate, hc]
  · exact hc

theorem humidityLoop_heat (r : ChargeRecord) (wet : SensorChannel) (c : Climate) :
    (humidityLoop r wet c).heat = c.heat ∧ (humidityLoop r wet c).integral = c.integral
      ∧ (humidityLoop r wet c).spActive = c.spActive ∧ (humidityLoop r wet c).settleTimer = c.settleTimer
      ∧ (humidityLoop r wet c).deviation = c.deviation := by
  rw [humidityLoop_keeps]; simp

theorem heatLoop_vent (r : ChargeRecord) (db : Option Int) (c : Climate) :
    (heatLoop r db c).vent = c.vent ∧ (heatLoop r db c).spray = c.spray ∧ (heatLoop r db c).spActive = c.spActive
      ∧ (heatLoop r db c).activeDep = c.activeDep ∧ (heatLoop r db c).settleTimer = c.settleTimer
      ∧ (heatLoop r db c).deviation = c.deviation := by
  rw [heatLoop_keeps]; simp

/-- A period keeps SP_active and the settle timer. -/
theorem climatePeriod_spActive (s : State) :
    (climatePeriod s).climate.spActive = s.climate.spActive
      ∧ (climatePeriod s).climate.settleTimer = s.climate.settleTimer
      ∧ (climatePeriod s).climate.deviation = s.climate.deviation := by
  rw [climatePeriod_climate]; simp

/-- With a dry-bulb available the sample did not lose the sensor. -/
theorem loses_of_available {dry wet : Int} {s : State} {db : Int} (h : (sampledState dry wet s).dryBulb = some db) :
    s.sensors.dry.loses dry = false := by
  rw [sampledState_dryBulb] at h
  by_contra hl
  obtain ⟨hv, hst⟩ := (loses_iff _ _).1 (by simpa using hl)
  rw [if_neg hv, if_neg (by simp [hst])] at h
  cases h

theorem withheld_iff (heat : Nat) (e : Int) :
    integralWithheld heat e = true ↔ heat = 1000 ∧ 0 < e ∨ heat = 0 ∧ e < 0 := by
  simp [integralWithheld]

/-- The heat loop with a dry-bulb available (R148, R149). -/
theorem heatLoop_available {r : ChargeRecord} {db sp : Int} {c : Climate} (hsp : c.spActive = some sp) :
    (heatLoop r (some db) c).integral =
        max (-1000) (min 1000
          (if c.heat = 1000 ∧ 0 < sp - db ∨ c.heat = 0 ∧ sp - db < 0 then c.integral
          else c.integral + halfAway (r.ki * (sp - db)) 10))
      ∧ ((heatLoop r (some db) c).heat : Int) =
          max 0 (min 1000 (halfAway (r.kp * (sp - db)) 10 + (heatLoop r (some db) c).integral)) := by
  have hloop : heatLoop r (some db) c =
      { c with
        integral := nextIntegral r c.heat c.integral (sp - db)
        heat := heatOutput r (sp - db) (nextIntegral r c.heat c.integral (sp - db)) } := by
    unfold heatLoop; rw [hsp]
  rw [hloop]
  refine ⟨?_, clampDemand_cast _⟩
  simp only [nextIntegral, clampInt, withheld_iff]

/-- The humidity loop of a valid wet-bulb sample (R150). -/
theorem humidityLoop_valid {r : ChargeRecord} {wet sp : Int} {dep : Nat} {c : Climate} (hsp : c.spActive = some sp)
    (hdep : c.activeDep = some dep) :
    ((humidityLoop r { state := .valid, lastValid := some wet, holdTimer := 0 } c).vent : Int) =
        (if (r.deadBand : Int) < wet - (sp - dep) then
          max 0 (min 1000 (halfAway (r.kv * (wet - (sp - dep) - r.deadBand)) 10)) else 0)
      ∧ ((humidityLoop r { state := .valid, lastValid := some wet, holdTimer := 0 } c).spray : Int) =
        (if wet - (sp - dep) < -(r.deadBand : Int) then
          max 0 (min 1000 (halfAway (r.ks * (-(wet - (sp - dep)) - r.deadBand)) 10)) else 0) := by
  unfold humidityLoop
  rw [hsp, hdep]
  dsimp only [ventOutput, sprayOutput]
  constructor
  · split <;> simp [clampDemand_cast]
  · split <;> simp [clampDemand_cast]

/-- Vent and spray after a faulty wet-bulb sample: held, or lost (R150, R154). -/
theorem humidityLoop_faulty {r : ChargeRecord} {wet : Int} {w : SensorChannel} {c : Climate}
    (hw : ¬(-400 ≤ wet ∧ wet ≤ 1300)) :
    ((humidityLoop r (w.sampled wet) c).vent, (humidityLoop r (w.sampled wet) c).spray) =
      if w.state = .valid ∨ w.state = .holding then (c.vent, c.spray) else (0, 0) := by
  rw [sampled_eq, if_neg hw]
  cases hs : w.state <;> simp [humidityLoop, hs]

theorem periodJudged_deviation_loops {dry wet : Int} {s : State} {r : ChargeRecord} {sp : Int}
    (hz : s.straps.role = .zone) (hr : s.currentRecord = some r) (hsp : s.climate.spActive = some sp)
    (hd : -400 ≤ dry ∧ dry ≤ 1300) (hj : s.schedule.position.judgesDeviation = true) (hm : s.schedule.mode = .run) :
    (periodJudged dry wet s).climate.deviation =
        (if (r.deviationBand : Int) < |dry - sp| then min (15 * r.deviationTime) (s.climate.deviation + 1) else 0)
      ∧ ((climatePeriod (periodSampled dry wet s)).deviationLatches = true ↔
          (r.deviationBand : Int) < |dry - sp|
            ∧ min (15 * r.deviationTime) (s.climate.deviation + 1) = 15 * r.deviationTime
            ∧ s.climate.deviation ≠ min (15 * r.deviationTime) (s.climate.deviation + 1)) := by
  set u := climatePeriod (periodSampled dry wet s) with hu
  have hforce : u.deviationInForce = true := (deviationInForce_iff dry wet s).2 ⟨hz, hj, hm, hd⟩
  have hrec : u.currentRecord = some r := by rw [currentRecord_of_store (s := s) (by simp [hu])]; exact hr
  obtain ⟨hspu, -, hdevu⟩ := climatePeriod_spActive (periodSampled dry wet s)
  have hnot : s.sensors.dry.loses dry = false := by
    rw [Bool.eq_false_iff, Ne, loses_iff]; exact fun h => h.1 hd
  have hdev : u.climate.deviation = s.climate.deviation := by
    rw [hu, hdevu, periodSampled_climate, sampledState_climate]; simp [hnot]
  have hout : u.outsideBand r = true ↔ (r.deviationBand : Int) < |dry - sp| := by
    have hdb : u.dryBulb = some dry := by
      rw [hu, dryBulb_of_sensors (s := sampledState dry wet s) (by simp [periodSampled_sensors]), sampledState_dryBulb,
        if_pos hd]
    have hspa : u.climate.spActive = some sp := by
      rw [hu, hspu, periodSampled_climate, sampledState_climate]; exact hsp
    unfold State.outsideBand
    rw [hdb, hspa]
    simp
  have hafter : u.deviationAfter =
      if (r.deviationBand : Int) < |dry - sp| then min (15 * r.deviationTime) (s.climate.deviation + 1) else 0 := by
    unfold State.deviationAfter
    rw [hrec]
    simp only [hforce, hout, hdev, true_and, deviationLimitOf]
  refine ⟨by rw [periodJudged_climate]; exact hafter, ?_⟩
  unfold State.deviationLatches
  rw [hrec]
  simp only [hforce, Bool.true_and, Bool.and_eq_true, hout, decide_eq_true_eq, hafter, hdev, deviationLimitOf, and_assoc]
  by_cases hb : (r.deviationBand : Int) < |dry - sp|
  · simp [hb]
  · simp [hb]

/-- What the sampling leaves of the outputs in LOOPS on a ZONE station (R153, R154). -/
theorem sampledState_loops {dry wet : Int} {s : State} (hz : s.straps.role = .zone) (hreg : s.climate.regime = .loops) :
    ((sampledState dry wet s).climate.heat, (sampledState dry wet s).climate.integral) =
        (if ¬(-400 ≤ dry ∧ dry ≤ 1300) ∧ s.sensors.dry.state = .awaiting then (0, 0)
        else (s.climate.heat, s.climate.integral))
      ∧ ((sampledState dry wet s).climate.vent, (sampledState dry wet s).climate.spray) =
        (if ¬(-400 ≤ wet ∧ wet ≤ 1300) ∧ s.sensors.wet.state = .awaiting then (0, 0)
        else (s.climate.vent, s.climate.spray)) := by
  rw [sampledState_climate]
  simp only [← loses_iff]
  constructor
  · by_cases hl : s.sensors.dry.loses dry = true <;> simp [hl, hz]
  · by_cases hl : s.sensors.wet.loses wet = true <;> simp [hl, hz, hreg]

/-- A loop position other than WARMUP judges the deviation (R155). -/
theorem judgesDeviation_iff {p : Position} (h : p.isLoop = true) : p.judgesDeviation = true ↔ p ≠ .warmup := by
  cases p <;> simp_all [Position.isLoop, Position.judgesDeviation]

/-- Settles O18: the loops of R148 and R150 on the samples, then the deviation count of R155. -/
theorem controlPeriodRunsLoops : Obligations.ControlPeriodRunsLoops := by
  intro dry wet s r sp dep available hz hreg hp hr hsp hdep havail
  rw [← sampledState_dryBulb dry wet s] at havail
  subst havail
  refine ⟨_, rfl, ?_⟩
  obtain ⟨td, tp, ad, dv, hclimate⟩ := controlPeriod_in_loops (dry := dry) (wet := wet) hp
  have hloops := climatePeriod_loops (dry := dry) (wet := wet) hz hreg hr
  obtain ⟨hheat, hvent⟩ := sampledState_loops (dry := dry) (wet := wet) hz hreg
  have hcsp : (sampledState dry wet s).climate.spActive = some sp := by rw [sampledState_climate]; exact hsp
  have hcdep : (sampledState dry wet s).climate.activeDep = some dep := by rw [sampledState_climate]; exact hdep
  have hsettle : (sampledState dry wet s).climate.settleTimer = s.climate.settleTimer := by rw [sampledState_climate]
  refine ⟨?_, fun h0 => ?_, fun h0 => ?_, fun h1 h2 hw hm => ?_, fun h => ?_⟩
  · rw [hclimate, periodJudged_climate]
    exact (climatePeriod_spActive _).1.trans (by rw [periodSampled_climate, hcsp])
  · rw [if_pos h0] at hloops
    rw [hclimate, periodJudged_climate, hloops]
    obtain ⟨hh, hi, -⟩ := humidityLoop_heat r (s.sensors.wet.sampled wet)
      (heatLoop r (sampledState dry wet s).dryBulb (sampledState dry wet s).climate)
    obtain ⟨hv, hsy, hls, hld, -⟩ := heatLoop_vent r (sampledState dry wet s).dryBulb (sampledState dry wet s).climate
    refine ⟨fun db e i hdb he hieq => ?_, fun hnone => ?_, fun ew hw1 hw2 hew => ?_, fun hw => ?_⟩
    · have hkeep : (sampledState dry wet s).climate.heat = s.climate.heat
          ∧ (sampledState dry wet s).climate.integral = s.climate.integral := by
        rw [sampledState_climate]; simp [loses_of_available hdb]
      obtain ⟨hint, hht⟩ := heatLoop_available (r := r) (db := db) hcsp
      rw [hkeep.1, hkeep.2] at hint
      dsimp only
      rw [hh, hi, hdb, hht, hint, hieq, he]
      exact ⟨rfl, rfl⟩
    · dsimp only
      rw [hh, hi, hnone]
      exact ⟨rfl, rfl⟩
    · dsimp only
      rw [sampled_eq, if_pos ⟨hw1, hw2⟩, hew]
      exact humidityLoop_valid (hls.trans hcsp) (hld.trans hcdep)
    · dsimp only
      rw [humidityLoop_faulty hw, hv, hsy]
      by_cases hst : s.sensors.wet.state = .valid ∨ s.sensors.wet.state = .holding
      · rw [if_pos hst, if_pos hst, hvent, if_neg]
        rintro ⟨-, ha⟩
        rw [ha] at hst; simp at hst
      · rw [if_neg hst, if_neg hst]
  · rw [if_neg h0] at hloops
    rw [hclimate, periodJudged_climate, hloops]
    exact ⟨hheat, hvent, hsettle⟩
  · obtain ⟨hdev, hlatch⟩ := periodJudged_deviation_loops (wet := wet) hz hr hsp ⟨h1, h2⟩ ((judgesDeviation_iff hp).2 hw) hm
    refine ⟨by rw [controlPeriod_past_warmup hp hw]; exact hdev, fun hb hlim => ?_, fun hno => ?_⟩
    · rw [controlPeriod_past_warmup hp hw, periodJudged, judgeDeviation_eq, hlatch.2 ⟨hb, by omega, by omega⟩]
      exact latchAll_latched _ _ _ (by simp)
    · refine controlPeriod_deviation_stamp (Bool.eq_false_iff.2 fun hl => ?_)
      obtain ⟨hb, hlim, hne⟩ := hlatch.1 hl
      omega
  · refine controlPeriod_deviation_zero (periodJudged_deviation_zero (.inl (Bool.eq_false_iff.2 fun hf => ?_))).1
    obtain ⟨-, hj, hm, hd⟩ := (deviationInForce_iff dry wet s).1 hf
    obtain h | h | h := h
    · exact h hd
    · exact (judgesDeviation_iff hp).1 hj h
    · exact h hm

end Sys2Proof.Machine
end

section
/-! The kiln bus controller's transmit side (chapters 3 and 4): the report timer, attempts, their failure and completion. -/

namespace Sys2Proof.Machine

/-! ## Slots (TABLE 3-4) -/

theorem anyEligible_of_report {sl : Slots} {n : Nat} (h : sl.report = some n) : sl.anyEligible = true :=
  (anyEligible_iff sl).2 ⟨.report, by simp [Slots.eligible, Slots.failedOf, h]⟩

theorem anyEligible_of_offer {sl : Slots} {o : OfferSlot} (h : sl.offer = some o) : sl.anyEligible = true :=
  (anyEligible_iff sl).2 ⟨.offer, by simp [Slots.eligible, Slots.failedOf, h]⟩

theorem withSlots_eq_of_eligible {b : Bus} {sl : Slots} (h : sl.anyEligible = true) :
    b.withSlots sl =
      { b with slots := sl, blockedTimer := if b.slots.anyEligible then b.blockedTimer else 38400 } := by
  simp [Bus.withSlots, h, blockedTime, seconds]

/-- Settles O22: the setting of the REPORT slot, discarded under the latch and idle on a set slot. -/
theorem reportTimerSetsSlot : Obligations.ReportTimerSetsSlot := by
  intro s
  refine ⟨_, rfl, rfl, fun hc => ?_, fun hc => ?_, by simp [onlyChanges_iff]⟩
  · change s.bus.setReportSlot = s.bus
    simp [Bus.setReportSlot, hc]
  · change s.bus.setReportSlot = _
    cases hr : s.bus.slots.report with
    | none =>
      have hset : s.bus.setReportSlot = s.bus.withSlots { s.bus.slots with report := some 0 } := by
        simp [Bus.setReportSlot, hc, hr]
      rw [hset, withSlots_eq_of_eligible (anyEligible_of_report rfl)]
      rfl
    | some n =>
      have hset : s.bus.setReportSlot = s.bus := by simp [Bus.setReportSlot, hr]
      have hkept : some ((some n).getD 0) = s.bus.slots.report := by rw [hr]; rfl
      rw [hset, if_pos (anyEligible_of_report hr), hkept]

theorem Slots.failedOf_setFailed_ne (sl : Slots) (n : Nat) {k j : FrameKind} (h : j ≠ k) :
    (sl.setFailed n k).failedOf j = sl.failedOf j := by
  cases k <;> cases j <;> first | rfl | exact absurd rfl h

theorem Slots.failedOf_setFailed_self (sl : Slots) (n m : Nat) {k : FrameKind} (h : sl.failedOf k = some m) :
    (sl.setFailed n k).failedOf k = some n := by
  cases k <;> obtain ⟨safe, directive, spacing, offer, report⟩ := sl
  · cases safe <;> simp_all [Slots.failedOf, Slots.setFailed]
  · cases directive <;> simp_all [Slots.failedOf, Slots.setFailed]
  · cases offer <;> simp_all [Slots.failedOf, Slots.setFailed]
  · cases report <;> simp_all [Slots.failedOf, Slots.setFailed]

theorem Slots.setFailed_spacing (sl : Slots) (n : Nat) (k : FrameKind) : (sl.setFailed n k).spacing = sl.spacing := by
  cases k <;> rfl

/-- The other slots after a transmission of a directive. -/
theorem afterTransmission_others (sl : Slots) :
    (afterTransmission sl).safe = sl.safe ∧ (afterTransmission sl).offer = sl.offer
      ∧ (afterTransmission sl).report = sl.report := by
  unfold afterTransmission
  split
  · exact ⟨rfl, rfl, rfl⟩
  · split <;> exact ⟨rfl, rfl, rfl⟩

theorem Slots.failedOf_finished_ne (sl : Slots) {k j : FrameKind} (h : j ≠ k) :
    (sl.finished k).failedOf j = sl.failedOf j := by
  obtain ⟨h1, h2, h3⟩ := afterTransmission_others sl
  by_cases hk : k = .directive
  · subst hk
    cases j with
    | safe => exact h1
    | directive => exact absurd rfl h
    | offer => exact congrArg (Option.map (·.failed)) h2
    | report => exact h3
  · cases k <;> cases j <;> first | rfl | exact absurd rfl h | exact absurd rfl hk

theorem Slots.failedOf_finished_self (sl : Slots) {k : FrameKind} (h : k ≠ .directive) :
    (sl.finished k).failedOf k = none := by
  cases k <;> first | rfl | exact absurd rfl h

/-- A directive transmitted: its last time, or once more after 500 ms (R52). -/
theorem finished_directive {sl : Slots} {d : DirectiveSlot} (h : sl.directive = some d) :
    (d.remaining ≤ 1 → (sl.finished .directive).directive = none)
      ∧ (1 < d.remaining →
        (sl.finished .directive).directive = some { d with remaining := d.remaining - 1, failed := 0 }
          ∧ (sl.finished .directive).spacing = 9600) := by
  unfold Slots.finished afterTransmission
  rw [h]
  dsimp only
  constructor
  · intro hd
    rw [if_pos hd]
  · intro hd
    rw [if_neg (by omega)]
    exact ⟨rfl, rfl⟩

theorem attemptLimit_eq (k : FrameKind) : k.attemptLimit = if k = .safe then 32 else 8 := by cases k <;> rfl

/-- Settles O24: the count below its limit, or the frame dropped. -/
theorem attemptFailureCountsOrDrops : Obligations.AttemptFailureCountsOrDrops := by
  intro s a n ha hn
  have hsome : s.bus.attempt.isSome = true := by rw [ha]; rfl
  have htold : attemptFailTold s = (attemptFail s).setBus { (attemptFail s).bus with runBytes := none } := by
    unfold attemptFailTold; rw [if_pos hsome]
  refine ⟨_, rfl, ?_⟩
  rw [htold]
  by_cases hlim : n + 1 < a.kind.attemptLimit
  · have hfail : attemptFail s = s.setBus (s.bus.lineReleased.withSlots (s.bus.slots.setFailed (n + 1) a.kind)) := by
      have hn' : s.bus.lineReleased.slots.failedOf a.kind = some n := hn
      unfold attemptFail
      rw [ha]
      dsimp only
      rw [hn']
      exact if_pos hlim
    rw [hfail]
    rw [attemptLimit_eq] at hlim
    exact ⟨rfl, rfl, rfl, fun k hk => Slots.failedOf_setFailed_ne _ _ hk,
      fun _ => ⟨Slots.failedOf_setFailed_self _ _ _ hn, Slots.setFailed_spacing _ _ _, by simp [onlyChanges_iff]⟩,
      fun h => by omega⟩
  · have hfail : attemptFail s =
        latch .frameDropped (s.setBus (s.bus.lineReleased.withSlots (s.bus.slots.finished a.kind))) := by
      have hn' : s.bus.lineReleased.slots.failedOf a.kind = some n := hn
      unfold attemptFail
      rw [ha]
      dsimp only
      rw [hn']
      exact if_neg hlim
    have hbus : (attemptFail s).bus = s.bus.lineReleased.withSlots (s.bus.slots.finished a.kind) := by
      rw [hfail]; simp
    rw [attemptLimit_eq] at hlim
    simp only [State.setBus_bus, hbus]
    refine ⟨rfl, rfl, rfl, fun k hk => Slots.failedOf_finished_ne _ hk, fun h => absurd h hlim, fun _ => ⟨?_,
      fun hk => Slots.failedOf_finished_self _ hk, fun d hk hd => ?_, ?_⟩⟩
    · rw [State.setBus_attention, hfail]; exact latch_latched _ _
    · rw [withSlots_slots, hk]
      exact finished_directive hd
    · rw [hfail]; simp [onlyChanges_iff]

/-- Settles O25: the slot of the attempt's kind after the frame is sent. -/
theorem attemptCompletionEmptiesSlot : Obligations.AttemptCompletionEmptiesSlot := by
  intro s a ha
  set b := ({ s.bus.lineReleased with ownSent := some a.bytes } : Bus).withSlots (s.bus.slots.finished a.kind) with hb
  have heq : attemptComplete s =
      if a.kind = .offer then (s.setBus b).setStore { s.store with holdoff := holdoffTime } else s.setBus b := by
    unfold attemptComplete
    rw [ha]; rfl
  have hbus : (attemptComplete s).bus = b := by rw [heq]; split <;> rfl
  refine ⟨_, rfl, ?_⟩
  rw [hbus]
  refine ⟨rfl, rfl, rfl, rfl, fun k hk => Slots.failedOf_finished_ne _ hk, fun hk => Slots.failedOf_finished_self _ hk,
    fun d hk hd => ?_, ?_, ?_⟩
  · rw [hb, withSlots_slots, hk]
    exact finished_directive hd
  · rw [heq]; split <;> rfl
  · rw [heq]; split <;> simp [onlyChanges_iff]

/-! ## The attempt that begins (R47, R48) -/

theorem requiredQuiet_eq (station n : Nat) (k : FrameKind) :
    requiredQuiet station k n = 40 + tableBase k + 2 * station + 8 * n := by cases k <;> rfl

/-- No two slots of one station have one required quiet time: the class bases differ modulo 8 (TABLE 3-3). -/
theorem requiredQuiet_inj {station m n : Nat} {j k : FrameKind} (h : j ≠ k) :
    requiredQuiet station j m ≠ requiredQuiet station k n := by
  unfold requiredQuiet
  cases j <;> cases k <;> simp only [FrameKind.classBase] <;> first | exact absurd rfl h | omega

/-- The best of some kinds: one of them with its time, below that of every other. -/
structure Slots.Best (sl : Slots) (station : Nat) (ks : List FrameKind) (x : Option (FrameKind × Nat)) : Prop where
  found : ∀ y, x = some y → sl.quietOf station y.1 = some y.2
  least : ∀ k ∈ ks, ∀ q, sl.quietOf station k = some q → ∃ y, x = some y ∧ y.2 ≤ q

theorem Slots.Best.earlier {sl : Slots} {station : Nat} {ks : List FrameKind} {x : Option (FrameKind × Nat)}
    (h : sl.Best station ks x) (k : FrameKind) :
    sl.Best station (k :: ks) (earlier x ((sl.quietOf station k).map fun q => (k, q))) := by
  obtain ⟨hfound, hleast⟩ := h
  cases hq : sl.quietOf station k with
  | none =>
    cases x with
    | none =>
      refine ⟨fun y hy => by simp [Machine.earlier] at hy, fun j hj q hjq => ?_⟩
      rcases List.mem_cons.1 hj with rfl | hj
      · rw [hq] at hjq; cases hjq
      · obtain ⟨y, hy, -⟩ := hleast j hj q hjq; cases hy
    | some z =>
      refine ⟨hfound, fun j hj q hjq => ?_⟩
      rcases List.mem_cons.1 hj with rfl | hj
      · rw [hq] at hjq; cases hjq
      · exact hleast j hj q hjq
  | some q0 =>
    cases x with
    | none =>
      refine ⟨fun y hy => by cases hy; exact hq, fun j hj q hjq => ⟨(k, q0), rfl, ?_⟩⟩
      rcases List.mem_cons.1 hj with rfl | hj
      · rw [hq] at hjq; cases hjq; exact le_rfl
      · obtain ⟨y, hy, -⟩ := hleast j hj q hjq; cases hy
    | some z =>
      simp only [Machine.earlier, Option.map_some]
      by_cases hlt : q0 < z.2
      · rw [if_pos hlt]
        refine ⟨fun y hy => by cases hy; exact hq, fun j hj q hjq => ⟨(k, q0), rfl, ?_⟩⟩
        rcases List.mem_cons.1 hj with rfl | hj
        · rw [hq] at hjq; cases hjq; exact le_rfl
        · obtain ⟨y, hy, hle⟩ := hleast j hj q hjq
          cases hy
          exact hlt.le.trans hle
      · rw [if_neg hlt]
        refine ⟨hfound, fun j hj q hjq => ?_⟩
        rcases List.mem_cons.1 hj with rfl | hj
        · rw [hq] at hjq; cases hjq; exact ⟨z, rfl, by omega⟩
        · exact hleast j hj q hjq

theorem Slots.next_best (sl : Slots) (station : Nat) : sl.Best station FrameKind.all.reverse (sl.next station) := by
  have h0 : sl.Best station [] none := ⟨nofun, nofun⟩
  exact (((h0.earlier .safe).earlier .directive).earlier .offer).earlier .report

theorem quietOf_eligible {sl : Slots} {station : Nat} {k : FrameKind} {q : Nat} (h : sl.quietOf station k = some q) :
    sl.eligible k = true ∧ ∃ n, sl.failedOf k = some n ∧ q = requiredQuiet station k n := by
  unfold Slots.quietOf at h
  split at h
  next he =>
    obtain ⟨n, hn, rfl⟩ := Option.map_eq_some_iff.1 h
    exact ⟨he, n, hn, rfl⟩
  next => cases h

theorem quietOf_of_eligible {sl : Slots} {k : FrameKind} {n : Nat} (he : sl.eligible k = true)
    (hn : sl.failedOf k = some n) (station : Nat) : sl.quietOf station k = some (requiredQuiet station k n) := by
  simp [Slots.quietOf, he, hn]

theorem eligible_iff (sl : Slots) (k : FrameKind) :
    sl.eligible k = true ↔ sl.failedOf k ≠ none ∧ (k = .directive → sl.spacing = 0) := by
  cases k <;> simp [Slots.eligible, Slots.failedOf, Option.isSome_iff_ne_none]

/-- With a slot eligible the one of the smallest required quiet time is found, and no other has as small a one (R47). -/
theorem next_smallest {sl : Slots} (h : sl.anyEligible = true) (station : Nat) :
    ∃ k n, sl.next station = some (k, requiredQuiet station k n) ∧ sl.eligible k = true ∧ sl.failedOf k = some n
      ∧ ∀ k' n', k' ≠ k → sl.eligible k' = true → sl.failedOf k' = some n' →
          requiredQuiet station k n < requiredQuiet station k' n' := by
  obtain ⟨hfound, hleast⟩ := sl.next_best station
  have hall : ∀ k : FrameKind, k ∈ FrameKind.all.reverse := fun k => by cases k <;> decide
  obtain ⟨k0, hk0⟩ := (anyEligible_iff sl).1 h
  obtain ⟨n0, hn0⟩ := Option.ne_none_iff_exists'.1 ((eligible_iff sl k0).1 hk0).1
  obtain ⟨⟨k, q⟩, hnext, -⟩ := hleast k0 (hall k0) _ (quietOf_of_eligible hk0 hn0 station)
  obtain ⟨he, n, hn, hq⟩ := quietOf_eligible (hfound _ hnext)
  dsimp only at he hn hq
  subst hq
  refine ⟨k, n, hnext, he, hn, fun k' n' hne he' hn' => ?_⟩
  obtain ⟨y, hy, hle⟩ := hleast k' (hall k') _ (quietOf_of_eligible he' hn' station)
  rw [hnext] at hy
  cases hy
  exact lt_of_le_of_ne hle (requiredQuiet_inj hne.symm)

/-! ## The frame of an attempt (TABLE 3-2) -/

theorem frameBytes_length (f : Frame) : (frameBytes f).length = 9 + f.payload.length := by
  simp only [frameBytes, frameBody, be16, List.length_cons, List.length_append, List.length_nil]
  omega

/-- A frame's first level is its first byte's start bit. -/
theorem drives_first (f : Frame) (k : FrameKind) (b : Bus)
    (ha : b.attempt = some { kind := k, bytes := frameBytes f, released := false })
    (hb : b.byteBits = busBits (frameBytes f)) : b.drives = .dominant := by
  unfold Bus.drives
  rw [ha]
  simp only [Attempt.drives, hb, Nat.sub_self, Bool.false_eq_true, if_false]
  simp [frameLevels, frameBytes, byteLevels, List.flatMap_cons]

theorem reportData_carries (s : State) :
    s.reportData.charge = s.currentNumber ∧ s.reportData.role = s.straps.role
      ∧ s.reportData.position = s.schedule.position ∧ s.reportData.mode = s.schedule.mode
      ∧ s.reportData.check = s.currentCheck ∧ s.reportData.dryBulb = s.dryBulb
      ∧ (s.reportData.basis, s.reportData.controlling) =
          (if ∀ r ∈ s.readings, r.flags.invalid = true then (0, none)
          else match s.picture with | some p => (p.basis, p.controlling) | none => (0, none))
      ∧ s.reportData.readings =
          (s.readings.filter fun r =>
            match s.currentRecord with | some c => c.maskHas s.straps.station r.channel | none => true).map
            fun r => { channel := r.channel, mc := r.mc, flags := r.flags } := by
  refine ⟨rfl, rfl, rfl, rfl, rfl, rfl, ?_, ?_⟩
  · have hiff : s.cannotMeasure = true ↔ ∀ r ∈ s.readings, r.flags.invalid = true := by
      simp [State.cannotMeasure]
    simp only [State.reportData, State.pictureBasis]
    by_cases h : s.cannotMeasure = true
    · rw [if_pos h, if_pos h, if_pos (hiff.1 h)]
    · rw [if_neg h, if_neg h, if_neg fun hr => h (hiff.2 hr)]
      cases s.picture <;> rfl
  · simp only [State.reportData, State.reportedReadings]
    congr 1

theorem directivePayload_eq (d : DirectiveSlot) :
    directivePayload d =
      [byteOf d.kind.code, d.code.extractLsb' 8 8, d.code.extractLsb' 0 8, d.targetPhase, d.targetStep] := by
  have hhigh : byteOf (d.code.toNat / 256) = d.code.extractLsb' 8 8 := by
    apply BitVec.eq_of_toNat_eq
    simp [byteOf, BitVec.extractLsb'_toNat, Nat.shiftRight_eq_div_pow]
  have hlow : byteOf d.code.toNat = d.code.extractLsb' 0 8 := by
    apply BitVec.eq_of_toNat_eq
    simp [byteOf, BitVec.extractLsb'_toNat]
  simp [directivePayload, be16, hhigh, hlow]

/-- A set slot's frame is there, and carries what its kind lays down (R48). -/
theorem slotFrame_carries {s : State} (h : s.OfferNamed) {k : FrameKind} {n : Nat} (hn : s.bus.slots.failedOf k = some n) :
    ∃ f, s.slotFrame k = some f ∧ s.CarriesFrame k f := by
  cases k
  case safe =>
    have hn' : s.bus.slots.safe = some n := hn
    exact ⟨s.frameOf .safe s.currentNumber [emergencyCause], by simp [State.slotFrame, hn'], rfl, rfl, rfl, rfl, rfl⟩
  case directive =>
    obtain ⟨d, hd, -⟩ := Option.map_eq_some_iff.1 hn
    exact ⟨s.frameOf .directive d.charge.toNat (directivePayload d), by simp [State.slotFrame, hd], rfl, rfl, rfl, d, hd,
      rfl, directivePayload_eq d⟩
  case offer =>
    obtain ⟨o, ho, -⟩ := Option.map_eq_some_iff.1 hn
    obtain ⟨r, hr⟩ := Option.ne_none_iff_exists'.1 (h o ho)
    have hrank : s.store.inRank o.rank = some r := by
      unfold Store.inRank
      cases hrk : o.rank <;> simpa [hrk] using hr
    exact ⟨s.frameOf .offer r.record.chargeNumber (encodeRecord r.record), by simp [State.slotFrame, ho, hrank], rfl, rfl,
      rfl, o, r, ho, hr, rfl, rfl⟩
  case report =>
    have hn' : s.bus.slots.report = some n := hn
    exact ⟨s.frameOf .report s.currentNumber (reportPayload s.reportData), by simp [State.slotFrame, hn'], rfl, rfl, rfl,
      rfl, s.reportData, rfl, reportData_carries s⟩

/-- Settles O23: the smallest required quiet time belongs to one eligible slot, whose frame is built and driven. -/
theorem attemptBeginsAtSmallestQuiet : Obligations.AttemptBeginsAtSmallestQuiet := by
  intro s hclash hattempt hany hnamed
  obtain ⟨k, n, hnext, he, hn, hleast⟩ := next_smallest hany s.straps.station
  obtain ⟨f, hf, hcarries⟩ := slotFrame_carries hnamed hn
  have heq : attemptBegin s =
      s.setBus
        { s.bus with
          attempt := some { kind := k, bytes := frameBytes f, released := false }, quiet := 0
          byteBits := 11 * (9 + f.payload.length), levels := [], runOpen := true, runBytes := some [] } := by
    have hbits : busBits (frameBytes f) = 11 * (9 + f.payload.length) := by
      rw [busBits, frameBytes_length]; rfl
    unfold attemptBegin
    simp only [hclash, hattempt, hnext, hf, hbits]
    rfl
  refine ⟨_, k, n, f, rfl, he, hn, hf, hcarries, fun k' n' hne he' hn' => ?_, eligible_iff s.bus.slots, ?_⟩
  · rw [← requiredQuiet_eq, ← requiredQuiet_eq]
    exact hleast k' n' hne he' hn'
  · rw [heq]
    refine ⟨rfl, drives_first f k _ rfl ?_, by simp [onlyChanges_iff]⟩
    rw [busBits, frameBytes_length]; rfl

end Sys2Proof.Machine
end

section
/-! The encoding of a charge record as TABLE 6-1 lays it out, and the encodings that are judged valid (R89 to R93). -/

namespace Sys2Proof.Machine

/-! ## Writing back the fields of a byte string (0.7.3) -/

theorem take_one_drop {bs : List Byte} {i : Nat} (h : i < bs.length) : (bs.drop i).take 1 = [bs.getD i 0] := by
  rw [List.drop_eq_getElem_cons h, List.take_succ_cons, List.take_zero, List.getD_eq_getElem _ _ h]

theorem take_drop_append (bs : List Byte) {i j a b : Nat} (h : j = i + a) :
    (bs.drop i).take a ++ (bs.drop j).take b = (bs.drop i).take (a + b) := by
  rw [List.take_add, List.drop_drop, h]

theorem take_two_drop {bs : List Byte} {i : Nat} (h : i + 1 < bs.length) :
    (bs.drop i).take 2 = [bs.getD i 0, bs.getD (i + 1) 0] := by
  rw [← take_drop_append bs (b := 1) rfl, take_one_drop (by omega), take_one_drop h]
  rfl

theorem byteOf_u8 {bs : List Byte} {i : Nat} (h : i < bs.length) : [byteOf (u8 bs i)] = (bs.drop i).take 1 := by
  rw [take_one_drop h, u8, byteOf, BitVec.ofNat_toNat, BitVec.setWidth_eq]

theorem be16_u16 {bs : List Byte} {i : Nat} (h : i + 1 < bs.length) : be16 (u16 bs i) = (bs.drop i).take 2 := by
  have hhi := (bs.getD i 0).isLt
  have hlo := (bs.getD (i + 1) 0).isLt
  rw [take_two_drop h, be16, u16, u8, u8, byteOf, byteOf]
  congr 1
  · exact BitVec.eq_of_toNat_eq (by rw [BitVec.toNat_ofNat]; omega)
  · congr 1
    exact BitVec.eq_of_toNat_eq (by rw [BitVec.toNat_ofNat]; omega)

theorem u16_lt (bs : List Byte) (i : Nat) : u16 bs i < 65536 := by
  have hhi := (bs.getD i 0).isLt
  have hlo := (bs.getD (i + 1) 0).isLt
  rw [u16, u8, u8]
  omega

theorem beS16_s16 {bs : List Byte} {i : Nat} (h : i + 1 < bs.length) : beS16 (s16 bs i) = (bs.drop i).take 2 := by
  rw [beS16, s16, BitVec.ofInt_toInt, BitVec.toNat_ofNat, Nat.mod_eq_of_lt (u16_lt bs i), be16_u16 h]

/-- Entries of one length, each the bytes at its place, are together the bytes from the first place on. -/
theorem flatMap_range_chunks {α : Type} {f : α → List Byte} {g : Nat → α} {bs : List Byte} {start w : Nat} (n : Nat)
    (h : ∀ i < n, f (g i) = (bs.drop (start + w * i)).take w) :
    ((List.range n).map g).flatMap f = (bs.drop start).take (w * n) := by
  induction n with
  | zero => simp
  | succ n ih =>
    rw [List.range_succ, List.map_append, List.flatMap_append, ih fun i hi => h i (by omega), List.map_singleton,
      List.flatMap_singleton, h n (by omega), take_drop_append bs rfl, Nat.mul_succ]

/-! ## The parts of a record read from a byte string -/

theorem encodeRoster_rosterAt {bs : List Byte} (h : 8 ≤ bs.length) :
    encodeRoster (rosterAt bs) = (bs.drop 4).take 4 := by
  have hbytes : (bs.drop 4).take 4 = [bs.getD 4 0, bs.getD 5 0, bs.getD 6 0, bs.getD 7 0] := by
    rw [← take_drop_append bs (a := 2) (b := 2) rfl, take_two_drop (by omega), take_two_drop (by omega)]
    rfl
  rw [hbytes, encodeRoster, rosterAt]
  congr 1 <;> [skip; congr 1 <;> [skip; congr 1 <;> [skip; congr 1]]] <;>
    · ext i hi
      simp only [BitVec.getElem_extractLsb', BitVec.getLsbD_append]
      split_ifs <;> first | omega | (rw [← BitVec.getLsbD_eq_getElem hi]; congr 1; omega)

theorem masks_toList {bs : List Byte} (h : 42 ≤ bs.length) :
    (Vector.ofFn fun i : Fin 32 => bs.getD (10 + i.val) 0).toList = (bs.drop 10).take 32 := by
  refine List.ext_getElem (by simp; omega) fun i hi hi' => ?_
  rw [Vector.length_toList] at hi
  rw [Vector.getElem_toList, Vector.getElem_ofFn, List.getElem_take, List.getElem_drop, List.getD_eq_getElem _ _ (by omega)]

theorem curve_bytes {bs : List Byte} {n : Nat} (h : 76 + 4 * n ≤ bs.length) :
    (curveAt bs n).flatMap encodeBreakpoint = (bs.drop 76).take (4 * n) := by
  refine flatMap_range_chunks n fun i hi => ?_
  rw [encodeBreakpoint, be16_u16 (by omega), be16_u16 (by omega), take_drop_append bs (by omega)]

theorem basisCode_basisOf {n : Nat} (h : n ≤ 1) : basisCode (basisOf n) = n := by
  obtain rfl | rfl : n = 0 ∨ n = 1 := by omega
  · rfl
  · rfl

theorem steps_bytes {bs : List Byte} {start count : Nat} (h : start + 11 * count ≤ bs.length)
    (hbasis : basisBytesValid bs start count = true) :
    (stepsAt bs start count).flatMap encodeStep = (bs.drop start).take (11 * count) := by
  refine flatMap_range_chunks count fun i hi => ?_
  have hcode : u8 bs (start + 11 * i + 6) ≤ 1 := by
    simpa using List.all_eq_true.1 hbasis i (List.mem_range.2 hi)
  simp only [encodeStep, basisCode_basisOf hcode, List.append_assoc]
  rw [be16_u16 (by omega), beS16_s16 (by omega), be16_u16 (by omega), byteOf_u8 (by omega), be16_u16 (by omega),
    be16_u16 (by omega), take_drop_append bs (by omega), take_drop_append bs (by omega), take_drop_append bs (by omega),
    take_drop_append bs (by omega), take_drop_append bs (by omega)]

theorem fixedFields_recordOf {bs : List Byte} (h : 75 ≤ bs.length) : fixedFields (recordOf bs) = bs.take 75 := by
  unfold fixedFields recordOf
  simp (disch := omega) only [be16_u16, beS16_s16, byteOf_u8, encodeRoster_rosterAt, masks_toList, take_drop_append]
  rfl

/-- A byte string of a record's length, with hold basis codes throughout, is the encoding of the record it shows. -/
theorem encodeRecord_recordOf {bs : List Byte} {n count : Nat} (hn : n = u8 bs 75) (hcount : count = u8 bs (76 + 4 * n))
    (hlen : bs.length = 77 + 4 * n + 11 * count) (hbasis : basisBytesValid bs (77 + 4 * n) count = true) :
    encodeRecord (recordOf bs) = bs := by
  have hcurve : (recordOf bs).curve = curveAt bs n := by rw [hn]; rfl
  have hsteps : (recordOf bs).steps = stepsAt bs (77 + 4 * n) count := by subst hn hcount; rfl
  have hcurveLength : [byteOf (recordOf bs).curve.length] = (bs.drop 75).take 1 := by
    rw [hcurve, curveAt, List.length_map, List.length_range, hn, byteOf_u8 (by omega)]
  have hstepsLength : [byteOf (recordOf bs).steps.length] = (bs.drop (76 + 4 * n)).take 1 := by
    rw [hsteps, stepsAt, List.length_map, List.length_range, hcount, byteOf_u8 (by omega)]
  rw [encodeRecord_eq, encodeHead, fixedFields_recordOf (by omega), hcurveLength, hstepsLength, hcurve, hsteps,
    curve_bytes (by omega), steps_bytes (by omega) hbasis, take_drop_append bs rfl, take_drop_append bs rfl,
    ← List.drop_zero (l := bs.take 75), List.drop_zero]
  conv_lhs => rw [← List.drop_zero (l := bs)]
  simp only [List.drop_drop, Nat.zero_add]
  rw [take_drop_append bs (by omega), take_drop_append bs (by omega), List.drop_zero, List.take_of_length_le (by omega)]

/-! ## The encodings judged valid (R92, R93) -/

theorem fieldStage_eq_valid_iff (bs : List Byte) (r : ChargeRecord) :
    fieldStage bs = .valid r ↔ r = recordOf bs ∧ ∀ c ∈ stageChecks bs, c.2 = true := by
  have hstage : fieldStage bs =
      match firstFailing (stageChecks bs) with | some k => .range k | none => .valid (recordOf bs) := rfl
  have hnone : firstFailing (stageChecks bs) = none ↔ ∀ c ∈ stageChecks bs, c.2 = true := by
    simp [firstFailing, List.find?_eq_none]
  rw [hstage, ← hnone]
  cases firstFailing (stageChecks bs) <;> simp [eq_comm]

/-- Settles O39: past the structural stage the bytes are those of the record, and the field stage says that it is valid. -/
theorem validEncodingIsItsRecord : Obligations.ValidEncodingIsItsRecord := by
  intro bs r h
  rw [validateEncoding_eq bs rfl rfl] at h
  split_ifs at h with h1 h2 h3 h4 h5
  obtain ⟨rfl, hchecks⟩ := (fieldStage_eq_valid_iff bs r).1 h
  refine ⟨encodeRecord_recordOf rfl rfl (not_not.1 h5) ?_, List.all_eq_true.2 fun c hc => ?_⟩
  · exact hchecks (30, _) (List.mem_append_right _ (List.mem_singleton_self _))
  · exact hchecks c (List.mem_append_left _ hc)

theorem crc_of_valid {bs : List Byte} {r : ChargeRecord} (h : validateEncoding bs = .valid r) :
    ranked r = { record := r, check := crc bs } := by
  rw [ranked, recordCheck, (validEncodingIsItsRecord bs r h).1]

/-! ## The layout and the ranges (TABLE 6-1, TABLE 6-2) -/

theorem encodeStep_bytes (st : ScheduleStep) : encodeStep st = stepBytes st := by
  obtain ⟨advance, dryBulb, depression, basis, hold, maximum⟩ := st
  cases basis <;> rfl

theorem be16_eq_twoBytes (n : Nat) : be16 n = twoBytes n := rfl

theorem beS16_eq_signedBytes (x : Int) : beS16 x = signedBytes x := rfl

theorem encodeRoster_getLsbD (r : ChargeRecord) {station : Nat} (h1 : 1 ≤ station) (h32 : station ≤ 32) :
    ((encodeRoster r.roster).getD ((station - 1) / 8) 0).getLsbD ((station - 1) % 8) = r.onRoster station := by
  have hplace : (station - 1) / 8 < 4 := by omega
  have hbit : (station - 1) % 8 < 8 := Nat.mod_lt _ (by omega)
  have hbyte : ((encodeRoster r.roster).getD ((station - 1) / 8) 0)
      = r.roster.extractLsb' (8 * ((station - 1) / 8)) 8 := by
    generalize (station - 1) / 8 = q at hplace ⊢
    interval_cases q <;> rfl
  rw [hbyte, BitVec.getLsbD_extractLsb', ChargeRecord.onRoster, Nat.div_add_mod]
  simp [h1, hbit]

theorem recordLayout : RecordLayout := by
  refine fun r => ⟨encodeRoster r.roster, r.masks.toList, length_encodeRoster _, by simp, ?_, fun station h1 h32 =>
    ⟨encodeRoster_getLsbD r h1 h32, fun channel hc1 hc8 => ?_⟩, ?_⟩
  · have hcurve : r.curve.flatMap encodeBreakpoint = (r.curve.map breakpointBytes).flatten := rfl
    have hsteps : r.steps.flatMap encodeStep = (r.steps.map stepBytes).flatten := by
      rw [List.flatMap, funext encodeStep_bytes]
    unfold encodeRecord
    rw [hcurve, hsteps]
    simp only [be16_eq_twoBytes, beS16_eq_signedBytes, byteOf]
  · simp [ChargeRecord.maskHas, ChargeRecord.mask, hc1]
  · rw [encodeRecord_eq, List.length_append, length_encodeHead, length_flatMap_of_length length_encodeStep]

theorem recordRanges : RecordRanges := by
  intro r
  refine ⟨fun h k => ?_, fun h => List.all_eq_true.2 fun c hc => (fieldChecks_iff c hc).2 (h c.1)⟩
  by_cases h1 : 1 ≤ k
  · by_cases h30 : k ≤ 30
    · exact fieldOk_of_valid h h1 h30
    · exact not_imp_comm.1 le_thirty_of_not_fieldOk h30
  · obtain rfl : k = 0 := by omega
    exact trivial

theorem basisBytesValid_flatMap (steps : List ScheduleStep) (start : List Byte) :
    basisBytesValid (start ++ steps.flatMap encodeStep) start.length steps.length = true := by
  refine List.all_eq_true.2 fun i hi => ?_
  have hi := List.mem_range.1 hi
  have hdrop := drop_flatMap_append length_encodeStep [] hi
  rw [List.append_nil] at hdrop
  rw [decide_eq_true_eq, Nat.add_assoc, u8_append_right _ (Nat.le_add_right _ _), Nat.add_sub_cancel_left, ← u8_drop, hdrop,
    encodeStep]
  simp only [List.append_assoc]
  rw [u8_append_right _ (by simp), u8_append_right _ (by simp), u8_append_right _ (by simp)]
  simp only [length_be16, length_beS16, Nat.reduceSub]
  rw [u8_byteOf _ (basisCode_le _)]
  cases steps[i].basis <;> decide

/-- Settles O38: the bytes in their order, the thirty ranges, and the round trip of a valid record. -/
theorem recordRoundTrip : Obligations.RecordRoundTrip := by
  refine ⟨recordLayout, recordRanges, fun r h => ?_⟩
  have hfits := fits_of_valid h
  obtain ⟨-, -, -, -, ⟨-, hcurve⟩, -, ⟨-, hsteps⟩, -⟩ := id hfits
  have hcurveCount : u8 (encodeRecord r) 75 = r.curve.length := by
    rw [encodeRecord_eq, u8_curveCount (by omega)]
  have hstepCount : u8 (encodeRecord r) (76 + 4 * r.curve.length) = r.steps.length := by
    rw [encodeRecord_eq, u8_stepCount (by omega)]
  have hstage : validateEncoding (encodeRecord r) = fieldStage (encodeRecord r) := by
    rw [encodeRecord_eq]
    exact validateEncoding_encodeHead hfits (length_flatMap_of_length length_encodeStep _)
  rw [hstage, fieldStage_eq_valid_iff, recordOf_encodeRecord hfits]
  refine ⟨rfl, fun c hc => ?_⟩
  rw [stageChecks, hcurveCount, hstepCount, recordOf_encodeRecord hfits] at hc
  obtain hc | hc := List.mem_append.1 hc
  · exact List.all_eq_true.1 h c hc
  · rw [List.mem_singleton.1 hc, encodeRecord_eq, ← length_encodeHead]
    exact basisBytesValid_flatMap r.steps (encodeHead r)

end Sys2Proof.Machine
end

section
/-! The report of chapter 4 on the bus: its codes, its payload, and the reports that R61 accepts (TABLE 4-1 to TABLE 4-3). -/

namespace Sys2Proof.Machine

/-! ## Codes (TABLE 4-3) -/

theorem roleOf_eq_some_iff (n : Nat) (r : Role) : roleOf n = some r ↔ n = roleCode r := by
  unfold roleOf
  split_ifs <;> cases r <;> simp_all [roleCode]

theorem modeOf_eq_some_iff (n : Nat) (m : Mode) : modeOf n = some m ↔ n = modeCode m := by
  unfold modeOf
  split_ifs <;> cases m <;> simp_all [modeCode]

theorem positionOf_eq_some_iff (phase step : Nat) (p : Position) :
    positionOf phase step = some p ↔ phase = phaseCode p ∧ step = stepCode p := by
  unfold positionOf
  split_ifs with h3 h0
  · subst h3
    cases p <;> simp [phaseCode, stepCode, eq_comm]
  · cases p <;> simp [phaseCode, stepCode, h0, h3]
  · obtain rfl : step = 0 := not_not.1 h0
    split <;> cases p <;> simp_all [phaseCode, stepCode]

theorem flags_toByte (f : ReadingFlags) : f.toByte = flagByte f := by
  obtain ⟨o, s, u, w, d, i⟩ := f
  cases o <;> cases s <;> cases u <;> cases w <;> cases d <;> cases i <;> rfl

theorem flags_ofByte_toByte (f : ReadingFlags) : ReadingFlags.ofByte f.toByte = f := by
  obtain ⟨o, s, u, w, d, i⟩ := f
  cases o <;> cases s <;> cases u <;> cases w <;> cases d <;> cases i <;> rfl

theorem flags_toByte_spare (f : ReadingFlags) : f.toByte.getLsbD 6 = false ∧ f.toByte.getLsbD 7 = false := by
  obtain ⟨o, s, u, w, d, i⟩ := f
  cases o <;> cases s <;> cases u <;> cases w <;> cases d <;> cases i <;> exact ⟨rfl, rfl⟩

theorem flags_toByte_ofByte : ∀ b : Byte, b.getLsbD 6 = false → b.getLsbD 7 = false →
    (ReadingFlags.ofByte b).toByte = b := by
  decide

theorem reportCodes : ReportCodes := by
  refine ⟨rfl, rfl, rfl, rfl, rfl, fun _ => rfl, rfl, rfl, rfl, rfl, fun _ => rfl, fun p hp => ?_, rfl, rfl, rfl,
    flags_toByte⟩
  cases p with
  | drying k => exact absurd rfl (hp k)
  | _ => rfl

/-! ## Fields (0.7.3) -/

theorem be16_inj {a b : Nat} (ha : a ≤ 65535) (hb : b ≤ 65535) : be16 a = be16 b ↔ a = b := by
  refine ⟨fun h => ?_, fun h => h ▸ rfl⟩
  rw [← u16_be16 [] ha, ← u16_be16 [] hb, h]

theorem moistureField_eq_some_iff (n : Nat) (mc : Option Nat) :
    moistureField n = some mc ↔ n = mc.getD 0xFFFF ∧ ∀ m, mc = some m → m ≤ 800 := by
  unfold moistureField
  split_ifs with h1 h2 <;> cases mc <;> simp <;> omega

theorem moistureWord_le {mc : Option Nat} (h : ∀ m, mc = some m → m ≤ 800) : mc.getD 0xFFFF ≤ 65535 := by
  cases mc with
  | none => simp
  | some m => exact (h m rfl).trans (by omega)

theorem s16_eq_iff {bs : List Byte} {i : Nat} {t : Int} (hlo : -32768 ≤ t) (hhi : t ≤ 32767) :
    s16 bs i = t ↔ u16 bs i = (BitVec.ofInt 16 t).toNat := by
  have hlt := u16_lt bs i
  constructor
  · rintro rfl
    rw [s16, BitVec.ofInt_toInt, BitVec.toNat_ofNat, Nat.mod_eq_of_lt hlt]
  · intro h
    rw [s16, h, BitVec.ofNat_toNat, BitVec.setWidth_eq, BitVec.toInt_ofInt]
    exact Int.bmod_eq_of_le (by omega) (by omega)

theorem s16_of_absent {bs : List Byte} {i : Nat} (h : u16 bs i = 0x8000) : s16 bs i = -32768 := by
  rw [s16, h]
  rfl

theorem tempField_eq_some_iff (bs : List Byte) (i : Nat) (x : Option Int) :
    tempField bs i = some x ↔ be16 (u16 bs i) = optTemp x ∧ ∀ t, x = some t → -400 ≤ t ∧ t ≤ 1300 := by
  have hlt := u16_lt bs i
  unfold tempField
  cases x with
  | none =>
    rw [optTemp, be16_inj (by omega) (by omega)]
    split_ifs <;> simp_all
  | some t =>
    have hword : be16 (u16 bs i) = optTemp (some t) ↔ u16 bs i = (BitVec.ofInt 16 t).toNat :=
      be16_inj (by omega) (by have := (BitVec.ofInt 16 t).isLt; omega)
    rw [hword]
    constructor
    · intro h
      split_ifs at h with h1 h2
      · cases h
      obtain rfl : s16 bs i = t := by simpa using h
      exact ⟨(s16_eq_iff (by omega) (by omega)).1 rfl, fun u hu => by cases hu; exact h2⟩
    · rintro ⟨hu, ht⟩
      obtain ⟨hlo, hhi⟩ := ht t rfl
      have hs := (s16_eq_iff (bs := bs) (i := i) (by omega) (by omega)).2 hu
      rw [if_neg fun h => by have := s16_of_absent h; omega, hs, if_pos ⟨hlo, hhi⟩]

/-! ## Reading entries (TABLE 4-2) -/

/-- The checks of a reading entry (R61). -/
def ReportedReading.Passes (r : ReportedReading) : Prop :=
  1 ≤ r.channel ∧ r.channel ≤ 8 ∧ (∀ m, r.mc = some m → m ≤ 800)
    ∧ ¬(r.flags.openCircuit = true ∧ r.flags.shortCircuit = true) ∧ ¬(r.flags.wetLimit = true ∧ r.flags.dryLimit = true)
    ∧ (r.mc = none ↔ r.flags.openCircuit = true ∨ r.flags.shortCircuit = true ∨ r.flags.invalid = true)

theorem reportedValid_iff (b : Byte) {r : ReportedReading} (hmc : ∀ m, r.mc = some m → m ≤ 800) :
    reportedValid b r = true ↔ (b.getLsbD 6 = false ∧ b.getLsbD 7 = false) ∧ r.Passes := by
  unfold reportedValid ReportedReading.Passes ReadingFlags.noValue
  simp only [Bool.and_eq_true, inRange_iff, Bool.not_eq_true', Bool.and_eq_false_iff, beq_iff_eq]
  cases hr : r.mc <;> simp <;> grind

theorem take_four_drop {bs : List Byte} {i : Nat} (h : i + 3 < bs.length) :
    (bs.drop i).take 4 = byteOf (u8 bs i) :: be16 (u16 bs (i + 1)) ++ [bs.getD (i + 3) 0] := by
  rw [← take_drop_append bs (a := 1) (b := 3) rfl, ← take_drop_append bs (a := 2) (b := 1) rfl, take_one_drop h,
    ← byteOf_u8 (by omega), ← be16_u16 (by omega)]
  rfl

theorem reportedAt_eq_some_iff {p : List Byte} {i : Nat} (h : i + 3 < p.length) (r : ReportedReading) :
    reportedAt p i = some r ↔ encodeReported r = (p.drop i).take 4 ∧ r.Passes := by
  have hu8 : u8 p i ≤ 255 := by have := (p.getD i 0).isLt; rw [u8]; omega
  have hu16 := u16_lt p (i + 1)
  rw [take_four_drop h, encodeReported, optMoisture]
  constructor
  · intro hr
    unfold reportedAt at hr
    split at hr
    · cases hr
    next mc hmc =>
      obtain ⟨hword, hle⟩ := (moistureField_eq_some_iff _ _).1 hmc
      dsimp only at hr
      split_ifs at hr with hvalid
      cases hr
      obtain ⟨⟨h6, h7⟩, hpass⟩ := (reportedValid_iff _ hle).1 hvalid
      exact ⟨by rw [flags_toByte_ofByte _ h6 h7, hword]; rfl, hpass⟩
  · rintro ⟨hbytes, hpass⟩
    obtain ⟨-, h8, hle, -⟩ := id hpass
    have hmw := moistureWord_le hle
    obtain ⟨hchannel, hrest⟩ := List.cons.inj hbytes
    obtain ⟨hword, hflag⟩ := List.append_inj hrest rfl
    have hmc := (be16_inj hmw (by omega)).1 hword
    have hflags : p.getD (i + 3) 0 = r.flags.toByte := (List.cons.inj hflag).1.symm
    have hch : u8 p i = r.channel := by
      have := congrArg BitVec.toNat hchannel
      rw [byteOf, byteOf, BitVec.toNat_ofNat, BitVec.toNat_ofNat] at this
      omega
    unfold reportedAt
    rw [(moistureField_eq_some_iff _ r.mc).2 ⟨hmc.symm, hle⟩]
    dsimp only
    rw [hflags, flags_ofByte_toByte, hch]
    exact if_pos ((reportedValid_iff _ hle).2 ⟨flags_toByte_spare _, hpass⟩)

theorem allPresent_eq_some_iff {α : Type} (xs : List (Option α)) (ys : List α) :
    allPresent xs = some ys ↔ xs = ys.map some := by
  induction xs generalizing ys with
  | nil => cases ys <;> simp [allPresent]
  | cons x xs ih =>
    cases x with
    | none => cases ys <;> simp [allPresent]
    | some x => cases ys <;> simp [allPresent, ih, and_comm]

theorem length_encodeReported (r : ReportedReading) : (encodeReported r).length = 4 := by
  simp [encodeReported, optMoisture]

/-- The entries read from a payload are those whose bytes stand there, each passing its checks. -/
theorem readings_eq_some_iff {p : List Byte} {n : Nat} (h : p.length = 13 + 4 * n) (rs : List ReportedReading) :
    allPresent ((List.range n).map fun i => reportedAt p (13 + 4 * i)) = some rs ↔
      rs.length = n ∧ rs.flatMap encodeReported = p.drop 13 ∧ ∀ r ∈ rs, r.Passes := by
  rw [allPresent_eq_some_iff]
  constructor
  · intro hmap
    have hlen : rs.length = n := by simpa using (congrArg List.length hmap).symm
    have hat : ∀ i (hi : i < rs.length), reportedAt p (13 + 4 * i) = some rs[i] := fun i hi => by
      have := List.getElem_of_eq hmap (i := i) (by simpa [hlen] using hi)
      simpa using this
    have heach : ∀ i (hi : i < rs.length), encodeReported rs[i] = (p.drop (13 + 4 * i)).take 4 ∧ rs[i].Passes :=
      fun i hi => (reportedAt_eq_some_iff (by omega) _).1 (hat i hi)
    refine ⟨hlen, ?_, fun r hr => ?_⟩
    · have hrs : rs = (List.range n).map fun i => rs.getD i ⟨0, none, ReadingFlags.ofByte 0⟩ :=
        List.ext_getElem (by simp [hlen]) fun i hi _ => by simp [List.getElem?_eq_getElem hi]
      rw [hrs, flatMap_range_chunks (bs := p) (start := 13) (w := 4) n fun i hi => ?_]
      · exact List.take_of_length_le (by rw [List.length_drop]; omega)
      · rw [List.getD_eq_getElem _ _ (by omega)]
        exact (heach i (by omega)).1
    · obtain ⟨i, hi, rfl⟩ := List.getElem_of_mem hr
      exact (heach i hi).2
  · rintro ⟨hlen, hbytes, hpass⟩
    refine List.ext_getElem (by simp [hlen]) fun i hi hi' => ?_
    have hi : i < rs.length := by simpa using hi'
    rw [List.getElem_map, List.getElem_map, List.getElem_range]
    refine (reportedAt_eq_some_iff (by omega) _).2 ⟨?_, hpass _ (List.getElem_mem hi)⟩
    have hdrop := drop_flatMap_append length_encodeReported [] hi
    rw [List.append_nil, hbytes, List.drop_drop] at hdrop
    rw [hdrop, ← length_encodeReported rs[i], List.take_left]

/-! ## The checks of a report's fields against one another (R61) -/

theorem ascending_iff (rs : List ReportedReading) :
    ascending rs = true ↔ (rs.map (·.channel)).Pairwise (· < ·) := by
  rw [← List.isChain_iff_pairwise]
  induction rs with
  | nil => simp [ascending]
  | cons a rs ih =>
    cases rs with
    | nil => simp [ascending]
    | cons b rs => simp only [ascending, Bool.and_eq_true, decide_eq_true_eq, ih, List.map_cons, List.isChain_cons_cons]

theorem reportConsistent_iff (d : ReportData) :
    reportConsistent d = true ↔ (∀ k, d.position = .drying k → 1 ≤ k ∧ k ≤ 12) ∧ (d.charge = 0 ↔ d.position = .idle)
      ∧ (d.charge = 0 → d.check = 0) ∧ d.basis ≤ 256 ∧ (d.controlling = none ↔ d.basis = 0)
      ∧ (d.readings.map (·.channel)).Pairwise (· < ·) := by
  have hdrying : (match d.position with | .drying k => inRange 1 12 k | _ => true) = true ↔
      ∀ k, d.position = .drying k → 1 ≤ k ∧ k ≤ 12 := by
    split
    next k hk => simp [hk, inRange_iff]
    next hk => exact ⟨fun _ k hp => absurd hp (hk k), fun _ => rfl⟩
  have hcontrolling : (d.controlling.isSome == (d.basis != 0)) = true ↔ (d.controlling = none ↔ d.basis = 0) := by
    by_cases hb : d.basis = 0 <;> cases d.controlling <;> simp [hb]
  have hidle : ((d.charge == 0) == (d.position == .idle)) = true ↔ (d.charge = 0 ↔ d.position = .idle) := by
    by_cases hc : d.charge = 0 <;> by_cases hp : d.position = .idle <;> simp [hc, hp]
  have hcheck : (d.charge != 0 || d.check == 0) = true ↔ (d.charge = 0 → d.check = 0) := by
    simp [imp_iff_not_or]
  unfold reportConsistent
  rw [Bool.and_eq_true, Bool.and_eq_true, Bool.and_eq_true, Bool.and_eq_true, Bool.and_eq_true, hcontrolling, hidle,
    hcheck, ascending_iff, decide_eq_true_eq]
  refine (and_congr (and_congr (and_congr (and_congr (and_congr hdrying Iff.rfl) Iff.rfl) Iff.rfl) Iff.rfl) Iff.rfl).trans ?_
  simp only [and_assoc]

theorem parseReport_eq_some_iff (charge : Nat) (p : List Byte) (d : ReportData) :
    parseReport charge p = some d ↔
      (p.length = 13 + 4 * u8 p 12 ∧ u8 p 12 ≤ 8)
        ∧ (u8 p 0 = roleCode d.role ∧ (u8 p 1 = phaseCode d.position ∧ u8 p 2 = stepCode d.position)
          ∧ u8 p 3 = modeCode d.mode ∧ moistureField (u16 p 6) = some d.controlling ∧ tempField p 8 = some d.dryBulb
          ∧ allPresent ((List.range (u8 p 12)).map fun i => reportedAt p (13 + 4 * i)) = some d.readings)
        ∧ (d.charge = charge ∧ d.check = BitVec.ofNat 16 (u16 p 10) ∧ d.basis = u16 p 4) ∧ reportConsistent d = true := by
  rw [← roleOf_eq_some_iff, ← positionOf_eq_some_iff, ← modeOf_eq_some_iff]
  unfold parseReport
  dsimp only
  split_ifs with hform
  · simp only [false_iff]
    rintro ⟨⟨hlen, hle⟩, -⟩
    omega
  · have hform : p.length = 13 + 4 * u8 p 12 ∧ u8 p 12 ≤ 8 := by omega
    split
    next role position mode controlling dryBulb readings h0 h1 h3 h6 h8 h13 =>
      rw [h0, h1, h3, h6, h8, h13]
      constructor
      · intro h
        split_ifs at h with hc
        cases h
        exact ⟨hform, ⟨rfl, rfl, rfl, rfl, rfl, rfl⟩, ⟨rfl, rfl, rfl⟩, hc⟩
      · rintro ⟨-, ⟨hrole, hposition, hmode, hcontrolling, hdryBulb, hreadings⟩, ⟨hcharge, hcheck, hbasis⟩, hc⟩
        obtain ⟨role', charge', check', position', mode', basis', controlling', dryBulb', readings'⟩ := d
        cases hrole; cases hposition; cases hmode; cases hcontrolling; cases hdryBulb; cases hreadings
        cases hcharge; cases hcheck; cases hbasis
        exact if_pos hc
    next hnone =>
      refine ⟨nofun, fun ⟨_, ⟨h0, h1, h3, h6, h8, h13⟩, _⟩ => ?_⟩
      exact absurd h13 (hnone _ _ _ _ _ _ h0 h1 h3 h6 h8)

/-! ## The payload (TABLE 4-1) -/

theorem encodeReported_bytes (r : ReportedReading) :
    encodeReported r = BitVec.ofNat 8 r.channel :: (countBytes r.mc ++ [flagByte r.flags]) := by
  rw [encodeReported, flags_toByte]
  rfl

theorem optTemp_eq_tempBytes (x : Option Int) : optTemp x = tempBytes x := by cases x <;> rfl

theorem reportLayout : ReportLayout := by
  intro d
  rw [reportPayload, List.flatMap, funext encodeReported_bytes, optTemp_eq_tempBytes]
  rfl

@[simp] theorem length_optTemp (x : Option Int) : (optTemp x).length = 2 := by cases x <;> simp [optTemp]

/-- The thirteen bytes before a report's reading entries, field by field. -/
def reportHead (d : ReportData) : List Byte :=
  [byteOf (roleCode d.role)] ++ ([byteOf (phaseCode d.position)] ++ ([byteOf (stepCode d.position)]
    ++ ([byteOf (modeCode d.mode)] ++ (be16 d.basis ++ (be16 (d.controlling.getD 0xFFFF) ++ (optTemp d.dryBulb
    ++ (be16 d.check.toNat ++ [byteOf d.readings.length])))))))

theorem reportPayload_eq (d : ReportData) : reportPayload d = reportHead d ++ d.readings.flatMap encodeReported := by
  simp only [reportPayload, reportHead, optMoisture, List.append_assoc, List.cons_append, List.nil_append]

@[simp] theorem length_reportHead (d : ReportData) : (reportHead d).length = 13 := by simp [reportHead]

theorem be16_u16_append_two {xs : List Byte} (h : xs.length = 2) (rest : List Byte) : be16 (u16 (xs ++ rest) 0) = xs := by
  rw [be16_u16 (by simp; omega), List.drop_zero, ← h, List.take_left]

theorem modeCode_le (m : Mode) : modeCode m ≤ 255 := by cases m <;> decide

theorem roleCode_le (r : Role) : roleCode r ≤ 255 := by cases r <;> decide

theorem phaseCode_le (p : Position) : phaseCode p ≤ 255 := by cases p <;> simp [phaseCode]

theorem stepCode_le {p : Position} (h : ∀ k, p = .drying k → 1 ≤ k ∧ k ≤ 12) : stepCode p ≤ 255 := by
  cases p with
  | drying k => exact (h k rfl).2.trans (by omega)
  | _ => exact Nat.zero_le _

theorem reportPasses_iff (d : ReportData) :
    ReportPasses d ↔ reportConsistent d = true ∧ (∀ m, d.controlling = some m → m ≤ 800)
      ∧ (∀ x, d.dryBulb = some x → -400 ≤ x ∧ x ≤ 1300) ∧ d.readings.length ≤ 8 ∧ ∀ r ∈ d.readings, r.Passes := by
  rw [reportConsistent_iff]
  unfold ReportPasses ReportedReading.Passes
  tauto

theorem parseReport_reportPayload {d : ReportData} (h : ReportPasses d) : parseReport d.charge (reportPayload d) = some d := by
  obtain ⟨hconsistent, hcontrolling, hdryBulb, hcount, hreadings⟩ := (reportPasses_iff d).1 h
  obtain ⟨hdrying, -, -, hbasis, -⟩ := id ((reportConsistent_iff d).1 hconsistent)
  have hword := moistureWord_le hcontrolling
  have hstep := stepCode_le hdrying
  have hcheck : d.check.toNat ≤ 65535 := by have := d.check.isLt; omega
  have hn : u8 (reportPayload d) 12 = d.readings.length := by
    rw [reportPayload_eq]
    simp only [reportHead, List.append_assoc]
    simp only [u8_append_right, length_be16, length_optTemp, List.length_singleton, Nat.reduceLeDiff, Nat.reduceSub, le_refl]
    exact u8_byteOf _ (by omega)
  have hlen : (reportPayload d).length = 13 + 4 * d.readings.length := by
    rw [reportPayload_eq, List.length_append, length_reportHead, length_flatMap_of_length length_encodeReported]
  refine (parseReport_eq_some_iff _ _ _).2 ⟨⟨by rw [hn, hlen], by omega⟩,
    ⟨?_, ⟨?_, ?_⟩, ?_, (moistureField_eq_some_iff _ _).2 ⟨?_, hcontrolling⟩, (tempField_eq_some_iff _ _ _).2 ⟨?_, hdryBulb⟩,
      ?_⟩, ⟨rfl, ?_, ?_⟩, hconsistent⟩
  case refine_7 =>
    rw [hn]
    refine (readings_eq_some_iff hlen _).2 ⟨rfl, ?_, hreadings⟩
    rw [reportPayload_eq, ← length_reportHead d, List.drop_left]
  all_goals
    rw [reportPayload_eq]
    simp only [reportHead, List.append_assoc]
    simp only [u8_append_right, u16_append_right, u8_byteOf, u16_be16, length_be16, length_optTemp, List.length_singleton,
      Nat.reduceLeDiff, Nat.reduceSub, le_refl, roleCode_le, modeCode_le, phaseCode_le, hstep, hword, hcheck,
      be16_u16_append_two, BitVec.ofNat_toNat, BitVec.setWidth_eq]
  exact (u16_be16 _ (by omega)).symm

theorem reportHead_of_parse {charge : Nat} {p : List Byte} {d : ReportData} (h : parseReport charge p = some d) :
    reportHead d = p.take 13 := by
  obtain ⟨⟨hlen, -⟩, ⟨h0, ⟨h1, h2⟩, h3, h6, h8, h13⟩, ⟨-, hcheck, hbasis⟩, -⟩ := (parseReport_eq_some_iff _ _ _).1 h
  obtain ⟨hcount, -⟩ := (readings_eq_some_iff hlen _).1 h13
  have hcheckWord : d.check.toNat = u16 p 10 := by
    rw [hcheck, BitVec.toNat_ofNat, Nat.mod_eq_of_lt (u16_lt p 10)]
  rw [reportHead, ← h0, ← h1, ← h2, ← h3, hbasis, ← ((moistureField_eq_some_iff _ _).1 h6).1,
    ← ((tempField_eq_some_iff _ _ _).1 h8).1, hcheckWord, hcount]
  simp (disch := omega) only [be16_u16, byteOf_u8, take_drop_append]
  rfl

/-- Settles O31: the codes and the bytes, and both directions of the round trip under the checks of R61. -/
theorem reportRoundTrip : Obligations.ReportRoundTrip := by
  refine ⟨reportCodes, reportLayout, fun d _ h => parseReport_reportPayload h, fun charge p d h => ?_⟩
  obtain ⟨⟨hlen, hle⟩, ⟨h0, hposition, h3, h6, h8, h13⟩, ⟨hcharge, -⟩, hconsistent⟩ := (parseReport_eq_some_iff _ _ _).1 h
  obtain ⟨hcount, hbytes, hpass⟩ := (readings_eq_some_iff hlen _).1 h13
  refine ⟨hcharge, (reportPasses_iff d).2 ⟨hconsistent, ((moistureField_eq_some_iff _ _).1 h6).2,
    ((tempField_eq_some_iff _ _ _).1 h8).2, by omega, hpass⟩, ?_⟩
  rw [reportPayload_eq, reportHead_of_parse h, hbytes, List.take_append_drop]

end Sys2Proof.Machine
end

section
/-! Bytes and frames on the kiln bus (R38, R41 to R43): their levels, the CRC, and the runs that are judged frames. -/

namespace Sys2Proof.Machine

/-! ## The levels of a byte (R37, R38) -/

theorem levelOf_eq_ofBit {levelOf : Bool → Level} (h0 : levelOf false = .dominant) (h1 : levelOf true = .recessive) :
    levelOf = Level.ofBit := by
  funext b
  cases b
  · exact h0
  · exact h1

theorem lineByte_odd : ∀ b : Byte, (((List.range 8).countP fun i => b.getLsbD i) + (lineByte b).parity.toNat) % 2 = 1 := by
  decide

theorem byteOfBits_bitsOf : ∀ b : Byte, byteOfBits (bitsOf b) = b := by decide

@[simp] theorem bit_ofBit (b : Bool) : (Level.ofBit b).bit = b := by cases b <;> rfl

theorem sampledByte_byteLevels (b : Byte) : sampledByte ((byteLevels b).drop 1) = lineByte b := by
  have hbits : ((bitsOf b).map Level.ofBit).map Level.bit = bitsOf b := by
    simp [Function.comp_def]
  have hdata : byteOfBits ((((byteLevels b).drop 1).take 8).map Level.bit) = b := by
    rw [byteLevels, List.drop_one, List.tail_cons, List.map_append,
      List.take_left' (by simp [bitsOf]), hbits, byteOfBits_bitsOf]
  rw [sampledByte, hdata]
  simp [byteLevels, bitsOf, List.range_succ, lineByte]

theorem byteError_lineByte : ∀ b : Byte, byteError (lineByte b) = false := by decide

/-- A byte without a byte error is its data as a station sends it (R38). -/
theorem eq_lineByte_of_not_byteError {b : LineByte} (h : byteError b = false) : b = lineByte b.data := by
  obtain ⟨data, parity, stop⟩ := b
  have hparity : ¬(onesOf data + parity.toNat) % 2 = 0 ∧ stop = true := by simpa [byteError] using h
  obtain ⟨hodd, rfl⟩ := hparity
  have hparity : parity = decide (onesOf data % 2 = 0) := by
    cases parity
    · simpa using hodd
    · have heven : (onesOf data) % 2 = 0 := by rw [Bool.toNat_true] at hodd; omega
      simp [heven]
  rw [lineByte, hparity]

theorem byteLevels_eq (b : Byte) {levelOf : Bool → Level} (h0 : levelOf false = .dominant) (h1 : levelOf true = .recessive) :
    byteLevels b =
      [.dominant, levelOf (b.getLsbD 0), levelOf (b.getLsbD 1), levelOf (b.getLsbD 2), levelOf (b.getLsbD 3),
        levelOf (b.getLsbD 4), levelOf (b.getLsbD 5), levelOf (b.getLsbD 6), levelOf (b.getLsbD 7),
        levelOf (lineByte b).parity, .recessive] := by
  rw [levelOf_eq_ofBit h0 h1]
  rfl

/-! ## The CRC and the layout of a frame (R41, R42) -/

theorem crcRule : CrcRule := by
  refine ⟨rfl, fun bs b => ?_, by decide +kernel⟩
  rw [crc, List.foldl_append]
  rfl

theorem frameLayout : FrameLayout := ⟨fun _ => rfl, rfl, rfl, rfl, rfl, rfl, rfl, rfl, rfl, rfl, rfl⟩

theorem length_frameBody (f : Frame) : (frameBody f).length = 6 + f.payload.length := by
  simp only [frameBody, be16, List.length_cons, List.length_append, List.length_nil]

/-- A frame's bytes, field by field. -/
theorem frameBytes_fields (f : Frame) :
    frameBytes f = [0xA5#8] ++ ([f.kind] ++ ([byteOf f.kiln] ++ ([byteOf f.station] ++ (be16 f.charge
      ++ ([byteOf f.payload.length] ++ (f.payload ++ be16 (crc (frameBody f)).toNat)))))) := by
  simp only [frameBytes, frameBody, List.append_assoc, List.cons_append, List.nil_append]

/-! ## The judgement of a run (R43) -/

theorem judgeRun_eq_some_iff (run : List LineByte) (f : Frame) (bs : List Byte) (hbs : bs = run.map (·.data)) :
    judgeRun run = some f ↔
      (∀ b ∈ run, byteError b = false) ∧ bs.getD 0 0 = 0xA5 ∧ (u8 bs 2 ≤ 15 ∧ 1 ≤ u8 bs 3 ∧ u8 bs 3 ≤ 32 ∧ u8 bs 6 ≤ 250)
        ∧ bs.length = 9 + u8 bs 6 ∧ (crc ((bs.drop 1).take (6 + u8 bs 6))).toNat = u16 bs (7 + u8 bs 6)
        ∧ f = { kind := bs.getD 1 0, kiln := u8 bs 2, station := u8 bs 3, charge := u16 bs 4
                payload := (bs.drop 7).take (u8 bs 6) } := by
  subst hbs
  unfold judgeRun
  dsimp only
  split_ifs with herror hstart hform hlen hcrc
  · obtain ⟨b, hb, he⟩ := List.any_eq_true.1 herror
    exact ⟨nofun, fun ⟨h, _⟩ => absurd (h b hb) (by rw [he]; nofun)⟩
  · exact ⟨nofun, fun ⟨_, h, _⟩ => absurd h hstart⟩
  · exact ⟨nofun, fun ⟨_, _, h, hl, _⟩ => by omega⟩
  · exact ⟨nofun, fun ⟨_, _, _, hl, _⟩ => absurd hl hlen⟩
  · exact ⟨nofun, fun ⟨_, _, _, _, h, _⟩ => absurd h hcrc⟩
  · have hclean : ∀ b ∈ run, byteError b = false := by
      simpa [List.any_eq_true] using herror
    rw [Option.some.injEq, eq_comm]
    exact ⟨fun h => ⟨hclean, not_not.1 hstart, by omega, not_not.1 hlen, not_not.1 hcrc, h⟩,
      fun ⟨_, _, _, _, _, h⟩ => h⟩

/-- The bytes of an accepted run are those of the frame it gives (R41, R43). -/
theorem frameBytes_of_judgeRun {run : List LineByte} {f : Frame} (h : judgeRun run = some f) :
    frameBytes f = run.map (·.data) := by
  generalize hbs : run.map (·.data) = bs
  obtain ⟨-, hstart, -, hlen, hcrc, rfl⟩ := (judgeRun_eq_some_iff run f bs hbs.symm).1 h
  have hpayload : ((bs.drop 7).take (u8 bs 6)).length = u8 bs 6 := by
    rw [List.length_take, List.length_drop]; omega
  have hbody : frameBody { kind := bs.getD 1 0, kiln := u8 bs 2, station := u8 bs 3, charge := u16 bs 4
                           payload := (bs.drop 7).take (u8 bs 6) } = (bs.drop 1).take (6 + u8 bs 6) := by
    simp only [frameBody, List.append_assoc, List.cons_append, List.nil_append, hpayload]
    rw [← List.singleton_append, ← List.singleton_append (l := byteOf (u8 bs 3) :: _),
      ← List.singleton_append (l := be16 (u16 bs 4) ++ _), ← List.singleton_append (l := (bs.drop 7).take _),
      byteOf_u8 (by omega), byteOf_u8 (by omega), byteOf_u8 (by omega), be16_u16 (by omega), ← take_one_drop (by omega),
      take_drop_append bs (by omega), take_drop_append bs (by omega), take_drop_append bs (by omega),
      take_drop_append bs (by omega), take_drop_append bs (by omega)]
    congr 1
    omega
  have hfirst : [0xA5#8] = (bs.drop 0).take 1 := by rw [take_one_drop (by omega), hstart]; rfl
  rw [frameBytes, hbody, hcrc, be16_u16 (by omega), ← List.singleton_append, hfirst, List.append_assoc,
    take_drop_append bs (by omega), take_drop_append bs (by omega), List.drop_zero, List.take_of_length_le (by omega)]

/-- Settles O29: without a byte error the run is its data as sent, and its data are the frame's bytes. -/
theorem acceptedRunIsItsFrame : Obligations.AcceptedRunIsItsFrame := by
  intro run f h
  obtain ⟨hclean, -, ⟨hkiln, hlo, hhi, hle⟩, hlen, -, hf⟩ := (judgeRun_eq_some_iff run f _ rfl).1 h
  refine ⟨?_, hclean, ?_⟩
  · rw [frameBytes_of_judgeRun h, List.map_map]
    calc run = run.map id := run.map_id.symm
      _ = run.map (lineByte ∘ (·.data)) := List.map_congr_left fun b hb => eq_lineByte_of_not_byteError (hclean b hb)
  · subst hf
    have hcharge := u16_lt (run.map (·.data)) 4
    exact ⟨hkiln, hlo, hhi, by dsimp only; omega, by dsimp only; rw [List.length_take]; omega⟩

/-- A frame in range is received whole and unchanged (R41, R43). -/
theorem judgeRun_frameBytes {f : Frame} (hkiln : f.kiln ≤ 15) (h1 : 1 ≤ f.station) (h32 : f.station ≤ 32)
    (hcharge : f.charge ≤ 65535) (hpayload : f.payload.length ≤ 250) :
    judgeRun ((frameBytes f).map lineByte) = some f := by
  have hdata : ((frameBytes f).map lineByte).map (·.data) = frameBytes f := by
    rw [List.map_map]
    exact List.map_id _
  have hcrc : (crc (frameBody f)).toNat ≤ 65535 := by have := (crc (frameBody f)).isLt; omega
  have hlenAt : u8 (frameBytes f) 6 = f.payload.length := by
    rw [frameBytes_fields]
    simp only [u8_append_right, length_be16, List.length_singleton, Nat.reduceLeDiff, Nat.reduceSub, le_refl]
    exact u8_byteOf _ (by omega)
  have hkilnAt : u8 (frameBytes f) 2 = f.kiln := by
    rw [frameBytes_fields]
    simp only [u8_append_right, List.length_singleton, Nat.reduceLeDiff, Nat.reduceSub, le_refl]
    exact u8_byteOf _ (by omega)
  have hstationAt : u8 (frameBytes f) 3 = f.station := by
    rw [frameBytes_fields]
    simp only [u8_append_right, List.length_singleton, Nat.reduceLeDiff, Nat.reduceSub, le_refl]
    exact u8_byteOf _ (by omega)
  have hchargeAt : u16 (frameBytes f) 4 = f.charge := by
    rw [frameBytes_fields]
    simp only [u16_append_right, List.length_singleton, Nat.reduceLeDiff, Nat.reduceSub, le_refl]
    exact u16_be16 _ hcharge
  have hcrcAt : u16 (frameBytes f) (7 + f.payload.length) = (crc (frameBody f)).toNat := by
    have hbefore : (0xA5#8 :: frameBody f).length = 7 + f.payload.length := by
      rw [List.length_cons, length_frameBody]; omega
    rw [frameBytes, u16_append_right _ hbefore.le, hbefore, Nat.sub_self]
    exact (congrArg (u16 · 0) (List.append_nil _)).symm.trans (u16_be16 [] hcrc)
  have hbody : ((frameBytes f).drop 1).take (6 + f.payload.length) = frameBody f := by
    rw [frameBytes, List.cons_append, List.drop_one, List.tail_cons, ← length_frameBody f, List.take_left]
  have hpayloadAt : ((frameBytes f).drop 7).take f.payload.length = f.payload := by
    rw [frameBytes_fields]
    simp [be16]
  refine (judgeRun_eq_some_iff _ f _ hdata.symm).2 ⟨fun b hb => ?_, rfl, by omega, ?_, ?_, ?_⟩
  · obtain ⟨x, -, rfl⟩ := List.mem_map.1 hb
    exact byteError_lineByte x
  · rw [frameBytes_length, hlenAt]
  · rw [hlenAt, hbody, hcrcAt]
  · rw [hkilnAt, hstationAt, hchargeAt, hlenAt, hpayloadAt]
    rfl

/-- Settles O28: a byte's levels and their sampling, the CRC, the layout, and the reception of a frame in range. -/
theorem frameRoundTrip : Obligations.FrameRoundTrip :=
  ⟨fun b _ h0 h1 => ⟨byteLevels_eq b h0 h1, lineByte_odd b, sampledByte_byteLevels b, byteError_lineByte b⟩, crcRule,
    frameLayout, fun _ hkiln h1 h32 hcharge hpayload => judgeRun_frameBytes hkiln h1 h32 hcharge hpayload⟩

end Sys2Proof.Machine
end

section
/-! Runs that are not taken (R43, R44), ageing (R64, R66), and the offers of the charge record store (R95, R96, R98, R99). -/

namespace Sys2Proof.Machine

/-! ## Runs (R43, R44) -/

/-- What holds of a run taken for every owner holds of the nine rows of received frames. -/
theorem exec_frame_rows {P : Host.Outcome State Fault Refusal → Prop} (run : List LineByte) (s : State)
    (h : ∀ k owner, FrameOwner k owner → P (.next (takeRun k owner run s))) :
    ∀ c ∈ [Instr.reportReceived run, .offerReceived run, .safeFrameReceived run, .startDirectiveReceived run,
        .holdDirectiveReceived run, .resumeDirectiveReceived run, .skipDirectiveReceived run,
        .abortDirectiveReceived run, .resetSafeDirectiveReceived run], P (exec c s) := by
  simp only [List.forall_mem_cons, List.not_mem_nil, false_implies, implies_true, and_true]
  exact ⟨h _ _ .report, h _ _ .offer, h _ _ .safe, h _ _ (.directive .start), h _ _ (.directive .hold),
    h _ _ (.directive .resume), h _ _ (.directive .skip), h _ _ (.directive .abort), h _ _ (.directive .resetSafe)⟩

theorem heardFrame_none_of_discarded {s : State} {run : List LineByte} (h : judgeRun run = none) (k : FrameKind) :
    s.heardFrame k run = none := by simp [State.heardFrame, h]

theorem heardFrame_none_of_foreign {s : State} {run : List LineByte} {f : Frame} (h : judgeRun run = some f)
    (hkiln : f.kiln ≠ s.straps.kiln) (k : FrameKind) : s.heardFrame k run = none := by
  simp [State.heardFrame, h, hkiln]

theorem heardFrame_none_of_own {s : State} {run : List LineByte} (h : s.bus.ownSent = some (run.map (·.data)))
    (k : FrameKind) : s.heardFrame k run = none := by
  simp [State.heardFrame, State.isOwnRun, h]

theorem heardFrame_eq_some {s : State} {run : List LineByte} {f : Frame} {k : FrameKind}
    (h : s.heardFrame k run = some f) : judgeRun run = some f := by
  obtain ⟨g, hg, hf⟩ := Option.bind_eq_some_iff.1 h
  split_ifs at hf
  cases hf
  exact hg

/-- While an attempt runs, a frame under the own number is not taken (R45). -/
theorem takeRun_own_number {s : State} {run : List LineByte} {f : Frame} (ha : s.bus.attempt ≠ none)
    (h : judgeRun run = some f) (hs : f.station = s.straps.station) (k : FrameKind) (owner : Frame → State → State) :
    takeRun k owner run s = s := by
  have hend : s.bus.runEnds = false := by
    obtain ⟨a, ha⟩ := Option.ne_none_iff_exists'.1 ha
    simp [Bus.runEnds, ha]
  unfold takeRun takeMeanwhile
  rw [if_neg (by simp [hend])]
  split_ifs
  · split
    · rfl
    next g hg =>
      obtain rfl := Option.some.inj ((heardFrame_eq_some hg).symm.trans h)
      exact if_pos hs
  · rfl

theorem discardRun_of_open {s : State} (ho : s.bus.runOpen = true) (ha : s.bus.attempt = none) :
    discardRun s = endRun s := by simp [discardRun, Bus.runEnds, ho, ha]

theorem discardRun_of_attempt {s : State} (ha : s.bus.attempt ≠ none) : discardRun s = s := by
  obtain ⟨a, ha⟩ := Option.ne_none_iff_exists'.1 ha
  simp [discardRun, Bus.runEnds, ha]

/-- Settles O27: a run without a frame for an owner only ends, one that never began is not taken, and an attempt's stays. -/
theorem unheardRunsChangeNothing : Obligations.UnheardRunsChangeNothing := by
  intro run s ended hended
  have hended : ended = endRun s := hended
  subst hended
  refine ⟨fun ho ha => ?_, fun hc => ?_, fun ha => ?_⟩
  · have hdiscard := discardRun_of_open ho ha
    refine ⟨congrArg Host.Outcome.next hdiscard, fun hcase => exec_frame_rows (P := (· = .next (endRun s))) run s fun k owner _ => ?_⟩
    have hnone : s.heardFrame k run = none := by
      obtain hj | ⟨f, hj, hkiln⟩ | hown := hcase
      · exact heardFrame_none_of_discarded hj k
      · exact heardFrame_none_of_foreign hj hkiln k
      · exact heardFrame_none_of_own hown k
    rw [takeRun_of_none hnone, hdiscard]
  · refine List.forall_mem_cons.2 ⟨?_, exec_frame_rows (P := (· = .next s)) run s fun k owner _ =>
      congrArg Host.Outcome.next (takeRun_of_closed hc k owner run)⟩
    have hdiscard : discardRun s = s := by simp [discardRun, Bus.runEnds, hc]
    exact congrArg Host.Outcome.next hdiscard
  · have hdiscard := discardRun_of_attempt ha
    refine ⟨congrArg Host.Outcome.next hdiscard, fun hcase => exec_frame_rows (P := (· = .next s)) run s fun k owner _ => ?_⟩
    obtain hj | ⟨f, hj, hkiln | hstation⟩ | hown := hcase
    · rw [takeRun_of_none (heardFrame_none_of_discarded hj k), hdiscard]
    · rw [takeRun_of_none (heardFrame_none_of_foreign hj hkiln k), hdiscard]
    · rw [takeRun_own_number ha hj hstation]
    · rw [takeRun_of_none (heardFrame_none_of_own hown k), hdiscard]

/-! ## Ageing (R64, R66) -/

/-- Settles O34: the entry written with its new state, PEER STALE by the current roster, and the entry emptied. -/
theorem peerEntriesAge : Obligations.PeerEntriesAge := by
  intro s n e h1 h32 hown he
  have hvalid : validStation n = true := by simp [validStation, h1, h32]
  refine ⟨fun hfresh => ?_, fun hstale => ?_⟩
  · set u := s.setPeers (s.peers.setEntry n (some { e with state := .stale, age := max e.age staleAge })) with hu
    have hrow : peerEntryStale n s = if s.staleLatches n then latch .peerStale u else u := by
      simp only [peerEntryStale, he, hfresh, hown, ne_eq, not_false_eq_true, and_self, if_true, hu]
    have hpeers : (peerEntryStale n s).peers = u.peers := by rw [hrow]; split_ifs <;> simp
    have hentry (m : Nat) : u.peers.entry m
        = if m = n then some { e with state := .stale, age := max e.age staleAge } else s.peers.entry m := by
      rw [hu, State.setPeers_peers, setEntry_entry]
      simp [h1, h32]
    refine ⟨peerEntryStale n s, by
      rw [exec_peerEntryStale, if_pos hvalid],
      ⟨max e.age staleAge, le_max_left _ _, by rw [hpeers, hentry, if_pos rfl]⟩, fun m hm => ?_, ?_, fun r hr hroster => ?_,
      fun hroster => ?_⟩
    · rw [hpeers, hentry, if_neg hm]
    · rw [hpeers, hu, State.setPeers_peers, setEntry_reportTimer]
    · have hlatch : s.staleLatches n = true := by simp [State.staleLatches, hr, hroster]
      rw [hrow, if_pos hlatch]
      exact ⟨latch_latched _ _, by simp [onlyChanges_iff, hu]⟩
    · have hlatch : ¬s.staleLatches n = true := by
        unfold State.staleLatches
        cases hr : s.currentRecord with
        | none => simp
        | some r => simp [hroster r hr]
      rw [hrow, if_neg hlatch]
      simp [onlyChanges_iff, hu]
  · have hrow : peerEntryEmptied n s = s.setPeers (s.peers.setEntry n none) := by
      simp only [peerEntryEmptied, he, hstale, hown, ne_eq, not_false_eq_true, and_self, if_true]
    refine ⟨peerEntryEmptied n s, by
      rw [exec_peerEntryEmptied, if_pos hvalid], ?_, fun m hm => ?_, ?_⟩
    · rw [hrow, State.setPeers_peers, setEntry_entry]; simp [h1, h32]
    · rw [hrow, State.setPeers_peers, setEntry_entry]; simp [hm]
    · rw [hrow]; simp [onlyChanges_iff]

/-! ## Requests on an idle port (R174) -/

theorem request_of_idle {s : State} (hsending : s.port.sending = none) (hbusy : s.port.busy = []) (kind : Byte)
    (owner : State → State × Answer) : request kind owner s = beginResponse kind (owner s).2 (owner s).1 := by
  simp [request, Port.idle, hsending, hbusy]

/-- A request that its owner answers without an effect (R174). -/
theorem request_of_answer {s : State} (hsending : s.port.sending = none) (hbusy : s.port.busy = []) (kind : Byte)
    {owner : State → State × Answer} {a : Answer} (h : owner s = (s, a)) :
    request kind owner s = s.setPort { s.port with sending := some (responseOf kind a) } := by
  rw [request_of_idle hsending hbusy, h]
  rfl

/-! ## The store's requests (R95, R96) -/

theorem emptyOffer_slots (b : Bus) (r : Rank) :
    (b.emptyOffer r).slots =
      { b.slots with offer := match b.slots.offer with | some o => if o.rank = r then none else some o | none => none } := by
  obtain ⟨_, _, _, _, _, _, _, ⟨_, _, _, offer, _⟩, _, _, _, _⟩ := b
  cases offer with
  | none => rfl
  | some o => by_cases hr : o.rank = r <;> simp [Bus.emptyOffer, Bus.withSlots, hr]

/-- Settles O42: the staged rank and an offer that names it, with the answer. -/
theorem clearStagedEmpties : Obligations.ClearStagedEmpties := by
  intro s hsending hbusy
  refine ⟨_, rfl, ?_⟩
  have hrow : request 0x02 ownerClearStaged s
      = ((s.setStore { s.store with staged := none }).setBus (s.bus.emptyOffer .staged)).setPort
          { s.port with sending := some (responseOf 0x02 (.done [])) } := by
    rw [request_of_idle hsending hbusy]; rfl
  rw [hrow]
  have hslots := emptyOffer_slots s.bus .staged
  have hsafe : (s.bus.emptyOffer .staged).slots.safe = s.bus.slots.safe := by rw [hslots]
  have hdirective : (s.bus.emptyOffer .staged).slots.directive = s.bus.slots.directive := by rw [hslots]
  have hreport : (s.bus.emptyOffer .staged).slots.report = s.bus.slots.report := by rw [hslots]
  refine ⟨by simp, congrArg Slots.offer hslots, hsafe, hdirective, hreport, ?_, by simp, by simp [onlyChanges_iff]⟩
  change (s.bus.emptyOffer .staged).attempt = s.bus.attempt
  unfold Bus.emptyOffer
  split
  · split_ifs <;> simp
  · rfl

theorem offerSetting_staged (slot : Option OfferSlot) :
    offerSetting slot .staged =
      (match slot with
      | some o => if o.rank = .staged then some o else some { rank := .staged, failed := 0 }
      | none => some { rank := .staged, failed := 0 }) := by
  cases slot with
  | none => rfl
  | some o =>
    obtain ⟨rank, failed⟩ := o
    cases rank <;> rfl

theorem any_number_iff (s : State) (n : Nat) :
    (s.currentRecord.any fun c => decide (c.chargeNumber = n)) = true ↔ ∃ c, s.currentRecord = some c ∧ c.chargeNumber = n := by
  cases s.currentRecord <;> simp

theorem any_number_eq_false_iff (s : State) (n : Nat) :
    (s.currentRecord.any fun c => decide (c.chargeNumber = n)) = false ↔
      ∀ c, s.currentRecord = some c → c.chargeNumber ≠ n := by
  cases s.currentRecord <;> simp

/-- Settles O41: each outcome of R95 in its order, the last staging the record with the CRC of its encoding. -/
theorem loadChargeStages : Obligations.LoadChargeStages := by
  intro payload s hsending hbusy
  refine ⟨fun r hr hstaged hcurrent => ?_, fun hm => ?_, fun k hk => ?_, fun r c hr hc hn => ?_,
    fun r st hr hst hcurrent => ?_⟩
  · have howner : ownerLoadCharge payload s
        = ((s.setStore { s.store with staged := some { record := r, check := crc payload } }).setBus
            (s.bus.setOfferSlot .staged), .done []) := by
      simp only [ownerLoadCharge, hr, (any_number_eq_false_iff s r.chargeNumber).2 hcurrent, hstaged, crc_of_valid hr]
      rfl
    refine ⟨_, rfl, ?_⟩
    rw [request_of_idle hsending hbusy, howner]
    simp only [beginResponse, State.setPort_bus, State.setBus_bus]
    refine ⟨by simp, fun hclash => ?_, fun hclash => ?_, by simp, by simp [onlyChanges_iff]⟩
    · rw [Bus.setOfferSlot, if_neg (by simp [hclash]), withSlots_slots]
      exact offerSetting_staged _
    · rw [Bus.setOfferSlot, if_pos hclash]
  · exact congrArg Host.Outcome.next (request_of_answer hsending hbusy _ (by simp [ownerLoadCharge, hm]))
  · exact congrArg Host.Outcome.next (request_of_answer hsending hbusy _ (by simp [ownerLoadCharge, hk]))
  · refine congrArg Host.Outcome.next (request_of_answer hsending hbusy _ ?_)
    simp only [ownerLoadCharge, hr, (any_number_iff s r.chargeNumber).2 ⟨c, hc, hn⟩, if_true]
  · refine congrArg Host.Outcome.next (request_of_answer hsending hbusy _ ?_)
    simp only [ownerLoadCharge, hr, (any_number_eq_false_iff s r.chargeNumber).2 hcurrent, hst]
    rfl

/-! ## Heard offers (R98, R99) -/

theorem cancels_iff {s : State} {f : Frame} {o : OfferSlot} {r : RankedRecord} (ha : s.bus.attempt = none)
    (ho : s.bus.slots.offer = some o) (hr : s.store.inRank o.rank = some r) :
    s.cancels f = true ↔ r.record.chargeNumber = f.charge ∧ r.check = crc f.payload := by
  simp [State.cancels, ho, hr, Bus.attempting, ha]

@[simp] theorem cancelOnHearing_store (f : Frame) (s : State) : (cancelOnHearing f s).store = s.store := by
  unfold cancelOnHearing; split <;> rfl

@[simp] theorem cancelOnHearing_currentRecord (f : Frame) (s : State) :
    (cancelOnHearing f s).currentRecord = s.currentRecord := by
  unfold State.currentRecord; rw [cancelOnHearing_store]

theorem stageOffer_holds (r : ChargeRecord) (s : State) :
    (stageOffer r s).bus = s.bus ∧ (stageOffer r s).store.holdoff = s.store.holdoff
      ∧ (stageOffer r s).store.current = s.store.current := by
  unfold stageOffer
  split_ifs
  · exact ⟨rfl, rfl, rfl⟩
  · split
    · exact ⟨rfl, rfl, rfl⟩
    · split_ifs
      · exact ⟨rfl, rfl, rfl⟩
      · simp

/-- After the cancel on hearing an offer leaves the bus controller, and it never takes the current rank (R98, R99). -/
theorem ownOffer_holds (f : Frame) (s : State) :
    (ownOffer f s).bus = (cancelOnHearing f s).bus ∧ (ownOffer f s).store.holdoff = s.store.holdoff
      ∧ (ownOffer f s).store.current = s.store.current := by
  unfold ownOffer
  dsimp only
  split
  · split_ifs
    · obtain ⟨hb, hh, hc⟩ := stageOffer_holds ‹_› (cancelOnHearing f s)
      exact ⟨hb, by rw [hh, cancelOnHearing_store], by rw [hc, cancelOnHearing_store]⟩
    · simp
  · simp
  · simp

theorem endRun_onlyBus (f : Frame) (s : State) : OnlyChanges [.bus] s (cancelOnHearing f (endRun s)) := by
  unfold cancelOnHearing
  split_ifs <;> simp [onlyChanges_iff, endRun]

theorem OnlyChanges.latched {s t : State} (h : OnlyChanges [.bus] s t) (c : Condition) :
    (latch c t).attention.latched c = true ∧ OnlyChanges [.bus, .attention, .trace] s (latch c t) := by
  refine ⟨latch_latched c t, ?_⟩
  simp only [onlyChanges_iff] at h ⊢
  simp_all

theorem OnlyChanges.staged {s t : State} (h : OnlyChanges [.bus] s t) (st : Store) :
    OnlyChanges [.store, .bus] s (t.setStore st) := by
  simp only [onlyChanges_iff] at h ⊢
  simp_all

/-- Settles O43: the cancel on hearing first; then the offer is ignored, staged, known or in conflict, or bad. -/
theorem offerStages : Obligations.OfferStages := by
  intro run f s hears
  have hrow : takeRun .offer ownOffer run s = ownOffer f (endRun s) := takeRun_of_hears hears ownOffer
  have hexec : exec (.offerReceived run) s = .next (ownOffer f (endRun s)) := congrArg Host.Outcome.next hrow
  have hattempt : (endRun s).bus.attempt = none := hears.2.1
  have honly := endRun_onlyBus f s
  have hcurrent : (cancelOnHearing f (endRun s)).currentRecord = s.currentRecord := cancelOnHearing_currentRecord _ _
  have hstore : (cancelOnHearing f (endRun s)).store = s.store := cancelOnHearing_store _ _
  obtain ⟨hbus, hholdoff, hcurrentRank⟩ := ownOffer_holds f (endRun s)
  refine ⟨⟨_, hexec, fun o r ho hr => ?_, fun hnone => ?_, hholdoff, hcurrentRank⟩, fun r hr hcharge => ?_, fun hbad => ?_⟩
  · have hrank : (endRun s).store.inRank o.rank = some r := by
      rw [← hr]
      cases o.rank <;> rfl
    have hiff := cancels_iff (f := f) hattempt (show (endRun s).bus.slots.offer = some o from ho) hrank
    rw [hbus]
    refine ⟨fun hn hc => ?_, fun hne => ?_⟩
    · rw [cancelOnHearing, if_pos (hiff.2 ⟨hn, hc⟩), State.setBus_bus, withSlots_slots]
      rfl
    · rw [cancelOnHearing, if_neg fun h => ?_]
      · rfl
      · obtain ⟨hn, hc⟩ := hiff.1 h
        exact hne.elim (absurd hn) (absurd hc)
  · rw [hbus, cancelOnHearing, if_neg]
    · rfl
    · have ho : (endRun s).bus.slots.offer = none := hnone
      simp [State.cancels, ho]
  · have hstage : ownOffer f (endRun s) = stageOffer r (cancelOnHearing f (endRun s)) := by
      simp only [ownOffer, hr, hcharge, if_true]
    rw [hstage] at hexec
    refine ⟨fun c hc hn => ⟨_, hexec, ?_⟩, fun hother => ?_⟩
    · have hany := (any_number_iff (cancelOnHearing f (endRun s)) r.chargeNumber).2 ⟨c, hcurrent.trans hc, hn.trans hcharge.symm⟩
      rw [stageOffer, if_pos hany]
      exact honly
    · have hany := (any_number_eq_false_iff (cancelOnHearing f (endRun s)) r.chargeNumber).2 fun c hc hn =>
        hother c (hcurrent.symm.trans hc) (hn.trans hcharge)
      have hcheck : recordCheck r = crc f.payload := by rw [recordCheck, (validEncodingIsItsRecord _ _ hr).1]
      rw [stageOffer, if_neg (Bool.eq_false_iff.1 hany), hstore] at hexec
      refine ⟨fun hst => ?_, fun st hst hn hc => ?_, fun st hst hne => ?_⟩ <;> rw [hst] at hexec
      · refine ⟨_, hexec, ?_, honly.staged _⟩
        rw [crc_of_valid hr]
        rfl
      · dsimp only at hexec
        rw [if_pos ⟨hn.trans hcharge.symm, hc.trans hcheck.symm⟩] at hexec
        exact ⟨_, hexec, honly⟩
      · dsimp only at hexec
        rw [if_neg fun ⟨hn, hc⟩ => hne.elim (absurd (hn.trans hcharge)) (absurd (hc.trans hcheck))] at hexec
        exact ⟨_, hexec, honly.latched _⟩
  · have hlatch : ownOffer f (endRun s) = latch .badOffer (cancelOnHearing f (endRun s)) := by
      unfold ownOffer
      dsimp only
      split
      next r hr => exact if_neg (hbad r hr)
      · rfl
      · rfl
    rw [hlatch] at hexec
    exact ⟨_, hexec, honly.latched _⟩

/-! ## The accepted readings (R76 to R78) -/

theorem acceptReading_eq_some_iff (record : Option ChargeRecord) (station channel : Nat) (mc : Option Nat)
    (flags : ReadingFlags) (x : Extreme) :
    acceptReading record station channel mc flags = some x ↔
      mc = some x.mc ∧ flags.unsteady = false ∧ x.channel = channel ∧ x.station = station
        ∧ ∀ c, record = some c → c.maskHas station channel = true := by
  have htests : (!flags.unsteady && (match record with | some r => r.maskHas station channel | none => true)) = true ↔
      flags.unsteady = false ∧ ∀ c, record = some c → c.maskHas station channel = true := by
    cases record <;> simp
  have hreading : acceptReading record station channel mc flags = some x ↔
      ∃ m, mc = some m ∧ (flags.unsteady = false ∧ ∀ c, record = some c → c.maskHas station channel = true)
        ∧ { mc := m, station := station, channel := channel } = x := by
    rw [← htests]
    unfold acceptReading
    cases mc with
    | none => simp
    | some m => simp only [Option.some.injEq, exists_eq_left', Option.ite_none_right_eq_some] <;> rfl
  rw [hreading]
  constructor
  · rintro ⟨m, hm, ⟨hsteady, hmask⟩, rfl⟩
    exact ⟨hm, hsteady, rfl, rfl, hmask⟩
  · rintro ⟨hm, hsteady, rfl, rfl, hmask⟩
    exact ⟨x.mc, hm, ⟨hsteady, hmask⟩, rfl⟩

theorem standing_matched_iff (current : Option RankedRecord) (n : Nat) (d : ReportData) :
    standing current n d = .matched ↔ ∃ c, current = some c ∧ c.record.onRoster n = true
      ∧ d.charge = c.record.chargeNumber ∧ d.check = c.check := by
  unfold standing
  cases current with
  | none => simp
  | some c => cases hr : c.record.onRoster n <;> simp [hr]

theorem freshMatched_iff (s : State) (n : Nat) :
    s.freshMatched n = true ↔ ∃ (c : RankedRecord) (e : HeldEntry), s.store.current = some c ∧ s.peers.entry n = some e
      ∧ e.state = .fresh ∧ c.record.onRoster n = true ∧ e.data.charge = c.record.chargeNumber
      ∧ e.data.check = c.check := by
  unfold State.freshMatched
  cases s.peers.entry n with
  | none => simp
  | some e =>
    simp only [Bool.and_eq_true, beq_iff_eq, standing_matched_iff, Option.some.injEq]
    constructor
    · rintro ⟨hf, c, hc, hm⟩
      exact ⟨c, e, hc, rfl, hf, hm⟩
    · rintro ⟨c, _, hc, rfl, hf, hm⟩
      exact ⟨hf, c, hc, hm⟩

theorem entry_range {p : PeerTable} {n : Nat} {e : HeldEntry} (h : p.entry n = some e) : 1 ≤ n ∧ n ≤ 32 := by
  unfold PeerTable.entry at h
  split_ifs at h with hn
  exact hn

theorem mem_acceptedPeer_iff (s : State) (n : Nat) (x : Extreme) :
    x ∈ s.acceptedPeer n ↔
      ∃ (c : RankedRecord) (e : HeldEntry), x.station = n ∧ s.store.current = some c ∧ s.peers.entry n = some e
        ∧ n ≠ s.straps.station ∧ e.state = .fresh ∧ c.record.onRoster n = true
        ∧ e.data.charge = c.record.chargeNumber ∧ e.data.check = c.check
        ∧ ∃ r ∈ e.data.readings, r.mc = some x.mc ∧ r.flags.unsteady = false ∧ x.channel = r.channel
            ∧ c.record.maskHas n r.channel = true := by
  unfold State.acceptedPeer
  constructor
  · intro h
    split_ifs at h with hcase
    · obtain ⟨hn, hfresh⟩ := hcase
      obtain ⟨c, e, hc, he, hstate, hroster, hcharge, hcheck⟩ := (freshMatched_iff s n).1 hfresh
      simp only [he, List.mem_filterMap, acceptReading_eq_some_iff] at h
      obtain ⟨r, hr, hmc, hsteady, hchannel, hstation, hmask⟩ := h
      exact ⟨c, e, hstation, hc, he, hn, hstate, hroster, hcharge, hcheck, r, hr, hmc, hsteady, hchannel,
        hmask _ (by simp [State.currentRecord, hc])⟩
    · cases h
  · rintro ⟨c, e, hstation, hc, he, hn, hstate, hroster, hcharge, hcheck, r, hr, hmc, hsteady, hchannel, hmask⟩
    rw [if_pos ⟨hn, (freshMatched_iff s n).2 ⟨c, e, hc, he, hstate, hroster, hcharge, hcheck⟩⟩]
    simp only [he, List.mem_filterMap, acceptReading_eq_some_iff]
    refine ⟨r, hr, hmc, hsteady, hchannel, hstation, fun c' hc' => ?_⟩
    have hrecord : s.currentRecord = some c.record := by simp [State.currentRecord, hc]
    rw [hrecord] at hc'
    cases hc'
    exact hmask

/-- Settles O37: the own readings under the mask, and those of each FRESH peer that stands MATCHED. -/
theorem acceptedReadings : Obligations.AcceptedReadings := by
  intro s x
  rw [State.accepted, List.mem_append]
  refine or_congr ?_ ?_
  · simp only [State.acceptedOwn, List.mem_filterMap, acceptReading_eq_some_iff]
  · rw [List.mem_flatMap]
    simp only [mem_acceptedPeer_iff, List.mem_range]
    constructor
    · rintro ⟨i, -, c, e, hstation, h⟩
      rw [← hstation] at h
      exact ⟨c, e, h⟩
    · rintro ⟨c, e, hc, he, h⟩
      obtain ⟨h1, h32⟩ := entry_range he
      refine ⟨x.station - 1, by omega, c, e, by omega, hc, ?_⟩
      rw [show x.station - 1 + 1 = x.station by omega]
      exact ⟨he, h⟩

end Sys2Proof.Machine
end

section
/-! The line-blocked timer under every command (R54), the line's events (R39, R52, R54), and the address clash (R45). -/

namespace Sys2Proof.Machine

/-! ## The line-blocked timer's rule (R54) -/

/-- The timer after a change: stopped where no slot is eligible, loaded where none was before, running on otherwise. -/
def Bus.RunsOn (b b' : Bus) : Prop :=
  b.Timed → b'.blockedTimer =
    if b'.slots.anyEligible then (if b.slots.anyEligible then b.blockedTimer else blockedTime) else 0

/-- A change of the slots under the timer's rule that leaves the address-clash latch. -/
structure Bus.Moves (b b' : Bus) : Prop where
  clash : b'.clash = b.clash
  runsOn : b.RunsOn b'

/-- A change that leaves the timer, the latch and whether a slot is eligible. -/
structure Bus.Alike (b b' : Bus) : Prop where
  clash : b'.clash = b.clash
  any : b'.slots.anyEligible = b.slots.anyEligible
  timer : b'.blockedTimer = b.blockedTimer

theorem Bus.Alike.of_eq {b b' : Bus} (h : b' = b) : b.Alike b' := by subst h; exact ⟨rfl, rfl, rfl⟩

theorem Bus.Alike.trans {b c d : Bus} (h : b.Alike c) (k : c.Alike d) : b.Alike d :=
  ⟨k.clash.trans h.clash, k.any.trans h.any, k.timer.trans h.timer⟩

theorem Bus.Alike.timed {b b' : Bus} (h : b.Alike b') (hb : b.Timed) : b'.Timed := by
  unfold Bus.Timed
  rw [h.any, h.timer]
  exact hb

theorem Bus.Alike.moves {b b' : Bus} (h : b.Alike b') : b.Moves b' := by
  refine ⟨h.clash, fun hb => ?_⟩
  rw [h.any, h.timer]
  cases hany : b.slots.anyEligible with
  | true => simp
  | false =>
    by_contra hne
    rw [hb (by simpa using hne)] at hany
    cases hany

theorem Bus.Moves.of_eq {b b' : Bus} (h : b' = b) : b.Moves b' := (Bus.Alike.of_eq h).moves

theorem Bus.Alike.then {b c d : Bus} (h : b.Alike c) (k : c.Moves d) : b.Moves d := by
  refine ⟨k.clash.trans h.clash, fun hb => ?_⟩
  rw [k.runsOn (h.timed hb), h.any, h.timer]

theorem Bus.Moves.then {b c d : Bus} (h : b.Moves c) (k : c.Alike d) : b.Moves d := by
  refine ⟨k.clash.trans h.clash, fun hb => ?_⟩
  rw [k.timer, k.any]
  exact h.runsOn hb

theorem withSlots_moves {b c : Bus} (h : b.Alike c) (sl : Slots) : b.Moves (c.withSlots sl) := by
  refine ⟨h.clash, fun _ => ?_⟩
  simp only [Bus.withSlots, h.any, h.timer]
  cases sl.anyEligible <;> rfl

theorem Bus.Alike.refl (b : Bus) : b.Alike b := .of_eq rfl

theorem setSafeSlot_moves (b : Bus) : b.Moves b.setSafeSlot := by
  unfold Bus.setSafeSlot
  split
  · exact .of_eq rfl
  · exact withSlots_moves (.refl b) _

theorem setReportSlot_moves (b : Bus) : b.Moves b.setReportSlot := by
  unfold Bus.setReportSlot
  split
  · exact .of_eq rfl
  · exact withSlots_moves (.refl b) _

theorem setOfferSlot_moves (b : Bus) (r : Rank) : b.Moves (b.setOfferSlot r) := by
  unfold Bus.setOfferSlot
  split
  · exact .of_eq rfl
  · exact withSlots_moves (.refl b) _

theorem setDirectiveSlot_moves (b : Bus) (d : DirectiveSlot) : b.Moves (b.setDirectiveSlot d) := by
  unfold Bus.setDirectiveSlot
  split
  · exact .of_eq rfl
  · exact withSlots_moves (.refl b) _

theorem emptyOffer_moves (b : Bus) (r : Rank) : b.Moves (b.emptyOffer r) := by
  unfold Bus.emptyOffer
  split
  · split
    · exact withSlots_moves (.refl b) _
    · exact .of_eq rfl
  · exact .of_eq rfl

theorem turnOffer_alike (b : Bus) : b.Alike b.turnOffer := by
  refine ⟨rfl, ?_, rfl⟩
  simp [Bus.turnOffer, Slots.anyEligible, FrameKind.all, Slots.eligible, Slots.failedOf]

theorem runOver_alike (b : Bus) : b.Alike b.runOver := ⟨rfl, rfl, rfl⟩

theorem lineReleased_alike (b : Bus) : b.Alike b.lineReleased := ⟨rfl, rfl, rfl⟩

/-! ## The owners of frames -/

theorem promote_bus (k : Cause) (s : State) : (promote k s).bus = s.bus.turnOffer := by
  simp [promote, promoteStore]

theorem storeStart_alike (charge code : Nat) (s : State) : s.bus.Alike (storeStart charge code s).bus := by
  have hlatch (c : Condition) : s.bus.Alike (latch c s).bus := .of_eq (by simp)
  unfold storeStart
  split
  · exact .refl _
  · split
    · split
      · split
        · rw [promote_bus]
          exact turnOffer_alike _
        · exact hlatch _
      · exact hlatch _
    · exact hlatch _

theorem abortCharge_bus (s : State) : (abortCharge s).bus = s.bus.emptyOffer .current := by simp [abortCharge]

/-- Every directive but ABORT leaves the bus controller (TABLE 8-2). -/
theorem applyDirective_bus {k : DirectiveKind} (h : k ≠ .abort) (p : Option Position) (s : State) :
    (applyDirective k p s).bus = s.bus := by
  cases k with
  | abort => exact absurd rfl h
  | start => rfl
  | _ => simp [applyDirective]

theorem applyDirective_moves (k : DirectiveKind) (p : Option Position) (s : State) :
    s.bus.Moves (applyDirective k p s).bus := by
  by_cases h : k = .abort
  · subst h
    rw [applyDirective, abortCharge_bus]
    exact emptyOffer_moves _ _
  · exact .of_eq (applyDirective_bus h p s)

theorem ownDirective_moves (k : DirectiveKind) (f : Frame) (s : State) : s.bus.Moves (ownDirective k f s).bus := by
  have hrefl : s.bus.Moves s.bus := .of_eq rfl
  unfold ownDirective judgeDirective
  split
  · split
    · split
      · exact (storeStart_alike _ _ s).moves
      · exact hrefl
    · split
      · split
        · exact applyDirective_moves k _ s
        · exact hrefl
      · split
        · split
          · split
            · exact applyDirective_moves k _ s
            · exact .of_eq (by simp)
          · exact hrefl
        · exact hrefl
  · exact hrefl

theorem acceptReport_moves (n : Nat) (d : ReportData) (s : State) : s.bus.Moves (acceptReport n d s).bus := by
  have hshow (t : State) : (showSchedule n d t).bus = t.bus := by simp
  have hjoin (t : State) : t.bus.Alike (lateJoin n d t).bus := by
    unfold lateJoin
    split
    · rw [promote_bus]; exact turnOffer_alike _
    · exact .refl _
  have hreoffer (t : State) : t.bus.Moves (reoffer n d t).bus := by
    unfold reoffer
    split
    · exact setOfferSlot_moves _ _
    · exact .of_eq rfl
  unfold acceptReport
  rw [hshow]
  refine Bus.Moves.then ?_ (hjoin _)
  refine Bus.Alike.then ?_ (hreoffer _)
  exact .of_eq (by simp [writeEntry])

theorem FrameOwner.moves {k : FrameKind} {owner : Frame → State → State} (h : FrameOwner k owner) (f : Frame)
    (s : State) : s.bus.Moves (owner f s).bus := by
  cases h
  case report =>
    unfold ownReport
    split
    · exact .of_eq rfl
    · split
      · exact acceptReport_moves _ _ s
      · exact .of_eq rfl
  case offer =>
    rw [(ownOffer_holds f s).1]
    unfold cancelOnHearing
    split
    · exact withSlots_moves (.refl _) _
    · exact .of_eq rfl
  case safe => exact .of_eq (by simp)
  case directive k => exact ownDirective_moves k f s
  case anyDirective =>
    unfold ownAnyDirective
    split
    · exact ownDirective_moves _ f s
    · exact .of_eq rfl

/-! ## The address clash (R45) -/

theorem writeRecord_setBus (r : TraceRecord) (s : State) (b : Bus) :
    writeRecord r (s.setBus b) = (writeRecord r s).setBus b := by
  unfold writeRecord
  by_cases h : s.trace.records.length < ringSize
  · rw [if_pos h, if_pos (show (s.setBus b).trace.records.length < ringSize from h)]
    rfl
  · rw [if_neg h, if_neg (show ¬(s.setBus b).trace.records.length < ringSize from h)]
    rfl

theorem latch_setBus (c : Condition) (s : State) (b : Bus) : latch c (s.setBus b) = (latch c s).setBus b := by
  unfold latch
  by_cases h : s.attention.latched c = true
  · rw [if_pos h, if_pos (show (s.setBus b).attention.latched c = true from h)]
  · rw [if_neg h, if_neg (show ¬(s.setBus b).attention.latched c = true from h)]
    split_ifs
    · rfl
    · exact writeRecord_setBus _ (s.setAttention (s.attention.latch c s.schedule.minute)) b

theorem setClash_silent (s : State) : (setClash s).bus.clash = true ∧ (setClash s).bus.Silent := by
  have hbus : (setClash s).bus = s.bus.clashed := by simp [setClash]
  rw [hbus]
  exact ⟨rfl, fun _ => ⟨rfl, rfl, rfl⟩⟩

/-- With the latch set the owner of a frame leaves the station silent (R45). -/
theorem FrameOwner.silent {k : FrameKind} {owner : Frame → State → State} (h : FrameOwner k owner) (f : Frame) {s : State}
    (hclash : s.bus.clash = true) (hs : s.bus.Silent) :
    (owner f s).bus.clash = true ∧ (owner f s).bus.slots = Slots.empty ∧ (owner f s).bus.attempt = none
      ∧ (owner f s).bus.blockedTimer = 0 := by
  have hkept : (owner f s).bus.clash = true := (h.moves f s).clash.trans hclash
  exact ⟨hkept, (h.busKeeps f s).silent hs hkept⟩

theorem takeRun_runsOn {k : FrameKind} {owner : Frame → State → State} (h : FrameOwner k owner) (run : List LineByte)
    (s : State) : s.bus.RunsOn (takeRun k owner run s).bus := by
  have hrefl : s.bus.Moves s.bus := .of_eq rfl
  have hend : s.bus.Alike (endRun s).bus := runOver_alike _
  unfold takeRun takeMeanwhile
  split
  · split
    · exact hend.moves.runsOn
    next f _ =>
      split
      · obtain ⟨hclash, hsilent⟩ := setClash_silent (endRun s)
        obtain ⟨-, hslots, -, htimer⟩ := h.silent f hclash hsilent
        intro _
        rw [hslots, htimer, anyEligible_empty]
        rfl
      · exact (hend.then (h.moves f _)).runsOn
  · split
    · split
      · exact hrefl.runsOn
      · split
        · exact hrefl.runsOn
        · exact (h.moves _ s).runsOn
    · exact hrefl.runsOn

/-! ## The owners of requests -/

theorem request_bus (kind : Byte) (owner : State → State × Answer) (s : State) :
    (request kind owner s).bus = if s.port.idle then (owner s).1.bus else s.bus := by
  unfold request
  split_ifs <;> rfl

theorem request_runsOn {owner : State → State × Answer} {s : State} (h : s.bus.RunsOn (owner s).1.bus) (kind : Byte) :
    s.bus.RunsOn (request kind owner s).bus := by
  rw [request_bus]
  split_ifs
  · exact h
  · exact (Bus.Moves.of_eq rfl).runsOn

theorem request_bus_same {owner : State → State × Answer} {s : State} (h : (owner s).1.bus = s.bus) (kind : Byte) :
    (request kind owner s).bus = s.bus := by
  rw [request_bus, h, ite_self]

theorem applyAtOrigin_alike {k : DirectiveKind} (h : k ≠ .abort) (charge code : Nat) (p : Option Position) (s : State) :
    s.bus.Alike (applyAtOrigin k charge code p s).bus := by
  cases k with
  | start => exact storeStart_alike _ _ s
  | _ => exact .of_eq (applyDirective_bus h p s)

theorem originate_moves {k : DirectiveKind} (h : k ≠ .abort) (charge code : Word16) (phase step : Byte) (s : State) :
    s.bus.Moves (originate k charge code phase step s).1.bus := by
  unfold originate
  split
  · exact .of_eq rfl
  · split
    · exact .of_eq rfl
    · split
      · exact .of_eq (by simp)
      · exact (applyAtOrigin_alike h _ _ _ s).then (setDirectiveSlot_moves _ _)

theorem ownerLoadCharge_moves (payload : List Byte) (s : State) : s.bus.Moves (ownerLoadCharge payload s).1.bus := by
  unfold ownerLoadCharge
  split
  · exact .of_eq rfl
  · exact .of_eq rfl
  · split_ifs
    · exact .of_eq rfl
    · exact .of_eq rfl
    · exact setOfferSlot_moves _ _

theorem emptyOffer_anyEligible {b : Bus} {r : Rank} (h : (b.emptyOffer r).slots.anyEligible = true) :
    b.slots.anyEligible = true := by
  rw [anyEligible_iff] at h ⊢
  obtain ⟨k, hk⟩ := h
  refine ⟨k, ?_⟩
  rw [emptyOffer_slots] at hk
  cases k with
  | offer =>
    cases ho : b.slots.offer with
    | none => simp [Slots.eligible, Slots.failedOf, ho] at hk
    | some o => simp [Slots.eligible, Slots.failedOf, ho]
  | _ => exact hk

/-- An ABORT requested here: the OFFER slot first, then the DIRECTIVE slot under what it leaves (R132, R134). -/
theorem originate_abort_timer (charge code : Word16) (phase step : Byte) {s : State} (hs : s.bus.Timed) (t : State)
    (ht : t = (originate .abort charge code phase step s).1) :
    t.bus.blockedTimer =
      if t.bus.slots.anyEligible then
        (if { s.bus.slots with offer := t.bus.slots.offer }.anyEligible then s.bus.blockedTimer else blockedTime)
      else 0 := by
  have hstands {u : State} (hu : u.bus = s.bus) : u.bus.blockedTimer =
      if u.bus.slots.anyEligible then
        (if { s.bus.slots with offer := u.bus.slots.offer }.anyEligible then s.bus.blockedTimer else blockedTime)
      else 0 := by
    rw [hu]
    exact (Bus.Moves.of_eq rfl).runsOn hs
  subst ht
  unfold originate
  split
  · exact hstands rfl
  · split
    · exact hstands rfl
    · split
      · exact hstands (by simp)
      · have hbus : (applyAtOrigin .abort charge.toNat code.toNat (skipTarget phase step) s).bus = s.bus.emptyOffer .current :=
          abortCharge_bus s
        dsimp only
        rw [State.setBus_bus, hbus, setDirectiveSlot_offer]
        have hslots : { s.bus.slots with offer := (s.bus.emptyOffer .current).slots.offer }
            = (s.bus.emptyOffer .current).slots := by rw [emptyOffer_slots]
        rw [hslots, (setDirectiveSlot_moves _ _).runsOn (emptyOffer_timed hs _)]
        cases hany : (s.bus.emptyOffer .current).slots.anyEligible with
        | false => rfl
        | true =>
          have htimer := (emptyOffer_moves s.bus .current).runsOn hs
          rw [if_pos hany, if_pos (emptyOffer_anyEligible hany)] at htimer
          simp only [if_true, htimer]

/-! ## The bus controller's own events -/

theorem attemptFail_moves (s : State) : s.bus.Moves (attemptFail s).bus := by
  unfold attemptFail
  split
  · exact .of_eq rfl
  · dsimp only
    split
    · exact (lineReleased_alike s.bus).moves
    · split
      · exact withSlots_moves (lineReleased_alike s.bus) _
      · simp only [latch_keeps, State.setBus_bus]
        exact withSlots_moves (lineReleased_alike s.bus) _

theorem attemptFailTold_moves (s : State) : s.bus.Moves (attemptFailTold s).bus := by
  unfold attemptFailTold
  split
  · exact (attemptFail_moves s).then ⟨rfl, rfl, rfl⟩
  · exact .of_eq rfl

theorem attemptComplete_moves (s : State) : s.bus.Moves (attemptComplete s).bus := by
  unfold attemptComplete
  split
  · exact .of_eq rfl
  next a _ =>
    have hbase : s.bus.Alike { s.bus.lineReleased with ownSent := some a.bytes } := ⟨rfl, rfl, rfl⟩
    dsimp only
    split <;> exact withSlots_moves hbase _

theorem attemptBegin_moves (s : State) : s.bus.Moves (attemptBegin s).bus := by
  unfold attemptBegin
  split
  · exact .of_eq rfl
  · split
    · exact .of_eq rfl
    · split
      · exact .of_eq rfl
      · exact Bus.Alike.moves ⟨rfl, rfl, rfl⟩

theorem emergencyAssertion_moves (s : State) : s.bus.Moves (emergencyAssertion s).bus := by
  unfold emergencyAssertion
  split
  · exact .of_eq rfl
  · simpa using setSafeSlot_moves s.bus

theorem startBitSeen_alike (s : State) : s.bus.Alike (startBitSeen s).bus := by
  unfold startBitSeen
  split <;> exact ⟨rfl, rfl, rfl⟩

/-! ## Every command -/

/-- R54 under every command but those whose rows set the timer themselves. -/
theorem exec_runsOn {c : Instr} {s t : State} (h : exec c s = .next t) (hpower : ∀ n k r e f, c ≠ .powerOn n k r e f)
    (hgap : c ≠ .quietGap) (hblocked : c ≠ .lineBlockedTimerExpiry) (hbyte : ∀ b stop, c ≠ .serviceByteReceived b stop)
    (habort : ∀ charge code, c ≠ .directiveAbort charge code) : s.bus.RunsOn t.bus := by
  have hsame {u : State} (hu : u.bus = s.bus) : s.bus.RunsOn u.bus := (Bus.Moves.of_eq hu).runsOn
  cases c
  case powerOn => exact absurd rfl (hpower _ _ _ _ _)
  case quietGap => exact absurd rfl hgap
  case lineBlockedTimerExpiry => exact absurd rfl hblocked
  case serviceByteReceived => exact absurd rfl (hbyte _ _)
  case directiveAbort => exact absurd rfl (habort _ _)
  case peerEntryStale =>
    rw [exec_peerEntryStale] at h
    split_ifs at h
    cases h
    exact hsame (by simp)
  case peerEntryEmptied =>
    rw [exec_peerEntryEmptied] at h
    split_ifs at h
    cases h
    exact hsame (by simp)
  all_goals cases h
  case frameDiscarded =>
    unfold discardRun
    split_ifs
    · exact (runOver_alike _).moves.runsOn
    · exact hsame rfl
  case reportReceived => exact takeRun_runsOn .report _ _
  case offerReceived => exact takeRun_runsOn .offer _ _
  case safeFrameReceived => exact takeRun_runsOn .safe _ _
  case startDirectiveReceived => exact takeRun_runsOn (.directive _) _ _
  case holdDirectiveReceived => exact takeRun_runsOn (.directive _) _ _
  case resumeDirectiveReceived => exact takeRun_runsOn (.directive _) _ _
  case skipDirectiveReceived => exact takeRun_runsOn (.directive _) _ _
  case abortDirectiveReceived => exact takeRun_runsOn (.directive _) _ _
  case resetSafeDirectiveReceived => exact takeRun_runsOn (.directive _) _ _
  case attemptBegin => exact (attemptBegin_moves s).runsOn
  case attemptFail => exact (attemptFailTold_moves s).runsOn
  case attemptComplete => exact (attemptComplete_moves s).runsOn
  case spacingTimerExpiry => exact (withSlots_moves (.refl s.bus) _).runsOn
  case reportTimerExpiry => exact (setReportSlot_moves s.bus).runsOn
  case emergencyAssertion => exact (emergencyAssertion_moves s).runsOn
  case startBitSeen => exact (startBitSeen_alike s).moves.runsOn
  case loadCharge => exact request_runsOn (ownerLoadCharge_moves _ s).runsOn _
  case clearStaged => exact request_runsOn (owner := ownerClearStaged) (emptyOffer_moves s.bus _).runsOn _
  case directiveStart => exact request_runsOn (originate_moves (k := .start) (by decide) _ _ _ _ s).runsOn _
  case directiveHold => exact request_runsOn (originate_moves (k := .hold) (by decide) _ _ _ _ s).runsOn _
  case directiveResume => exact request_runsOn (originate_moves (k := .resume) (by decide) _ _ _ _ s).runsOn _
  case directiveSkip => exact request_runsOn (originate_moves (k := .skip) (by decide) _ _ _ _ s).runsOn _
  case directiveResetSafe => exact request_runsOn (originate_moves (k := .resetSafe) (by decide) _ _ _ _ s).runsOn _
  case calibrate => exact hsame (request_bus_same (by unfold ownerCalibrate; split <;> simp) _)
  case readPeer => exact hsame (request_bus_same (by unfold ownerReadPeer; split <;> rfl) _)
  case clearConditions => exact hsame (request_bus_same (by unfold ownerClearConditions; split <;> rfl) _)
  case setAttentionMask => exact hsame (request_bus_same (by unfold ownerSetAttentionMask; split <;> rfl) _)
  case readPicture | readReadings | readClimate | readState | readConditions | readTrace | unknownRequest =>
    exact hsame (request_bus_same rfl _)
  all_goals exact hsame (by simp)

end Sys2Proof.Machine
end

section
/-! The line's events (R39, R52, R54) and the address clash (R44, R45, R62). -/

namespace Sys2Proof.Machine

/-! ## The line's events (R39, R52, R54) -/

theorem not_anyEligible_iff (sl : Slots) : sl.anyEligible = false ↔ ∀ k, sl.eligible k = false := by
  rw [← Bool.not_eq_true, anyEligible_iff]
  simp

/-- The three cases of the line-blocked timer's rule, from the rule as one equation. -/
theorem timer_cases {before after : Slots} {old new : Nat}
    (h : new = if after.anyEligible then (if before.anyEligible then old else blockedTime) else 0) :
    ((∀ k, after.eligible k = false) → new = 0)
      ∧ ((∃ k, after.eligible k = true) →
        ((∃ k, before.eligible k = true) → new = old) ∧ ((∀ k, before.eligible k = false) → new = 38400)) := by
  refine ⟨fun hnone => ?_, fun hsome => ⟨fun hb => ?_, fun hb => ?_⟩⟩
  · rw [h, (not_anyEligible_iff after).2 hnone]; rfl
  · rw [h, (anyEligible_iff after).2 hsome, (anyEligible_iff before).2 hb]; rfl
  · rw [h, (anyEligible_iff after).2 hsome, (not_anyEligible_iff before).2 hb]; rfl

theorem spacingTimerExpiry_timer (s : State) (hd : s.bus.slots.directive.isSome = true) (ha : s.bus.slots.anyEligible = false) :
    (spacingTimerExpiry s).bus.blockedTimer = 38400 := by
  have hany : { s.bus.slots with spacing := 0 }.anyEligible = true :=
    (anyEligible_iff _).2 ⟨.directive, by simp [Slots.eligible, hd]⟩
  simp [spacingTimerExpiry, Bus.withSlots, hany, ha, blockedTime, seconds]

theorem spacingTimerExpiry_timer_of_eligible (s : State) (ha : s.bus.slots.anyEligible = true) :
    (spacingTimerExpiry s).bus.blockedTimer = s.bus.blockedTimer := by
  have hany : { s.bus.slots with spacing := 0 }.anyEligible = true := by
    rw [anyEligible_iff] at ha ⊢
    obtain ⟨k, hk⟩ := ha
    refine ⟨k, ?_⟩
    cases k with
    | directive =>
      have hset : s.bus.slots.directive.isSome = true := by
        simp only [Slots.eligible, Bool.and_eq_true] at hk
        exact hk.1
      simp [Slots.eligible, hset]
    | _ => exact hk
  simp [spacingTimerExpiry, Bus.withSlots, hany, ha]

/-- Settles O26: the four events' rows, and R54 under every other command. -/
theorem lineEventsAct : Obligations.LineEventsAct := by
  refine ⟨fun s => ⟨⟨_, rfl, rfl, fun hd => ?_, fun ha hd => spacingTimerExpiry_timer s hd ha,
      spacingTimerExpiry_timer_of_eligible s, by simp [onlyChanges_iff]⟩, fun ha => ?_, fun ht => ?_, ?_⟩,
    fun c s t before htimed hexec hpower hgap hblocked hbyte hbefore => ?_⟩
  · simp [spacingTimerExpiry, Slots.eligible, hd]
  · have hrow : quietGap s = s.setBus { s.bus.runOver.gap with quiet := max s.bus.quiet gapCount } := by
      simp [quietGap, ha]
    refine ⟨quietGap s, rfl, ?_⟩
    rw [hrow]
    exact ⟨rfl, le_max_right _ _, rfl, rfl, rfl, rfl, by simp [onlyChanges_iff]⟩
  · have hrow : lineBlockedTimerExpiry s
        = latch .lineBlocked (s.setBus { s.bus with blockedTimer := 0, lineBlocked := true }) := by
      rw [lineBlockedTimerExpiry, if_neg (by omega)]
    refine ⟨lineBlockedTimerExpiry s, rfl, ?_⟩
    rw [hrow]
    exact ⟨by simp, latch_latched _ _, by simp [onlyChanges_iff]⟩
  · refine ⟨startBitSeen s, rfl, ?_⟩
    unfold startBitSeen
    split_ifs with ha
    · refine ⟨rfl, fun hn => by simp [hn] at ha, fun hq => ?_, rfl, rfl, rfl, rfl, by simp [onlyChanges_iff]⟩
      simp [Bus.startBit, runGap, hq]
    · refine ⟨rfl, fun _ => rfl, fun hq => ?_, rfl, rfl, rfl, rfl, by simp [onlyChanges_iff]⟩
      simp [Bus.startBit, runGap, hq]
  · have hs := (timed_iff s).1 htimed
    split at hbefore
    next charge code =>
      subst hbefore
      cases hexec
      refine timer_cases ?_
      by_cases hidle : s.port.idle = true
      · rw [request_bus, if_pos hidle]
        exact originate_abort_timer charge code 0 0 hs _ rfl
      · rw [request_bus, if_neg hidle]
        exact (Bus.Moves.of_eq rfl).runsOn hs
    next hother =>
      subst hbefore
      exact timer_cases (exec_runsOn hexec hpower hgap hblocked hbyte (fun charge code h => hother charge code h) hs)

/-! ## The address clash (R44, R45, R62) -/

/-- Each row of a received frame takes its run for an owner of the kind it stands under. -/
theorem exec_frame_row (run : List LineByte) :
    ∀ x ∈ [(Instr.reportReceived run, FrameKind.report), (.offerReceived run, .offer), (.safeFrameReceived run, .safe),
        (.startDirectiveReceived run, .directive), (.holdDirectiveReceived run, .directive),
        (.resumeDirectiveReceived run, .directive), (.skipDirectiveReceived run, .directive),
        (.abortDirectiveReceived run, .directive), (.resetSafeDirectiveReceived run, .directive)],
      ∃ owner, FrameOwner x.2 owner ∧ ∀ s, exec x.1 s = .next (takeRun x.2 owner run s) := by
  simp only [List.forall_mem_cons, List.not_mem_nil, false_implies, implies_true, and_true]
  exact ⟨⟨_, .report, fun _ => rfl⟩, ⟨_, .offer, fun _ => rfl⟩, ⟨_, .safe, fun _ => rfl⟩,
    ⟨_, .directive .start, fun _ => rfl⟩, ⟨_, .directive .hold, fun _ => rfl⟩, ⟨_, .directive .resume, fun _ => rfl⟩,
    ⟨_, .directive .skip, fun _ => rfl⟩, ⟨_, .directive .abort, fun _ => rfl⟩, ⟨_, .directive .resetSafe, fun _ => rfl⟩⟩

theorem heardFrame_eq {s : State} {run : List LineByte} {f : Frame} {k : FrameKind} (hj : judgeRun run = some f)
    (hkiln : f.kiln = s.straps.kiln) (hkind : f.kind = k.code) (hown : s.bus.ownSent ≠ some (run.map (·.data))) :
    s.heardFrame k run = some f := by
  simp [State.heardFrame, hj, hkiln, hkind, State.isOwnRun, hown]

/-- The state after an address clash is set (R45), before the run that set it ends. -/
def clashedState (s : State) : State := latch .addressClash (s.setBus s.bus.clashed)

theorem setClash_endRun (s : State) : setClash (endRun s) = endRun (clashedState s) := by
  rw [clashedState, setClash, endRun, endRun, latch_setBus, latch_setBus, latch_setBus]
  simp only [State.setBus_bus]
  rfl

@[simp] theorem clashedState_bus (s : State) : (clashedState s).bus = s.bus.clashed := by simp [clashedState]

@[simp] theorem clashedState_straps (s : State) : (clashedState s).straps = s.straps := by simp [clashedState]

theorem takeRun_of_clash {s : State} {run : List LineByte} {f : Frame} {k : FrameKind} (ho : s.bus.runOpen = true)
    (ha : s.bus.attempt = none) (hf : s.heardFrame k run = some f) (hs : f.station = s.straps.station)
    (hclash : s.bus.clash = false) (owner : Frame → State → State) :
    takeRun k owner run s = owner f (endRun (clashedState s)) := by
  simp [takeRun, Bus.runEnds, ho, ha, hf, State.clashes, hs, hclash, setClash_endRun]

theorem takeRun_of_latched {s : State} {run : List LineByte} {f : Frame} {k : FrameKind} (ho : s.bus.runOpen = true)
    (ha : s.bus.attempt = none) (hf : s.heardFrame k run = some f) (hclash : s.bus.clash = true)
    (owner : Frame → State → State) : takeRun k owner run s = owner f (endRun s) := by
  simp [takeRun, Bus.runEnds, ho, ha, hf, State.clashes, hclash]

theorem takeRun_report_own {s : State} {f : Frame} (hs : f.station = s.straps.station) :
    ownReport f (endRun s) = s.setBus s.bus.runOver := if_pos hs

theorem clashedState_stamp (s : State) :
    (endRun (clashedState s)).attention.stamp .addressClash
      = some ((s.attention.stamp .addressClash).getD s.schedule.minute) := by
  change (clashedState s).attention.stamp .addressClash = _
  rw [clashedState, latch_stamp_self _ _ (by decide), State.setBus_attention, State.setBus_schedule]
  cases s.attention.stamp .addressClash <;> rfl

/-- Settles O30: the latch, the slots and the stamp are set before the frame is handed on, as where the latch stands. -/
theorem addressClashSilences : Obligations.AddressClashSilences := by
  intro run f s ho ha hj hkiln hs hown
  refine ⟨fun hclash x hx hkind => ?_, fun hclash hkind => ?_⟩
  · obtain ⟨owner, howner, hexec⟩ := exec_frame_row run x hx
    have hf := heardFrame_eq hj hkiln hkind hown
    have hrow := takeRun_of_clash ho ha hf hs hclash owner
    have hbus : (clashedState s).bus = s.bus.clashed := clashedState_bus s
    have hstraps : (clashedState s).straps = s.straps := clashedState_straps s
    have hf' : (clashedState s).heardFrame x.2 run = some f :=
      heardFrame_eq hj (by rw [hstraps]; exact hkiln) hkind (by rw [hbus]; exact hown)
    have hrow' := takeRun_of_latched (s := clashedState s) (by rw [hbus]; exact ho) (by rw [hbus]; rfl) hf'
      (by rw [hbus]; rfl) owner
    have hended : (endRun (clashedState s)).bus = s.bus.clashed.runOver := by
      change (clashedState s).bus.runOver = _
      rw [hbus]
    obtain ⟨hlatched, hslots, hattempt, htimer⟩ := howner.silent f (s := endRun (clashedState s)) (by rw [hended]; rfl)
      (by rw [hended]; exact fun _ => ⟨rfl, rfl, rfl⟩)
    refine ⟨_, clashedState s, (hexec s).trans (congrArg _ hrow), hlatched, hslots, hattempt, htimer, ?_, ?_,
      (hexec _).trans (congrArg _ hrow'), fun hk => ?_, fun hk => ?_⟩
    · exact (howner.latches f _).stamps _ _ (clashedState_stamp s)
    · rw [clashedState]
      have : s.bus.clashed = { s.bus with clash := true, slots := Slots.empty, blockedTimer := 0 } := by
        simp only [Bus.clashed, ← ha]
      rw [this]
      rfl
    · rw [hk] at howner
      cases howner
      exact takeRun_report_own (by rw [hstraps]; exact hs)
    · refine ⟨by rw [hbus]; exact ho, by rw [hbus]; rfl, hj, by rw [hstraps]; exact hkiln, hkind, by rw [hbus]; exact hown,
        fun _ => ⟨by rw [hbus]; rfl, hk⟩⟩
  · have hf := heardFrame_eq (k := .report) hj hkiln hkind hown
    exact congrArg Host.Outcome.next ((takeRun_of_latched ho ha hf hclash _).trans (takeRun_report_own hs))

end Sys2Proof.Machine
end

section
/-! A report accepted from another station (R61 to R69, R100, R103, R122): the entry, the conditions, the re-offer. -/

namespace Sys2Proof.Machine

/-! ## Entries and the conditions they leave -/

theorem exists_enterAll_enterPosition (p : Position) (k : Cause) (s : State) :
    ∃ path, enterPosition p k [] s = enterAll path s := ⟨[(p, k)], rfl⟩

/-- A test of one exit, which goes on with another test, is a run of entries. -/
theorem exists_enterAll_after {s : State} (p : Position) (k : Cause) {f : State → State}
    (h : ∀ u, ∃ path, f u = enterAll path u) : ∃ path, f (enterPosition p k [] s) = enterAll path s := by
  obtain ⟨path, hpath⟩ := h (enterPosition p k [] s)
  exact ⟨(p, k) :: path, hpath⟩

theorem exists_enterAll_ite {c : Prop} [Decidable c] {s t : State} (h : ∃ path, t = enterAll path s) :
    ∃ path, (if c then t else s) = enterAll path s := by
  split
  · exact h
  · exact ⟨[], rfl⟩

theorem exists_enterAll_testWarmup (s : State) : ∃ path, testWarmup s = enterAll path s :=
  exists_enterAll_ite (exists_enterAll_enterPosition _ _ s)

theorem exists_enterAll_testGather (s : State) : ∃ path, testGather s = enterAll path s :=
  exists_enterAll_ite (exists_enterAll_after _ _ exists_enterAll_testWarmup)

theorem exists_enterAll_testCool (s : State) : ∃ path, testCool s = enterAll path s :=
  exists_enterAll_ite (exists_enterAll_enterPosition _ _ s)

theorem exists_enterAll_testCondition (s : State) : ∃ path, testCondition s = enterAll path s :=
  exists_enterAll_ite (exists_enterAll_after _ _ exists_enterAll_testCool)

theorem exists_enterAll_exitsAtOnce (s : State) : ∃ path, exitsAtOnce s = enterAll path s := by
  unfold exitsAtOnce
  split
  · exact exists_enterAll_testGather s
  · exact exists_enterAll_testWarmup s
  · exact exists_enterAll_testCondition s
  · exact exists_enterAll_testCool s
  all_goals exact ⟨[], rfl⟩

theorem exists_enterAll_enter (p : Position) (k : Cause) (s : State) : ∃ path, enter p k s = enterAll path s :=
  exists_enterAll_after p k exists_enterAll_exitsAtOnce

theorem exists_enterAll_showSchedule (n : Nat) (d : ReportData) (s : State) :
    ∃ path, showSchedule n d s = enterAll path s := by
  obtain ⟨path, hpath⟩ := exists_enterAll_testGather s
  obtain ⟨path', hpath'⟩ : ∃ path', followReport n d (testGather s) = enterAll path' (testGather s) :=
    exists_enterAll_ite (exists_enterAll_enter _ _ _)
  exact ⟨path ++ path', by rw [showSchedule, hpath', hpath, enterAll_append]⟩

theorem showSchedule_stamp (n : Nat) (d : ReportData) (s : State) {c : Condition} (h1 : c ≠ .stepAdvanced)
    (h2 : c ≠ .phaseEntered) (ho : c ≠ .traceOverrun) :
    (showSchedule n d s).attention.stamp c = s.attention.stamp c := by
  obtain ⟨path, hpath⟩ := exists_enterAll_showSchedule n d s
  rw [hpath, enterAll_stamp path s h1 h2 ho]

theorem requestCalibration_attention (s : State) : (requestCalibration s).attention = s.attention := by simp

theorem promote_stamp (k : Cause) (s : State) {c : Condition} (h1 : c ≠ .stepAdvanced) (h2 : c ≠ .phaseEntered)
    (ho : c ≠ .traceOverrun) : (promote k s).attention.stamp c = s.attention.stamp c := by
  obtain ⟨path, hpath⟩ := exists_enterAll_enter .gather k (promoteTimers (requestCalibration (promoteStore s)))
  rw [promote, hpath, enterAll_stamp path _ h1 h2 ho]
  simp

theorem lateJoin_stamp (n : Nat) (d : ReportData) (s : State) {c : Condition} (h1 : c ≠ .stepAdvanced)
    (h2 : c ≠ .phaseEntered) (ho : c ≠ .traceOverrun) : (lateJoin n d s).attention.stamp c = s.attention.stamp c := by
  unfold lateJoin
  split
  · exact promote_stamp _ _ h1 h2 ho
  · rfl

/-! ## A report taken -/

/-- The entry written and the conditions of R68 and R69 latched, before the store and the schedule are shown the report. -/
def reportTaken (n : Nat) (d : ReportData) (s : State) : State :=
  latchAll (reportConditions s.store.current n d) (writeEntry n d s)

theorem acceptReport_eq (n : Nat) (d : ReportData) (s : State) :
    acceptReport n d s = showSchedule n d (lateJoin n d (reoffer n d (reportTaken n d s))) := rfl

theorem exec_reportReceived_own {s : State} {run : List LineByte} {f : Frame} (h : s.Hears .report run f) :
    exec (.reportReceived run) s = .next (ownReport f (endRun s)) :=
  congrArg Host.Outcome.next (takeRun_of_hears h ownReport)

theorem exec_reportReceived {s : State} {run : List LineByte} {f : Frame} {d : ReportData} (h : s.Hears .report run f)
    (hd : parseReport f.charge f.payload = some d) :
    exec (.reportReceived run) s = .next (acceptReport f.station d (endRun s)) := by
  have hown : ¬f.station = (endRun s).straps.station := fun he => hears_report_other h he
  rw [exec_reportReceived_own h, ownReport, if_neg hown, hd]

theorem hears_station {s : State} {k : FrameKind} {run : List LineByte} {f : Frame} (h : s.Hears k run f) :
    1 ≤ f.station ∧ f.station ≤ 32 := by
  obtain ⟨-, -, hj, -⟩ := h
  exact judgeRun_station hj

theorem acceptReport_peers (n : Nat) (d : ReportData) (s : State) :
    (acceptReport n d s).peers = s.peers.setEntry n (some { state := .fresh, data := d, age := 0 }) := by
  simp [acceptReport, writeEntry]

theorem acceptReport_stamp (n : Nat) (d : ReportData) (s : State) {c : Condition} (h1 : c ≠ .stepAdvanced)
    (h2 : c ≠ .phaseEntered) (ho : c ≠ .traceOverrun) (hc : c ∉ reportConditions s.store.current n d) :
    (acceptReport n d s).attention.stamp c = s.attention.stamp c := by
  have hreoffer : (reoffer n d (reportTaken n d s)).attention = (reportTaken n d s).attention := by simp
  rw [acceptReport_eq, showSchedule_stamp _ _ _ h1 h2 ho, lateJoin_stamp _ _ _ h1 h2 ho, hreoffer, reportTaken,
    latchAll_stamp_ne _ _ hc ho]
  rfl

theorem acceptReport_latched (n : Nat) (d : ReportData) (s : State) {c : Condition}
    (hc : c ∈ reportConditions s.store.current n d) : (acceptReport n d s).attention.latched c = true := by
  have htaken : (reportTaken n d s).attention.latched c = true := latchAll_latched _ _ _ hc
  have hreoffer : (reoffer n d (reportTaken n d s)).attention.latched c = true := by simpa using htaken
  have hjoin : (lateJoin n d (reoffer n d (reportTaken n d s))).attention.latched c = true := by
    unfold lateJoin
    split
    · exact (promote_latches _ _).latched hreoffer
    · exact hreoffer
  exact ((testGather_latches _).trans (followReport_latches _ _ _)).latched hjoin

/-- R68, R69: by the current charge number alone, with a station off the roster or with another check. -/
theorem mem_reportConditions (current : Option RankedRecord) (n : Nat) (d : ReportData) (c : Condition) :
    c ∈ reportConditions current n d ↔ ∃ r, current = some r ∧ d.charge = r.record.chargeNumber
      ∧ (c = .unlistedStation ∧ r.record.onRoster n = false ∨ c = .recordClash ∧ d.check ≠ r.check) := by
  unfold reportConditions
  cases current with
  | none => simp
  | some r =>
    by_cases hd : d.charge = r.record.chargeNumber <;> by_cases hc : d.check = r.check <;>
      cases hr : r.record.onRoster n <;> simp [hd, hc, hr]

/-- Settles O32: the entry whole, and the two conditions exactly by the report's standing. -/
theorem reportAcceptedWritesEntry : Obligations.ReportAcceptedWritesEntry := by
  intro run f d s h
  refine ⟨fun hnone => ?_, fun hd => ?_⟩
  · rw [exec_reportReceived_own h, ownReport, hnone]
    exact congrArg Host.Outcome.next (ite_self (endRun s))
  · obtain ⟨h1, h32⟩ := hears_station h
    have hentry (m : Nat) : (acceptReport f.station d (endRun s)).peers.entry m
        = if m = f.station then some { state := .fresh, data := d, age := 0 } else s.peers.entry m := by
      rw [acceptReport_peers, setEntry_entry]
      simp only [h1, h32, and_self, and_true]
      rfl
    have hstamp {c : Condition} (h1 : c ≠ .stepAdvanced) (h2 : c ≠ .phaseEntered) (ho : c ≠ .traceOverrun)
        (hc : c ∉ reportConditions s.store.current f.station d) :
        (acceptReport f.station d (endRun s)).attention.stamp c = s.attention.stamp c :=
      acceptReport_stamp f.station d (endRun s) h1 h2 ho hc
    have hlatched {c : Condition} (hc : c ∈ reportConditions s.store.current f.station d) :
        (acceptReport f.station d (endRun s)).attention.latched c = true := acceptReport_latched f.station d (endRun s) hc
    refine ⟨_, exec_reportReceived h hd, by rw [hentry, if_pos rfl], fun n hn => by rw [hentry, if_neg hn], ?_,
      fun r hr hcharge => ⟨fun hroster => ?_, fun hcheck => ?_⟩, fun hcase => ?_, fun hcase => ?_, ?_⟩
    · rw [acceptReport_peers, setEntry_reportTimer]; rfl
    · exact hlatched ((mem_reportConditions _ _ _ _).2 ⟨r, hr, hcharge, .inl ⟨rfl, hroster⟩⟩)
    · exact hlatched ((mem_reportConditions _ _ _ _).2 ⟨r, hr, hcharge, .inr ⟨rfl, hcheck⟩⟩)
    · refine hstamp (by decide) (by decide) (by decide) fun hmem => ?_
      obtain ⟨r, hr, hcharge, ⟨-, hroster⟩ | ⟨hne, -⟩⟩ := (mem_reportConditions _ _ _ _).1 hmem
      · obtain hnone | ⟨r', hr', hother⟩ := hcase
        · rw [hr] at hnone; cases hnone
        · obtain rfl := Option.some.inj (hr.symm.trans hr')
          exact hother.elim (fun hne => hne hcharge) (fun ht => by rw [hroster] at ht; cases ht)
      · cases hne
    · refine hstamp (by decide) (by decide) (by decide) fun hmem => ?_
      obtain ⟨r, hr, hcharge, ⟨hne, -⟩ | ⟨-, hcheck⟩⟩ := (mem_reportConditions _ _ _ _).1 hmem
      · cases hne
      · obtain hnone | ⟨r', hr', hother⟩ := hcase
        · rw [hr] at hnone; cases hnone
        · obtain rfl := Option.some.inj (hr.symm.trans hr')
          exact hother.elim (fun hne => hne hcharge) hcheck
    · simp [onlyChanges_iff, endRun]

/-! ## The re-offer (R100, R105) -/

theorem reportTaken_store (n : Nat) (d : ReportData) (s : State) : (reportTaken n d s).store = s.store := by
  simp [reportTaken, writeEntry]

theorem reoffers_iff (p : Position) : p.reoffers = true ↔ p ≠ .idle ∧ p ≠ .complete := by cases p <;> simp [Position.reoffers]

theorem drawsOffer_stray {s : State} {r : RankedRecord} {n : Nat} {d : ReportData} (hr : s.store.current = some r)
    (hroster : r.record.onRoster n = true) (hcharge : d.charge ≠ r.record.chargeNumber) :
    s.drawsOffer n d = true ↔
      (s.schedule.position ≠ .idle ∧ s.schedule.position ≠ .complete) ∧ s.store.holdoff = 0 := by
  rw [← reoffers_iff]
  simp [State.drawsOffer, State.currentRecord, hr, hroster, hcharge]

/-- A late join needs IDLE or COMPLETE (R103). -/
theorem joinsLate_position {s : State} {n : Nat} {d : ReportData} (h : s.joinsLate n d = true) :
    s.schedule.position = .idle ∨ s.schedule.position = .complete := by
  unfold State.joinsLate at h
  split at h
  · simp only [Bool.and_eq_true, Bool.or_eq_true, beq_iff_eq] at h
    tauto
  · cases h

theorem lateJoin_offer (n : Nat) (d : ReportData) {s : State} (h : s.bus.slots.offer = none) :
    (lateJoin n d s).bus.slots.offer = none := by
  unfold lateJoin
  split
  · rw [promote_bus, Bus.turnOffer, h]; rfl
  · exact h

theorem showSchedule_bus (n : Nat) (d : ReportData) (s : State) : (showSchedule n d s).bus = s.bus := by simp

/-- A stray roster station's report sets an empty OFFER slot in the phases of R100, with the holdoff timer at 0. -/
theorem acceptReport_stray_offer {s : State} {r : RankedRecord} {n : Nat} {d : ReportData} (hr : s.store.current = some r)
    (hroster : r.record.onRoster n = true) (hcharge : d.charge ≠ r.record.chargeNumber) (hclash : s.bus.clash = false)
    (hoffer : s.bus.slots.offer = none) :
    (acceptReport n d s).bus.slots.offer =
      (if s.schedule.position ≠ .idle ∧ s.schedule.position ≠ .complete ∧ s.store.holdoff = 0 then
        some { rank := .current, failed := 0 }
      else none) := by
  have hbus : (reportTaken n d s).bus = s.bus := by simp [reportTaken, writeEntry]
  have hschedule : (reportTaken n d s).schedule = s.schedule := by simp [reportTaken, writeEntry]
  have hdraws := drawsOffer_stray (s := reportTaken n d s) (by rw [reportTaken_store]; exact hr) hroster hcharge
  rw [hschedule, reportTaken_store, and_assoc] at hdraws
  rw [acceptReport_eq, showSchedule_bus]
  split_ifs with hcase
  · have hposition : ¬(reoffer n d (reportTaken n d s)).joinsLate n d = true := fun hj => by
      have hp := joinsLate_position hj
      have hsame : (reoffer n d (reportTaken n d s)).schedule = s.schedule := by simp [hschedule]
      rw [hsame] at hp
      tauto
    rw [lateJoin, if_neg hposition, reoffer, if_pos (hdraws.2 hcase), State.setBus_bus, hbus, Bus.setOfferSlot,
      if_neg (by simp [hclash]), withSlots_slots, hoffer]
    rfl
  · refine lateJoin_offer n d ?_
    rw [reoffer, if_neg (fun hd => hcase (hdraws.1 hd)), hbus, hoffer]

theorem setOfferSlot_current_set {b : Bus} {o : OfferSlot} (h : b.slots.offer = some o) : b.setOfferSlot .current = b := by
  unfold Bus.setOfferSlot
  split
  · rfl
  · have hsetting : offerSetting b.slots.offer .current = b.slots.offer := by
      rw [h]
      obtain ⟨_ | _, _⟩ := o <;> rfl
    rw [hsetting, withSlots_eq_of_eligible (anyEligible_of_offer h), if_pos (anyEligible_of_offer h)]

/-- A roster station whose entry does not stand MATCHED keeps the gather watch from being met (R111). -/
theorem gatherMet_eq_false {s : State} {r : RankedRecord} {n : Nat} (hr : s.store.current = some r)
    (hroster : r.record.onRoster n = true) (h1 : 1 ≤ n) (h32 : n ≤ 32) (hown : n ≠ s.straps.station)
    (hmatched : s.freshMatched n = false) : s.gatherMet = false := by
  rw [← Bool.not_eq_true]
  intro hmet
  simp only [State.gatherMet, State.currentRecord, hr, Option.map_some, List.all_eq_true, List.mem_range] at hmet
  have := hmet (n - 1) (by omega)
  rw [show n - 1 + 1 = n by omega] at this
  simp [hroster, hown, hmatched] at this

/-- A report of another charge from a roster station, with the OFFER slot set, only writes its entry (R100, R111, R121). -/
theorem acceptReport_stray_set {s : State} {r : RankedRecord} {n : Nat} {d : ReportData} {o : OfferSlot}
    (hr : s.store.current = some r) (hroster : r.record.onRoster n = true) (hcharge : d.charge ≠ r.record.chargeNumber)
    (h1 : 1 ≤ n) (h32 : n ≤ 32) (hown : n ≠ s.straps.station) (hidle : s.schedule.position ≠ .idle)
    (hcomplete : s.schedule.position ≠ .complete) (hslot : s.bus.slots.offer = some o ∨ s.store.holdoff ≠ 0) :
    acceptReport n d s = writeEntry n d s := by
  have htaken : reportTaken n d s = writeEntry n d s := by
    have hconds : reportConditions s.store.current n d = [] := by
      rw [hr]
      exact if_neg hcharge
    rw [reportTaken, hconds, latchAll_nil]
  have hreoffer : reoffer n d (writeEntry n d s) = writeEntry n d s := by
    unfold reoffer
    split_ifs with hd
    · obtain ho | hholdoff := hslot
      · rw [setOfferSlot_current_set (b := (writeEntry n d s).bus) ho]
        rfl
      · exact absurd ((drawsOffer_stray (s := writeEntry n d s) hr hroster hcharge).1 hd).2 hholdoff
    · rfl
  have hjoin : lateJoin n d (writeEntry n d s) = writeEntry n d s := if_neg fun hj =>
    (joinsLate_position hj).elim hidle hcomplete
  have hentry : (writeEntry n d s).peers.entry n = some { state := .fresh, data := d, age := 0 } := by
    rw [writeEntry, State.setPeers_peers, setEntry_entry]
    simp [h1, h32]
  have hmatched : (writeEntry n d s).freshMatched n = false := by
    rw [← Bool.not_eq_true, freshMatched_iff]
    rintro ⟨c, e, hc, he, -, -, hnumber, -⟩
    obtain rfl := Option.some.inj (hr.symm.trans hc)
    rw [hentry] at he
    cases he
    exact hcharge hnumber
  have hgather : testGather (writeEntry n d s) = writeEntry n d s := by
    refine if_neg ?_
    rw [gatherMet_eq_false (s := writeEntry n d s) hr hroster h1 h32 hown hmatched]
    simp
  have hfollow : followReport n d (writeEntry n d s) = writeEntry n d s := by
    refine if_neg fun hf => ?_
    have hstanding : standing (writeEntry n d s).store.current n d = .matched := by
      unfold State.follows at hf
      split at hf
      · simp only [Bool.and_eq_true, beq_iff_eq] at hf
        tauto
      · cases hf
    obtain ⟨c, hc, -, hnumber, -⟩ := (standing_matched_iff _ _ _).1 hstanding
    obtain rfl := Option.some.inj (hr.symm.trans hc)
    exact hcharge hnumber
  rw [acceptReport_eq, htaken, hreoffer, hjoin, showSchedule, hgather, hfollow]

theorem attemptComplete_offer {s : State} {a : Attempt} (ha : s.bus.attempt = some a) (hk : a.kind = .offer) :
    attemptComplete s =
      (s.setBus
        ({ s.bus.lineReleased with ownSent := some a.bytes }.withSlots { s.bus.slots with offer := none })).setStore
        { s.store with holdoff := 1152000 } := by
  simp only [attemptComplete, ha, hk, if_true]
  rfl

/-- Settles O35: the re-offer and its holdoff, and the stray's report in both orders with the own OFFER's completion. -/
theorem strayPeerDrawsOffer : Obligations.StrayPeerDrawsOffer := by
  refine ⟨fun run f d s r h hd hr hroster hcharge hclash hoffer => ⟨_, exec_reportReceived h hd, ?_⟩, ?_, fun s => rfl⟩
  · exact acceptReport_stray_offer (s := endRun s) hr hroster hcharge hclash hoffer
  · intro run f d s r a o ha hk ho hoffer hj hkiln hkind hstation hown hbytes hd hr hroster hcharge hclash hidle hcomplete
    obtain ⟨h1, h32⟩ := judgeRun_station hj
    have hattempt : s.bus.attempt ≠ none := by rw [ha]; exact Option.some_ne_none a
    have hheard : s.heardFrame .report run = some f := heardFrame_eq hj hkiln hkind hown
    have hentry (u : State) : (writeEntry f.station d u).peers.entry f.station
        = some { state := .fresh, data := d, age := 0 } := by
      rw [writeEntry, State.setPeers_peers, setEntry_entry]
      simp [h1, h32]
    refine ⟨?_, ?_⟩
    · have hrow : takeRun .report ownReport run s = writeEntry f.station d s := by
        rw [takeRun_of_attempt ho hattempt hheard hstation, ownReport, if_neg hstation, hd]
        exact acceptReport_stray_set hr hroster hcharge h1 h32 hstation hidle hcomplete (.inl hoffer)
      refine ⟨_, _, congrArg Host.Outcome.next hrow, hentry s, rfl, rfl, by simp [onlyChanges_iff, writeEntry], rfl, ?_⟩
      rw [attemptComplete_offer (s := writeEntry f.station d s) ha hk]
      exact ⟨rfl, rfl, hentry s⟩
    · set t := (s.setBus
        ({ s.bus.lineReleased with ownSent := some a.bytes }.withSlots { s.bus.slots with offer := none })).setStore
        { s.store with holdoff := 1152000 } with ht
      have hcompletes : attemptComplete s = t := attemptComplete_offer ha hk
      have hears : t.Hears .report run f :=
        ⟨ho, rfl, hj, hkiln, hkind, fun he => hbytes (Option.some.inj he), fun he => absurd he hstation⟩
      refine ⟨t, _, congrArg Host.Outcome.next hcompletes, rfl, rfl, exec_reportReceived hears hd, ?_⟩
      rw [acceptReport_stray_set (s := endRun t) (o := o) hr hroster hcharge h1 h32 hstation hidle hcomplete
        (.inr (Nat.succ_ne_zero 1151999))]
      exact ⟨hentry _, rfl, rfl⟩

end Sys2Proof.Machine
end

section
/-! The gather watch and the follow rule on an accepted report (R111, R121, R122), as one run of entries. -/

namespace Sys2Proof.Machine

/-! ## Runs of entries after what the event did before -/

/-- The entries after the first follow steadily. -/
def State.SteadyFrom (s : State) : List (Position × Cause) → Prop
  | [] => True
  | (p, _) :: rest => s.SteadyPath p rest

/-- A run of entries from a state that the event has left with the schedule and the climate controller as they were. -/
theorem entersPath_onto {s u : State} {r : ChargeRecord} {before : List TraceRecord} {path : List (Position × Cause)}
    (hr : u.currentRecord = some r) (hmode : path ≠ [] → u.schedule.mode ≠ .safe) (hsteady : u.SteadyFrom path)
    (hw : s.RingBounded → s.Writes u before) (hsched : u.schedule = s.schedule) (hc : u.climate = s.climate)
    (hd : u.dryBulb = s.dryBulb) (hs : u.straps = s.straps)
    (hstamp : ∀ c ∈ [Condition.stepAdvanced, .phaseEntered], u.attention.stamp c = s.attention.stamp c) :
    EntersPath s (enterAll path u) r before path := by
  cases path with
  | nil =>
    refine ⟨hsched, nofun, fun hb => ?_, nofun⟩
    rw [pathRecords, List.append_nil]
    exact hw hb
  | cons x rest =>
    obtain ⟨p, k⟩ := x
    exact (entersPath_enterAll p k rest hr (hmode (by simp)) eventOrdered_nil (.inr (by simp)) hsteady).after hw
      (fun h => by simp at h) (fun _ => by rw [hsched]) hc (by rw [hsched]) hd hs hstamp

theorem steadyPath_append {s : State} {p : Position} {xs ys : List (Position × Cause)} (h : s.SteadyPath p xs)
    (k : s.SteadyPath (lastPosition p xs) ys) : s.SteadyPath p (xs ++ ys) := by
  induction xs generalizing p with
  | nil => exact k
  | cons x xs ih => exact ⟨h.1, ih h.2 k⟩

/-- An entry from a position with loops is steady. -/
theorem steady_of_loop (s : State) {p : Position} (h : p.isLoop = true) (q : Position) : s.Steady p q := fun _ => .inl h

/-! ## The gather watch (R111) -/

theorem gatherMet_iff {s : State} {r : RankedRecord} (hr : s.store.current = some r) :
    s.gatherMet = true ↔ s.RosterMatched r 0 := by
  simp only [State.gatherMet, State.currentRecord, hr, Option.map_some, List.all_eq_true, List.mem_range, Bool.or_eq_true,
    Bool.not_eq_true', decide_eq_true_eq, freshMatched_iff]
  constructor
  · intro h n h1 h32 hroster hown _
    have hn := h (n - 1) (by omega)
    rw [show n - 1 + 1 = n by omega] at hn
    obtain (hoff | hself) | ⟨c, e, hc, he, hfresh, -, hcharge, hcheck⟩ := hn
    · rw [hroster] at hoff; cases hoff
    · exact absurd hself hown
    · obtain rfl := Option.some.inj hc
      exact ⟨e, he, hfresh, hcharge, hcheck⟩
  · intro h i hi
    by_cases hroster : r.record.onRoster (i + 1) = true
    · by_cases hown : i + 1 = s.straps.station
      · exact .inl (.inr hown)
      · obtain ⟨e, he, hfresh, hcharge, hcheck⟩ := h (i + 1) (by omega) (by omega) hroster hown (by omega)
        exact .inr ⟨r, e, rfl, he, hfresh, hroster, hcharge, hcheck⟩
    · exact .inl (.inl (Bool.eq_false_iff.2 hroster))

/-- With a station's report just written the roster is matched by the other entries and by the report (R111). -/
theorem rosterMatched_written {s u : State} {r : RankedRecord} {n : Nat} {d : ReportData} (h1 : 1 ≤ n) (h32 : n ≤ 32)
    (hown : n ≠ s.straps.station) (hstraps : u.straps = s.straps)
    (hpeers : u.peers = s.peers.setEntry n (some { state := .fresh, data := d, age := 0 })) :
    u.RosterMatched r 0 ↔ s.RosterMatched r n
      ∧ (r.record.onRoster n = true → d.charge = r.record.chargeNumber ∧ d.check = r.check) := by
  have hentry (m : Nat) : u.peers.entry m
      = if m = n then some { state := .fresh, data := d, age := 0 } else s.peers.entry m := by
    rw [hpeers, setEntry_entry]
    simp [h1, h32]
  unfold State.RosterMatched
  simp only [hentry, hstraps]
  constructor
  · intro h
    refine ⟨fun m hm1 hm32 hroster hmown hne => ?_, fun hroster => ?_⟩
    · have hm := h m hm1 hm32 hroster hmown (by omega)
      rwa [if_neg hne] at hm
    · obtain ⟨e, he, -, hcharge, hcheck⟩ := h n h1 h32 hroster hown (by omega)
      rw [if_pos rfl] at he
      cases he
      exact ⟨hcharge, hcheck⟩
  · rintro ⟨hothers, hreport⟩ m hm1 hm32 hroster hmown -
    by_cases hm : m = n
    · subst hm
      exact ⟨_, if_pos rfl, rfl, hreport hroster⟩
    · rw [if_neg hm]
      exact hothers m hm1 hm32 hroster hmown hm

/-! ## The follow rule (R121) -/

theorem follows_iff {s : State} {r : RankedRecord} (hr : s.store.current = some r) (n : Nat) (d : ReportData)
    (hrank : (positionRank r.record.stepCount s.schedule.position).isSome = true) :
    s.follows n d = true ↔ s.FollowMet r s.schedule.position n d := by
  obtain ⟨a, ha⟩ := Option.isSome_iff_exists.1 hrank
  have hbeyond : s.isBeyond r.record d.position = true ↔
      ∃ a b, positionRank r.record.stepCount s.schedule.position = some a
        ∧ positionRank r.record.stepCount d.position = some b ∧ a < b := by
    unfold State.isBeyond
    rw [ha]
    cases positionRank r.record.stepCount d.position <;> simp
  have hstanding : standing s.store.current n d = .matched ↔ r.record.onRoster n = true
      ∧ d.charge = r.record.chargeNumber ∧ d.check = r.check := by
    rw [standing_matched_iff, hr]
    simp
  unfold State.follows State.FollowMet
  simp only [State.currentRecord, hr, Option.map_some, Bool.and_eq_true, beq_iff_eq, decide_eq_true_eq, hbeyond]
  rw [← hr, hstanding]
  tauto

theorem followMet_congr {s u : State} (hm : u.schedule.mode = s.schedule.mode) (r : RankedRecord) (own : Position) (n : Nat)
    (d : ReportData) : u.FollowMet r own n d ↔ s.FollowMet r own n d := by
  unfold State.FollowMet
  rw [hm]

/-- Nothing is followed into GATHER from a position past IDLE (TABLE 7-1). -/
theorem not_gather_of_followMet {s : State} {r : RankedRecord} {own : Position} {n : Nat} {d : ReportData}
    (h : s.FollowMet r own n d) (hown : own ≠ .idle) : d.position ≠ .gather := by
  obtain ⟨-, -, -, -, -, -, a, b, ha, hb, hlt⟩ := h
  intro hg
  rw [hg] at hb
  cases hb
  cases own <;> simp_all [positionRank]

/-! ## The gather watch, then the follow rule (R122) -/

theorem exits_warmup_cases (s : State) (r : ChargeRecord) :
    s.exits r .warmup = [] ∨ s.exits r .warmup = [(.drying 1, .own)] ∧ 1 ≤ r.stepCount := by
  unfold State.exits State.onward
  dsimp only
  split_ifs
  · cases hst : r.stepAt 1 with
    | none => exact .inl rfl
    | some st =>
      have hrange := ChargeRecord.stepAt_range hst
      cases s.dryBulb with
      | none => exact .inl rfl
      | some db =>
        dsimp only
        split_ifs
        · exact .inr ⟨rfl, by omega⟩
        · exact .inl rfl
  · exact .inl rfl

/-- The watch's entries are none, or lead to WARMUP or step 1, positions with loops and a rank. -/
theorem watchPath_cases {s : State} {r : ChargeRecord} {own : List (Position × Cause)} {W : Prop}
    (hown : W ∧ own = (.warmup, .own) :: s.exits r .warmup ∨ ¬W ∧ own = []) :
    own = [] ∨ ∃ rest, own = (.warmup, .own) :: rest ∧ s.SteadyPath .warmup rest
      ∧ (lastPosition .warmup rest).isLoop = true ∧ (positionRank r.stepCount (lastPosition .warmup rest)).isSome = true := by
  obtain ⟨-, rfl⟩ | ⟨-, rfl⟩ := hown
  · refine .inr ⟨_, rfl, steadyPath_exits s s r .warmup, ?_⟩
    obtain he | ⟨he, hsteps⟩ := exits_warmup_cases s r
    · rw [he]; exact ⟨rfl, rfl⟩
    · rw [he]
      refine ⟨rfl, ?_⟩
      change (positionRank r.stepCount (.drying 1)).isSome = true
      simp [positionRank, hsteps]
  · exact .inl rfl

/-- The position after the watch's entries: where it stands, or the last of them. -/
def reachedAfter (own : List (Position × Cause)) (p : Position) : Position :=
  match own.getLast? with | some x => x.1 | none => p

theorem reachedAfter_cons (p q : Position) (k : Cause) (rest : List (Position × Cause)) :
    reachedAfter ((p, k) :: rest) q = lastPosition p rest := by
  obtain ⟨x, hx⟩ := Option.ne_none_iff_exists'.1 (show ((p, k) :: rest).getLast? ≠ none by simp)
  rw [reachedAfter, hx]
  exact getLast_lastPosition p k rest hx

theorem enterAll_position (own : List (Position × Cause)) (s : State) :
    (enterAll own s).schedule.position = reachedAfter own s.schedule.position := by
  induction own generalizing s with
  | nil => rfl
  | cons x rest ih =>
    obtain ⟨p, k⟩ := x
    refine (ih (enterPosition p k [] s)).trans ?_
    rw [position_enterPosition]
    cases rest with
    | nil => rfl
    | cons y rest => rw [reachedAfter_cons, reachedAfter_cons]; rfl

/-- A report at the schedule controller is the run of the watch's entries and then of the follow rule's (R111, R121, R122). -/
theorem showSchedule_eq {u : State} {r : RankedRecord} {n : Nat} {d : ReportData} {own followed : List (Position × Cause)}
    (hr : u.store.current = some r) (hposition : u.schedule.position ≠ .idle)
    (hrank : (positionRank r.record.stepCount u.schedule.position).isSome = true)
    (hown : (u.schedule.mode = .run ∧ u.schedule.position = .gather ∧ u.schedule.gatherArmed = true ∧ u.gatherMet = true)
          ∧ own = (.warmup, .own) :: u.exits r.record .warmup
        ∨ ¬(u.schedule.mode = .run ∧ u.schedule.position = .gather ∧ u.schedule.gatherArmed = true ∧ u.gatherMet = true)
          ∧ own = [])
    (hfollowed : u.FollowMet r (reachedAfter own u.schedule.position) n d
          ∧ followed = (d.position, .followed) :: u.exits r.record d.position
        ∨ ¬u.FollowMet r (reachedAfter own u.schedule.position) n d ∧ followed = []) :
    showSchedule n d u = enterAll (own ++ followed) u ∧ u.SteadyFrom (own ++ followed)
      ∧ (own ++ followed ≠ [] → u.schedule.mode = .run) := by
  have hrecord : u.currentRecord = some r.record := by simp [State.currentRecord, hr]
  have hgather : testGather u = enterAll own u := by
    rw [testGather_eq hrecord]
    obtain ⟨hmet, rfl⟩ | ⟨hmet, rfl⟩ := hown
    · rw [if_pos hmet]
    · rw [if_neg hmet]; rfl
  have hpath := watchPath_cases hown
  have hshown := enterAll_shown own u
  have hpos := enterAll_position own u
  have hstore : (enterAll own u).store.current = some r := by simpa using hr
  have hreached : reachedAfter own u.schedule.position ≠ .idle
      ∧ (positionRank r.record.stepCount (reachedAfter own u.schedule.position)).isSome = true := by
    obtain rfl | ⟨rest, rfl, -, hloop, hsome⟩ := hpath
    · exact ⟨hposition, hrank⟩
    · rw [reachedAfter_cons]
      refine ⟨fun hidle => ?_, hsome⟩
      rw [hidle] at hloop
      cases hloop
  have hiff : (enterAll own u).follows n d = true ↔ u.FollowMet r (reachedAfter own u.schedule.position) n d := by
    rw [follows_iff hstore n d (by rw [hpos]; exact hreached.2), hpos]
    exact followMet_congr (mode_of_shown hshown) _ _ _ _
  have hfollow : followReport n d (enterAll own u) = enterAll followed (enterAll own u) := by
    unfold followReport
    obtain ⟨hmet, rfl⟩ | ⟨hmet, rfl⟩ := hfollowed
    · have hrecord' : (enterAll own u).currentRecord = some r.record := by simp [State.currentRecord, hr]
      rw [if_pos (hiff.2 hmet), enter_eq hrecord' (not_gather_of_followMet hmet hreached.1), State.exits,
        onward_of_shown hshown, ← State.exits]
    · rw [if_neg fun h => hmet (hiff.1 h)]
      rfl
  refine ⟨by rw [showSchedule, hgather, hfollow, enterAll_append], ?_, fun hne => ?_⟩
  · have hsteady : ∀ p, p.isLoop = true → u.SteadyPath p followed := by
      intro p hp
      obtain ⟨-, rfl⟩ | ⟨-, rfl⟩ := hfollowed
      · exact ⟨steady_of_loop u hp _, steadyPath_exits u u _ _⟩
      · exact trivial
    obtain rfl | ⟨rest, rfl, hrest, hloop, -⟩ := hpath
    · obtain ⟨-, rfl⟩ | ⟨-, rfl⟩ := hfollowed
      · exact steadyPath_exits u u _ _
      · exact trivial
    · exact steadyPath_append hrest (hsteady _ hloop)
  · obtain ⟨⟨hm, -⟩, -⟩ | ⟨-, rfl⟩ := hown
    · exact hm
    · obtain ⟨hmet, -⟩ | ⟨-, rfl⟩ := hfollowed
      · obtain ⟨-, -, -, -, hm, -⟩ := hmet
        exact hm
      · exact absurd rfl hne

/-! ## An accepted report without a late join -/

theorem joinsLate_iff (s : State) (n : Nat) (d : ReportData) : s.joinsLate n d = true ↔ s.LateJoinMet n d := by
  unfold State.joinsLate State.LateJoinMet
  cases s.store.staged with
  | none => simp
  | some r =>
    simp only [Bool.and_eq_true, Bool.or_eq_true, beq_iff_eq, bne_iff_ne, decide_eq_true_eq, ne_eq, Option.some.injEq,
      exists_eq_left', and_assoc]

theorem reportConditions_ordered (current : Option RankedRecord) (n : Nat) (d : ReportData) :
    Condition.all.filter (· ∈ reportConditions current n d) = reportConditions current n d := by
  cases current with
  | none => rfl
  | some r =>
    unfold reportConditions
    dsimp only
    split_ifs <;> rfl

theorem reportConditions_ne (current : Option RankedRecord) (n : Nat) (d : ReportData) {c : Condition}
    (h : c ∈ reportConditions current n d) : c ≠ .traceOverrun ∧ c ≠ .stepAdvanced ∧ c ≠ .phaseEntered := by
  obtain ⟨r, -, -, ⟨rfl, -⟩ | ⟨rfl, -⟩⟩ := (mem_reportConditions _ _ _ _).1 h <;> decide

theorem reportTaken_writes (n : Nat) (d : ReportData) {s : State} (hs : s.RingBounded) :
    s.Writes (reportTaken n d s)
      (((reportConditions s.store.current n d).filter fun c => decide (s.attention.stamp c = none)).map
        fun c => s.traceRecord (.condition c)) := by
  have hwritten : (writeEntry n d s).RingBounded := hs
  have h := (latchAll_writes (reportConditions s.store.current n d) hwritten).of_source (s := s) rfl
  rw [reportConditions_ordered] at h
  have hfilter : ((reportConditions s.store.current n d).filter fun c =>
      decide (c ≠ .traceOverrun ∧ (writeEntry n d s).attention.stamp c = none))
        = (reportConditions s.store.current n d).filter fun c => decide (s.attention.stamp c = none) := by
    refine List.filter_congr fun c hc => ?_
    simp [(reportConditions_ne _ _ _ hc).1, writeEntry]
  rwa [hfilter] at h

/-- Settles O33: the watch's entries and then the follow rule's, on the records of R68 and R69. -/
theorem followEntersReportedStep : Obligations.FollowEntersReportedStep := by
  intro run f d s h hd hsound hjoin
  obtain ⟨h1, h32⟩ := hears_station h
  have hother : f.station ≠ s.straps.station := hears_report_other h
  set u := reoffer f.station d (reportTaken f.station d (endRun s)) with hu
  have hschedule : u.schedule = s.schedule := by simp [hu, reportTaken, writeEntry, endRun]
  have hclimate : u.climate = s.climate := by simp [hu, reportTaken, writeEntry, endRun]
  have hstore : u.store = s.store := by simp [hu, reportTaken, writeEntry, endRun]
  have hstraps : u.straps = s.straps := by simp [hu, reportTaken, writeEntry, endRun]
  have hsensors : u.sensors = s.sensors := by simp [hu, reportTaken, writeEntry, endRun]
  have hpeers : u.peers = s.peers.setEntry f.station (some { state := .fresh, data := d, age := 0 }) := by
    simp [hu, reportTaken, writeEntry, endRun]
  have hdry : u.dryBulb = s.dryBulb := dryBulb_of_sensors hsensors
  have haccept : acceptReport f.station d (endRun s) = showSchedule f.station d u := by
    have hlate : ¬u.joinsLate f.station d = true := by
      rw [joinsLate_iff]
      unfold State.LateJoinMet
      rw [hschedule, hstore]
      exact hjoin
    rw [acceptReport_eq, lateJoin, if_neg hlate]
  have hexec := exec_reportReceived h hd
  rw [haccept] at hexec
  refine ⟨fun hnone => ?_, fun r conds own followed reached hr hconds hown hreached hfollowed => ?_⟩
  · have hidle : u.schedule.position = .idle := by rw [hschedule]; exact hsound.1.2 hnone
    have hshow : showSchedule f.station d u = u := by
      have hgather : testGather u = u := if_neg (by simp [State.runningAt, hidle])
      rw [showSchedule, hgather]
      exact if_neg (by simp [State.follows, State.currentRecord, hstore, hnone])
    have hwritten : u = writeEntry f.station d (endRun s) := by
      have hempty : reportConditions (endRun s).store.current f.station d = [] := by
        have : (endRun s).store.current = none := hnone
        rw [this]; rfl
      rw [hu, reportTaken, hempty, latchAll_nil]
      exact if_neg (by simp [State.drawsOffer, State.currentRecord, writeEntry, endRun, hnone])
    rw [hshow, hwritten] at hexec
    exact ⟨_, hexec, rfl, by simp [onlyChanges_iff, writeEntry, endRun]⟩
  · have hr' : u.store.current = some r := by rw [hstore]; exact hr
    have hexits (p : Position) : u.exits r.record p = (s.onward r.record p).map (·, .own) := by
      rw [State.exits, onward_of_same (by rw [hschedule]) hdry]
    have hwatch : (u.schedule.mode = .run ∧ u.schedule.position = .gather ∧ u.schedule.gatherArmed = true
        ∧ u.gatherMet = true) ↔ s.WatchMet r f.station d := by
      rw [gatherMet_iff hr', rosterMatched_written h1 h32 hother hstraps hpeers, hschedule]
      unfold State.WatchMet
      tauto
    obtain ⟨hshow, hsteady, hmode⟩ := showSchedule_eq (n := f.station) (d := d) (own := own) (followed := followed) hr'
      (by rw [hschedule]; exact fun hidle => by rw [hsound.1.1 hidle] at hr; cases hr)
      (by rw [hschedule]; exact hsound.2 r hr)
      (by rw [hwatch, hexits]; exact hown)
      (by
        rw [followMet_congr (show u.schedule.mode = s.schedule.mode by rw [hschedule]), hexits, hschedule]
        rw [hreached] at hfollowed
        exact hfollowed)
    rw [hshow] at hexec
    have hpath : EntersPath s (enterAll (own ++ followed) u) r.record
        ((conds.filter fun c => decide (s.attention.stamp c = none)).map fun c => s.traceRecord (.condition c))
        (own ++ followed) := by
      refine entersPath_onto (by simp [State.currentRecord, hr']) (fun hne => by rw [hmode hne]; decide) hsteady (fun hb => ?_)
        hschedule hclimate hdry hstraps fun c hc => ?_
      · have hw := (reportTaken_writes f.station d (s := endRun s) hb).of_source (s := s) rfl
        have hcurrent : reportConditions (endRun s).store.current f.station d = conds := by
          rw [hconds]
          have : (endRun s).store.current = some r := hr
          rw [this]; rfl
        rw [hcurrent] at hw
        exact hw.of_target (by simp [hu])
      · have hreoffer : u.attention = (reportTaken f.station d (endRun s)).attention := by simp [hu]
        have ho : c ≠ .traceOverrun := by rintro rfl; simp at hc
        rw [hreoffer, reportTaken, latchAll_stamp_ne _ _ (fun hmem => ?_) ho]
        · rfl
        · obtain ⟨-, hsa, hpe⟩ := reportConditions_ne _ _ _ hmem
          simp [hsa, hpe] at hc
    refine ⟨_, hexec, hpath, fun hnil => by rw [hnil]; exact hclimate, by simp [hstore], ?_⟩
    simp [onlyChanges_iff, hu, reportTaken, writeEntry, endRun]

end Sys2Proof.Machine
end

section
/-! Directives at a receiver and at their origin (R127, R128, R133, R134), and the emergency input (R135 to R137). -/

namespace Sys2Proof.Machine

/-! ## A directive heard (R127, R128) -/

theorem directiveOf_eq_some_iff (n : Nat) (k : DirectiveKind) : directiveOf n = some k ↔ n = k.code := by
  unfold directiveOf
  split <;> cases k <;> simp_all [DirectiveKind.code]

theorem code_le (k : DirectiveKind) : k.code ≤ 255 := by cases k <;> decide

theorem exec_receivedRow (run : List LineByte) (k : DirectiveKind) (s : State) :
    exec (receivedRow run k) s = .next (takeRun .directive (ownDirective k) run s) := by cases k <;> rfl

theorem exec_receivedRow_of_hears {s : State} {run : List LineByte} {f : Frame} (h : s.Hears .directive run f)
    (k : DirectiveKind) : exec (receivedRow run k) s = .next (ownDirective k f (endRun s)) := by
  rw [exec_receivedRow, takeRun_of_hears h]

theorem directivePayload_fields (k : DirectiveKind) (code : Word16) (phase step : Byte) (payload : List Byte)
    (h : payload = [byteOf k.code] ++ be16 code.toNat ++ [phase, step]) :
    payload.length = 5 ∧ u8 payload 0 = k.code ∧ u16 payload 1 = code.toNat ∧ payload.getD 3 0 = phase
      ∧ payload.getD 4 0 = step := by
  have hcode : code.toNat ≤ 65535 := by have := code.isLt; omega
  subst h
  refine ⟨rfl, ?_, ?_, rfl, rfl⟩
  · rw [List.append_assoc, u8_byteOf _ (code_le k)]
  · rw [List.append_assoc, u16_append_right _ (le_refl 1)]
    exact u16_be16 _ hcode

/-- A directive heard is judged with the fields of its frame (R127). -/
theorem exec_received {s : State} {run : List LineByte} {k : DirectiveKind} {charge code : Word16} {phase step : Byte}
    (h : s.HearsDirective run k charge code phase step) (hskip : k = .skip → phase.toNat ≤ 7) :
    exec (receivedRow run k) s =
      .next (judgeDirective k charge.toNat code.toNat (skipTarget phase step) (endRun s)) := by
  obtain ⟨f, hf, hcharge, hpayload⟩ := h
  obtain ⟨hlen, hkind, hcode, hphase, hstep⟩ := directivePayload_fields k code phase step f.payload hpayload
  have hphase8 : u8 f.payload 3 = phase.toNat := by rw [u8, hphase]
  have hform : directiveForm k f.payload = true := by
    simp only [directiveForm, hlen, hkind, (directiveOf_eq_some_iff _ k).2 rfl, hphase8]
    by_cases hk : k = .skip
    · simp [hk, hskip hk]
    · simp [hk]
  rw [exec_receivedRow_of_hears hf, ownDirective, if_pos hform, hcharge, hcode, hphase, hstep]

/-- A directive that fails the form checks of R127 is ignored. -/
theorem exec_received_malformed {s : State} {run : List LineByte} {f : Frame} (h : s.Hears .directive run f)
    {k : DirectiveKind} (hform : directiveForm k f.payload = false) :
    exec (receivedRow run k) s = .next (s.setBus s.bus.runOver) := by
  rw [exec_receivedRow_of_hears h, ownDirective, if_neg (by simp [hform])]
  rfl

section
variable {k : DirectiveKind} {charge code : Word16} {p : Option Position} {s : State}

theorem toNat_eq_zero_iff (w : Word16) : w.toNat = 0 ↔ w = 0 := by
  rw [show (0 : Word16) = 0#16 from rfl, BitVec.toNat_eq]
  simp

theorem not_reset_zero (hcharge : k = .resetSafe → charge ≠ 0) : ¬(k = .resetSafe ∧ charge.toNat = 0) := fun ⟨hk, h0⟩ =>
  hcharge hk ((toNat_eq_zero_iff charge).1 h0)

theorem judgeDirective_of_runs (hk : k ≠ .start) (hcharge : k = .resetSafe → charge ≠ 0) (h : s.RunsCharge charge code) :
    judgeDirective k charge.toNat code.toNat p s = applyDirective k p s := by
  obtain ⟨r, hr, hn, hc⟩ := h
  rw [judgeDirective, if_neg hk, if_neg (not_reset_zero hcharge), hr]
  simp only [hn, hc, if_true]

theorem judgeDirective_reset_zero :
    judgeDirective .resetSafe (0 : Word16).toNat code.toNat p s =
      if s.schedule.position = .idle then applyDirective .resetSafe p s else s := by
  rw [judgeDirective, if_neg (by decide), if_pos ⟨rfl, rfl⟩]

theorem judgeDirective_other (hk : k ≠ .start) (hcharge : k = .resetSafe → charge ≠ 0)
    (h : ∀ r, s.currentRecord = some r → r.chargeNumber ≠ charge.toNat) :
    judgeDirective k charge.toNat code.toNat p s = s := by
  rw [judgeDirective, if_neg hk, if_neg (not_reset_zero hcharge)]
  cases hr : s.currentRecord with
  | none => rfl
  | some r => exact if_neg (h r hr)

theorem judgeDirective_code {r : ChargeRecord} (hk : k ≠ .start) (hcharge : k = .resetSafe → charge ≠ 0)
    (hr : s.currentRecord = some r) (hn : r.chargeNumber = charge.toNat) (hc : r.chargeCode ≠ code.toNat) :
    judgeDirective k charge.toNat code.toNat p s = latch .codeMismatch s := by
  rw [judgeDirective, if_neg hk, if_neg (not_reset_zero hcharge), hr]
  simp only [hn, hc, if_true, if_false]

end

theorem latched_of_bus {s u : State} (h : OnlyChanges [.bus] s u) (c : Condition) :
    (latch c u).bus = u.bus ∧ (latch c u).attention.latched c = true ∧ OnlyChanges [.bus, .attention, .trace] s (latch c u) :=
  ⟨by simp, (h.latched c).1, (h.latched c).2⟩

theorem endRun_onlyChanges (s : State) : OnlyChanges [.bus] s (endRun s) := by simp [onlyChanges_iff, endRun]

/-! ## A directive at its origin (R133, R134) -/

/-- The request of a directive, with a target for SKIP alone. -/
theorem exec_originRow (charge code : Word16) (phase step : Byte) (k : DirectiveKind) (s : State) :
    exec (originRow charge code phase step k) s =
      .next (request 0x03 (originate k charge code (if k = .skip then phase else 0) (if k = .skip then step else 0)) s) := by
  cases k <;> rfl

/-- What the origin leaves of a directive it has applied (R134): the DIRECTIVE slot set, the request answered DONE. -/
def originated (k : DirectiveKind) (charge code : Word16) (phase step : Byte) (v : State) : State :=
  (v.setBus (v.bus.setDirectiveSlot (directiveSetting k charge code phase step))).setPort
    { v.port with sending := some (responseOf 0x03 (.done [])) }

theorem originated_onlyChanges (k : DirectiveKind) (charge code : Word16) (phase step : Byte) (v : State) :
    OnlyChanges [.bus, .port] v (originated k charge code phase step v) := by simp [onlyChanges_iff, originated]

theorem originated_spec {k : DirectiveKind} (charge code : Word16) {phase step : Byte} {s v : State}
    (hclash : v.bus.clash = s.bus.clash) (hslot : v.bus.slots.directive = none) (hport : v.port = s.port)
    (htarget : k ≠ .skip → phase = 0 ∧ step = 0) :
    Originated k charge code phase step s (originated k charge code phase step v) := by
  refine ⟨?_, by rw [originated, State.setPort_port, hport]⟩
  have hsetting : directiveSetting k charge code phase step
      = { kind := k, charge, code, targetPhase := phase, targetStep := step, remaining := 3, failed := 0 } := by
    by_cases hk : k = .skip
    · simp [directiveSetting, hk]
    · obtain ⟨rfl, rfl⟩ := htarget hk
      simp [directiveSetting]
  rw [originated, State.setPort_bus, State.setBus_bus, hsetting, Bus.setDirectiveSlot, hslot, ← hclash]
  cases hc : v.bus.clash
  · rfl
  · simp [hslot]

section
variable {k : DirectiveKind} {charge code : Word16} {phase step : Byte} {s : State}

/-- A directive whose origin checks pass is applied and originated. -/
theorem exec_origin_applied (h : s.CanOriginate) (hskip : k = .skip → phase.toNat ≤ 7)
    (hrefusal : originRefusal k charge.toNat code.toNat
      (skipTarget (if k = .skip then phase else 0) (if k = .skip then step else 0)) s = none) :
    exec (originRow charge code phase step k) s =
      .next (originated k charge code (if k = .skip then phase else 0) (if k = .skip then step else 0)
        (applyAtOrigin k charge.toNat code.toNat
          (skipTarget (if k = .skip then phase else 0) (if k = .skip then step else 0)) s)) := by
  obtain ⟨⟨hsending, hbusy⟩, hslot⟩ := h
  have hform : ¬(k = .skip ∧ 7 < (if k = .skip then phase else 0).toNat) := fun ⟨hk, hlt⟩ => by
    rw [if_pos hk] at hlt
    have := hskip hk
    omega
  rw [exec_originRow, request_of_idle hsending hbusy, originate, if_neg (by simp [hslot]), if_neg hform, hrefusal]
  rfl

/-- A directive refused by an origin check: its condition latched, and the answer (R133). -/
theorem exec_origin_refused (h : s.CanOriginate) (hskip : k = .skip → phase.toNat ≤ 7) {a : Answer} {conds : List Condition}
    (hrefusal : originRefusal k charge.toNat code.toNat
      (skipTarget (if k = .skip then phase else 0) (if k = .skip then step else 0)) s = some (a, conds)) :
    exec (originRow charge code phase step k) s =
      .next ((latchAll conds s).setPort { s.port with sending := some (responseOf 0x03 a) }) := by
  obtain ⟨⟨hsending, hbusy⟩, hslot⟩ := h
  have hform : ¬(k = .skip ∧ 7 < (if k = .skip then phase else 0).toNat) := fun ⟨hk, hlt⟩ => by
    rw [if_pos hk] at hlt
    have := hskip hk
    omega
  have hport : (latchAll conds s).port = s.port := by simp
  rw [exec_originRow, request_of_idle hsending hbusy, originate, if_neg (by simp [hslot]), if_neg hform, hrefusal]
  simp only [beginResponse, hport]

theorem exec_origin_state (h : s.CanOriginate) (hskip : k = .skip → phase.toNat ≤ 7)
    (hrefusal : originRefusal k charge.toNat code.toNat
      (skipTarget (if k = .skip then phase else 0) (if k = .skip then step else 0)) s = some (.stateRefused, [])) :
    exec (originRow charge code phase step k) s = .next (s.answered 0x03 .stateRefused) := by
  rw [exec_origin_refused h hskip hrefusal, latchAll_nil]
  rfl

theorem rankRefusal_of_runs (h : s.RunsCharge charge code) : rankRefusal charge.toNat code.toNat s = none := by
  obtain ⟨r, hr, hn, hc⟩ := h
  simp [rankRefusal, hr, hn, hc]

theorem rankRefusal_other (h : ∀ r, s.currentRecord = some r → r.chargeNumber ≠ charge.toNat) :
    rankRefusal charge.toNat code.toNat s = some (.stateRefused, []) := by
  unfold rankRefusal
  cases hr : s.currentRecord with
  | none => rfl
  | some r => exact if_neg (h r hr)

theorem rankRefusal_code {r : ChargeRecord} (hr : s.currentRecord = some r) (hn : r.chargeNumber = charge.toNat)
    (hc : r.chargeCode ≠ code.toNat) : rankRefusal charge.toNat code.toNat s = some (.codeRefused, [.codeMismatch]) := by
  simp [rankRefusal, hr, hn, hc]

end

/-! ## What a directive does, seen past the bus controller and the port -/

/-- A run of entries is so between states that differ from its own in the bus controller and the port alone. -/
theorem EntersPath.of_bus {s u v t : State} {r : ChargeRecord} {path : List (Position × Cause)} {event : List Condition}
    (h : EntersPath u v r [] path event) (hu : OnlyChanges [.bus] s u) (ht : OnlyChanges [.bus, .port] v t) :
    EntersPath s t r [] path event := by
  simp only [onlyChanges_iff, List.mem_cons, List.not_mem_nil, or_false, reduceCtorEq, or_self, not_false_eq_true,
    forall_const, not_true_eq_false, false_imp_iff, true_and, or_true] at hu ht
  obtain ⟨-, -, hustraps, -, -, husensors, -, -, hupicture, -, huschedule, huclimate, huattention, hutrace, -⟩ := hu
  obtain ⟨-, -, htstraps, -, -, htsensors, -, -, htpicture, -, htschedule, htclimate, htattention, httrace, -⟩ := ht
  refine (h.after (s := s) (fun hb => State.Writes.nil hb (by rw [hutrace])) (fun _ => huschedule) (fun _ => by rw [huschedule])
    huclimate (by rw [huschedule]) (dryBulb_of_sensors husensors) hustraps (fun c _ => by rw [huattention])).of_target
    htschedule htclimate (by rw [httrace]) htattention
    (shown_of_eq (by rw [htschedule]) (by rw [htschedule]) htpicture htsensors htstraps)

/-! ## The emergency input and SAFE frames (R135 to R137) -/

theorem setSafeSlot_slots {b : Bus} (h : b.clash = false) :
    b.setSafeSlot.slots = { b.slots with safe := some (b.slots.safe.getD 0) } := by
  unfold Bus.setSafeSlot
  rw [h, Bool.false_or]
  cases hs : b.slots.safe with
  | none => rfl
  | some n =>
    obtain ⟨_, _, _, _, _, _, _, ⟨safe, _, _, _, _⟩, _, _, _, _⟩ := b
    cases hs
    rfl

theorem safeAnnounced_of {s u t : State} (h : SafeAnnounced u t) (hclimate : u.climate = s.climate)
    (hposition : u.schedule = s.schedule) (hstraps : u.straps = s.straps) (hstore : u.store = s.store)
    (htrace : u.trace = s.trace) (hattention : u.attention = s.attention) (hsensors : u.sensors = s.sensors)
    (hpicture : u.picture = s.picture) : SafeAnnounced s t := by
  obtain ⟨hc, hw⟩ := h
  have hin : u.climateIn .safe = s.climateIn .safe := by
    unfold State.climateIn State.currentRecord
    rw [hclimate, hposition, hstraps, hstore]
  have hrecord (k : TraceKind) : u.traceRecord k = s.traceRecord k :=
    traceRecord_eq (shown_of_eq (by rw [hposition]) (by rw [hposition]) hpicture hsensors hstraps) (by rw [hposition]) k
  refine ⟨hc.trans hin, fun hb => ?_⟩
  have hbu : u.RingBounded := by unfold State.RingBounded at *; rwa [htrace]
  have hws := (hw hbu).of_source (s := s) (by rw [htrace])
  rwa [hrecord, hrecord, hattention] at hws

theorem schedule_safe_eq {s : State} (h : s.schedule.mode = .safe) : s.schedule = { s.schedule with mode := .safe } := by
  rw [← h]

/-- Settles O52: the assertion and the SAFE frame enter SAFE by the same entry; in SAFE nothing but the slot moves. -/
theorem safeIsEntered : Obligations.SafeIsEntered := by
  refine fun s => ⟨fun he => ?_, fun run f h => ?_, rfl⟩
  · set u := (s.setPins { s.pins with emergency := true }).setBus s.bus.setSafeSlot with hu
    have hrow : emergencyAssertion s = enterSafe { station := s.straps.station, cause := 0x01 } [.safe] u :=
      emergencyAssertion_eq he
    have hbus : (emergencyAssertion s).bus = s.bus.setSafeSlot := by rw [hrow]; simp [hu]
    refine ⟨emergencyAssertion s, rfl, by rw [hrow]; simp [hu], ?_, ?_, fun hm => ?_, fun hm => ?_, fun hc => ?_,
      fun hc => ?_, by rw [hrow]; simp [onlyChanges_iff, hu]⟩
    · rw [hrow]
      by_cases hm : s.schedule.mode = .safe
      · rw [enterSafe_safe (s := u) hm, if_pos hm]
        have hsched : (latchAll [.safe] u).schedule = s.schedule := by simp [hu]
        rw [hsched]
        exact schedule_safe_eq hm
      · rw [enterSafe_schedule (s := u) hm, if_neg hm]
        rfl
    · rw [hrow]
      by_cases hm : s.schedule.mode = .safe
      · rw [enterSafe_safe (s := u) hm]
        exact latchAll_latched _ _ _ (by simp)
      · exact enterSafe_latched (s := u) hm _ _
    · rw [hrow]
      exact safeAnnounced_of (enterSafe_announced (s := u) hm _ safeOnly_safe) rfl rfl rfl rfl rfl rfl rfl rfl
    · rw [hrow, enterSafe_safe (s := u) hm]
      simp [hu]
    · rw [hbus, setSafeSlot_slots hc]
    · rw [hbus, Bus.setSafeSlot, hc]
      rfl
  · set o : SafeOrigin := { station := f.station, cause := f.payload.headD 0 } with ho
    have hrow : takeRun .safe ownSafeFrame run s = enterSafe o [] (endRun s) := takeRun_of_hears h ownSafeFrame
    refine ⟨enterSafe o [] (endRun s), congrArg Host.Outcome.next hrow, by simp [endRun], fun hm => ?_, fun hm => ?_⟩
    · refine ⟨?_, enterSafe_latched (s := endRun s) hm _ _, ?_, by simp [onlyChanges_iff, endRun]⟩
      · rw [enterSafe_schedule (s := endRun s) hm]
        rfl
      · exact safeAnnounced_of (enterSafe_announced (s := endRun s) hm _ (fun _ h => absurd h List.not_mem_nil)) rfl rfl rfl rfl
          rfl rfl rfl rfl
    · rw [enterSafe_safe (s := endRun s) hm, latchAll_nil]
      exact endRun_onlyChanges s

end Sys2Proof.Machine
end

section
/-! ABORT and SKIP at a receiver and at their origin (R104, R131, R132), and the table of positions. -/

namespace Sys2Proof.Machine

/-! ## A directive applied, at a receiver or at its origin -/

/-- What a directive whose checks have passed does: it is applied to the state but for the bus controller, and what follows
changes the bus controller and the port alone. -/
structure Taken (A : State → State) (s u t : State) : Prop where
  source : OnlyChanges [.bus] s u
  target : OnlyChanges [.bus, .port] (A u) t

section
variable {k : DirectiveKind} {charge code : Word16} {s : State}

theorem taken_received {run : List LineByte} {phase step : Byte} (h : s.HearsDirective run k charge code phase step)
    (hk : k ≠ .start) (hskip : k = .skip → phase.toNat ≤ 7) (hcharge : k = .resetSafe → charge ≠ 0)
    (hruns : s.RunsCharge charge code) :
    exec (receivedRow run k) s = .next (applyDirective k (skipTarget phase step) (endRun s)) := by
  rw [exec_received h hskip, judgeDirective_of_runs (s := endRun s) hk hcharge hruns]

theorem taken_endRun (A : State → State) (s : State) : Taken A s (endRun s) (A (endRun s)) :=
  ⟨endRun_onlyChanges s, (onlyChanges_iff _ _ _).2 (by simp)⟩

theorem taken_originated (A : State → State) (k : DirectiveKind) (charge code : Word16) (phase step : Byte) (s : State) :
    Taken A s s (originated k charge code phase step (A s)) :=
  ⟨(onlyChanges_iff _ _ _).2 (by simp), originated_onlyChanges k charge code phase step (A s)⟩

theorem applyAtOrigin_eq (hk : k ≠ .start) (charge code : Nat) (p : Option Position) (s : State) :
    applyAtOrigin k charge code p s = applyDirective k p s := by
  cases k with
  | start => exact absurd rfl hk
  | _ => rfl

end

theorem Taken.frame {A : State → State} {s u t : State} (h : Taken A s u t) {blocks : List Block}
    (hA : OnlyChanges blocks u (A u)) : OnlyChanges (.bus :: .port :: blocks) s t := by
  intro b hb
  simp only [List.mem_cons, not_or] at hb
  obtain ⟨hbus, hport, hblocks⟩ := hb
  have h1 := h.source b (by simp [hbus])
  have h2 := hA b hblocks
  have h3 := h.target b (by simp [hbus, hport])
  cases b <;> exact h3.trans (h2.trans h1)

/-! ## ABORT (R104, R132, R156) -/

theorem aborted_climate (s : State) :
    (aborted s).climate =
      { targetDry := none, targetDep := none, spActive := none, activeDep := none
        regime := if s.schedule.mode = .safe then .safe else .off
        integral := 0, heat := 0, spray := 0
        vent := if s.straps.role = .zone ∧ s.schedule.mode = .safe then 1000 else 0
        settleTimer := s.climate.settleTimer, deviation := 0 } := by
  unfold aborted
  dsimp only
  rw [climateAbort_eq]
  by_cases hm : s.schedule.mode = .safe
  · refine (judgeRegime_of_still (g := .safe) ?_ (by decide)).trans ?_
    · simp [abortSchedule, hm, tableRegime]
    · simp only [hm, if_true, and_true]
      cases hr : s.straps.role <;> simp [hr, tableVent, State.currentRecord]
  · refine (judgeRegime_of_still (g := .off) ?_ (by decide)).trans ?_
    · simp [abortSchedule, hm, tableRegime]
    · simp only [hm, if_false, and_false]
      cases hr : s.straps.role <;> simp [hr, tableVent]

/-- What an ABORT does to every block (R104, R132, R156, R159, R170). -/
structure AbortDone (s t : State) : Prop where
  schedule : t.schedule =
    { s.schedule with
      position := .idle, mode := if s.schedule.mode = .safe then .safe else .run, stepTimer := 0
      overtime := 0, conditionTimer := 0, gatherTimer := 0, gatherArmed := false, minute := 0 }
  store : t.store = { s.store with current := none }
  climate : t.climate =
    { targetDry := none, targetDep := none, spActive := none, activeDep := none
      regime := if s.schedule.mode = .safe then .safe else .off
      integral := 0, heat := 0, spray := 0
      vent := if s.straps.role = .zone ∧ s.schedule.mode = .safe then 1000 else 0
      settleTimer := s.climate.settleTimer, deviation := 0 }
  snapshot : t.trace.snapshotTimer = 0
  last : (t.trace.records.getLast?.map fun x => (x.kind, x.position, x.minute, x.mode)) =
    some (.abort, s.schedule.position, s.schedule.minute, t.schedule.mode)

theorem writeRecord_snapshot (r : TraceRecord) (s : State) :
    (writeRecord r s).trace.snapshotTimer = s.trace.snapshotTimer := by
  unfold writeRecord
  split_ifs <;> rfl

theorem abortCharge_done (s : State) : AbortDone s (abortCharge s) := by
  have hschedule : (abortCharge s).schedule = abortSchedule s.schedule := by rw [abortCharge_eq]; simp
  refine ⟨hschedule, by rw [abortCharge_eq]; simp, by rw [abortCharge_eq, ← aborted_climate]; simp, ?_, ?_⟩
  · rw [abortCharge_eq, writeRecord_snapshot]
    simp [aborted]
  · rw [hschedule, abortCharge_eq, writeRecord_getLast]
    simp [State.traceRecord]

theorem emptyOffer_same (b : Bus) (r : Rank) :
    (b.emptyOffer r).clash = b.clash ∧ (b.emptyOffer r).slots.directive = b.slots.directive := by
  unfold Bus.emptyOffer
  split
  · split_ifs <;> exact ⟨rfl, rfl⟩
  · exact ⟨rfl, rfl⟩

/-- An ABORT taken at a receiver or at its origin does what an ABORT does. -/
theorem AbortDone.taken {s u t : State} (h : Taken abortCharge s u t) : AbortDone s t := by
  obtain ⟨hschedule, hstore, hclimate, hsnapshot, hlast⟩ := abortCharge_done u
  have huschedule : u.schedule = s.schedule := h.source .schedule (by simp)
  have hustraps : u.straps = s.straps := h.source .straps (by simp)
  have hustore : u.store = s.store := h.source .store (by simp)
  have huclimate : u.climate = s.climate := h.source .climate (by simp)
  have htschedule : t.schedule = (abortCharge u).schedule := h.target .schedule (by simp)
  have httrace : t.trace = (abortCharge u).trace := h.target .trace (by simp)
  have htstore : t.store = (abortCharge u).store := h.target .store (by simp)
  have htclimate : t.climate = (abortCharge u).climate := h.target .climate (by simp)
  rw [← htschedule, huschedule] at hschedule
  rw [← httrace, ← htschedule, huschedule] at hlast
  rw [← htclimate, huschedule, hustraps, huclimate] at hclimate
  exact ⟨hschedule, by rw [htstore, hstore, hustore], hclimate, by rw [httrace, hsnapshot], hlast⟩

theorem abort_frame {s u t : State} (h : Taken abortCharge s u t) :
    OnlyChanges [.bus, .store, .schedule, .climate, .attention, .trace, .port] s t :=
  (h.frame (blocks := [.bus, .store, .schedule, .climate, .attention, .trace]) ((onlyChanges_iff _ _ _).2 (by simp))).mono
    (by simp)

/-- Settles O50: the ABORT row at a receiver, and the request's at the origin after which the slot is set. -/
theorem abortEndsCharge : Obligations.AbortEndsCharge := by
  intro s charge code hruns c hc
  obtain ⟨run, phase, step, rfl, hears⟩ | ⟨rfl, hcan⟩ := hc
  · have hexec : exec (.abortDirectiveReceived run) s = .next (abortCharge (endRun s)) :=
      taken_received hears (by decide) nofun nofun hruns
    have htaken := taken_endRun abortCharge s
    obtain ⟨hschedule, hstore, hclimate, hsnapshot, hlast⟩ := AbortDone.taken htaken
    refine ⟨_, hexec, hschedule, hstore, ?_, hclimate, hsnapshot, hlast, nofun, abort_frame htaken⟩
    rw [abortCharge_bus, emptyOffer_slots]
    rfl
  · have hexec : exec (.directiveAbort charge code) s = .next (originated .abort charge code 0 0 (abortCharge s)) :=
      exec_origin_applied (k := .abort) (phase := 0) (step := 0) hcan nofun (rankRefusal_of_runs hruns)
    have htaken := taken_originated abortCharge .abort charge code 0 0 s
    obtain ⟨hschedule, hstore, hclimate, hsnapshot, hlast⟩ := AbortDone.taken htaken
    have hsame := emptyOffer_same s.bus .current
    refine ⟨_, hexec, hschedule, hstore, ?_, hclimate, hsnapshot, hlast, fun _ => ?_, abort_frame htaken⟩
    · rw [originated, State.setPort_bus, State.setBus_bus, setDirectiveSlot_offer, abortCharge_bus]
      exact congrArg Slots.offer (emptyOffer_slots _ _)
    · refine originated_spec charge code ?_ ?_ (by simp) fun _ => ⟨rfl, rfl⟩
      · rw [abortCharge_bus, hsame.1]
      · rw [abortCharge_bus, hsame.2]
        exact hcan.2

/-! ## SKIP (R131) -/

theorem positionTable : PositionTable :=
  ⟨fun _ => ⟨rfl, rfl, rfl, fun _ => rfl, rfl, rfl, rfl, rfl⟩, fun _ => ⟨rfl, rfl, fun _ => rfl⟩⟩

theorem isBeyond_iff {s : State} {r : ChargeRecord} {a : Nat} (ha : positionRank r.stepCount s.schedule.position = some a)
    (p : Position) : s.isBeyond r p = true ↔ ∃ b, positionRank r.stepCount p = some b ∧ a < b := by
  unfold State.isBeyond
  rw [ha]
  cases positionRank r.stepCount p <;> simp

theorem applySkip_eq {s : State} {r : ChargeRecord} (hr : s.currentRecord = some r) {p : Position}
    (hm : s.schedule.mode ≠ .safe) (hp : s.isBeyond r p = true) : applySkip (some p) s = enter p .directed s := by
  simp only [applySkip, hr, hm, hp, ne_eq, not_false_eq_true, and_self, if_true]

/-- A SKIP into SAFE, or to a target that is not beyond, is ignored. -/
theorem applySkip_of_refused {s : State} {r : ChargeRecord} (hr : s.currentRecord = some r) {target : Option Position}
    (h : s.schedule.mode = .safe ∨ ∀ p, target = some p → s.isBeyond r p = false) : applySkip target s = s := by
  unfold applySkip
  rw [hr]
  cases target with
  | none => rfl
  | some p =>
    refine if_neg fun ⟨hm, hp⟩ => h.elim hm fun hb => ?_
    rw [hb p rfl] at hp
    cases hp

theorem skipRefused_iff {s : State} {r : ChargeRecord} (hr : s.currentRecord = some r) (target : Option Position) :
    s.skipRefused target = true ↔ s.schedule.mode = .safe ∨ ∀ p, target = some p → s.isBeyond r p = false := by
  unfold State.skipRefused
  rw [hr]
  cases target <;> simp

theorem originRefusal_skip {s : State} {charge code : Word16} (hruns : s.RunsCharge charge code) (target : Option Position) :
    originRefusal .skip charge.toNat code.toNat target s =
      if s.skipRefused target then some (.stateRefused, []) else none := by
  rw [originRefusal, rankRefusal_of_runs hruns]
  rfl

theorem skipTarget_eq_some_iff (phase step : Byte) (p : Position) :
    skipTarget phase step = some p ↔ phase.toNat = phaseCode p ∧ step.toNat = stepCode p :=
  positionOf_eq_some_iff _ _ _

theorem phaseCode_le_seven (p : Position) : phaseCode p ≤ 7 := by cases p <;> simp [phaseCode]

theorem rank_eq_zero {steps : Nat} {p : Position} (h : positionRank steps p = some 0) : p = .idle := by
  cases p <;> simp_all [positionRank]

theorem applySkip_bus (target : Option Position) (s : State) : (applySkip target s).bus = s.bus := by
  simp

theorem skip_frame {p : Position} {k : Cause} {s u t : State} (h : Taken (enter p k) s u t) :
    OnlyChanges [.bus, .schedule, .climate, .attention, .trace, .port] s t :=
  (h.frame (blocks := [.schedule, .climate, .attention, .trace]) ((onlyChanges_iff _ _ _).2 (by simp))).mono (by simp)

/-- Settles O49: a target beyond is entered at a receiver and at the origin; the others are ignored or refused. -/
theorem skipEntersTargetStep : Obligations.SkipEntersTargetStep := by
  refine ⟨positionTable, fun s charge code phase step r a hruns hr ha => ⟨fun p b c hm hidle hphase hstep hb hab hc => ?_,
    fun hnot => ⟨fun run h => ?_, fun hcan h7 => ?_⟩, fun hcan h7 => ?_, fun hcan h7 hm => ?_⟩⟩
  · have htarget : skipTarget phase step = some p := (skipTarget_eq_some_iff _ _ _).2 ⟨hphase, hstep⟩
    have h7 : phase.toNat ≤ 7 := hphase ▸ phaseCode_le_seven p
    have hbeyond : s.isBeyond r p = true := (isBeyond_iff ha p).2 ⟨b, hb, hab⟩
    have hgather : p ≠ .gather := by
      rintro rfl
      cases hb
      obtain rfl : a = 0 := by omega
      exact hidle (rank_eq_zero ha)
    obtain ⟨run, rfl, h⟩ | ⟨rfl, hcan⟩ := hc
    · have hexec : exec (.skipDirectiveReceived run) s = .next (enter p .directed (endRun s)) := by
        refine (taken_received h (by decide) (fun _ => h7) nofun hruns).trans (congrArg Host.Outcome.next ?_)
        rw [applyDirective, htarget]
        exact applySkip_eq (s := endRun s) hr hm hbeyond
      have htaken := taken_endRun (enter p .directed) s
      refine ⟨_, hexec, (entersPath_enter (s := endRun s) hr hm hgather .directed).of_bus htaken.source htaken.target, nofun,
        fun _ => ⟨by simp [endRun], by simp [endRun]⟩, skip_frame htaken⟩
    · have hexec : exec (.directiveSkip charge code phase step) s
          = .next (originated .skip charge code phase step (enter p .directed s)) := by
        refine (exec_origin_applied (k := .skip) hcan (fun _ => h7) ?_).trans ?_
        · rw [if_pos rfl, if_pos rfl, originRefusal_skip hruns, htarget, if_neg]
          rw [skipRefused_iff hr]
          rintro (hs | hs)
          · exact hm hs
          · rw [hs p rfl] at hbeyond
            cases hbeyond
        · rw [if_pos rfl, if_pos rfl, applyAtOrigin_eq (by decide), applyDirective, htarget, applySkip_eq hr hm hbeyond]
      have htaken := taken_originated (enter p .directed) .skip charge code phase step s
      refine ⟨_, hexec, (entersPath_enter hr hm hgather .directed).of_bus htaken.source htaken.target, fun _ => ?_,
        fun hne => absurd rfl hne, skip_frame htaken⟩
      exact originated_spec charge code (by simp) (by simpa using hcan.2) (by simp) fun hne => absurd rfl hne
  · have hrefused : ∀ p, skipTarget phase step = some p → s.isBeyond r p = false := fun p hp => by
      obtain ⟨hphase, hstep⟩ := (skipTarget_eq_some_iff _ _ _).1 hp
      rw [← Bool.not_eq_true, isBeyond_iff ha]
      rintro ⟨b, hb, hab⟩
      have := hnot p b hphase hstep hb
      omega
    by_cases h7 : phase.toNat ≤ 7
    · refine (taken_received (k := .skip) h (by decide) (fun _ => h7) nofun hruns).trans (congrArg Host.Outcome.next ?_)
      exact applySkip_of_refused (s := endRun s) hr (.inr hrefused)
    · obtain ⟨f, hf, -, hpayload⟩ := h
      obtain ⟨-, -, -, hphase, -⟩ := directivePayload_fields .skip code phase step f.payload hpayload
      refine exec_received_malformed (k := .skip) hf ?_
      have hphase8 : u8 f.payload 3 = phase.toNat := by rw [u8, hphase]
      simp [directiveForm, hphase8, h7]
  · refine exec_origin_state (k := .skip) hcan (fun _ => h7) ?_
    rw [if_pos rfl, if_pos rfl, originRefusal_skip hruns, if_pos]
    rw [skipRefused_iff hr]
    refine .inr fun p hp => ?_
    obtain ⟨hphase, hstep⟩ := (skipTarget_eq_some_iff _ _ _).1 hp
    rw [← Bool.not_eq_true, isBeyond_iff ha]
    rintro ⟨b, hb, hab⟩
    have := hnot p b hphase hstep hb
    omega
  · obtain ⟨⟨hsending, hbusy⟩, hslot⟩ := hcan
    refine congrArg Host.Outcome.next (request_of_answer hsending hbusy 0x03 ?_)
    rw [originate, if_neg (by simp [hslot]), if_pos ⟨rfl, h7⟩]
  · refine exec_origin_state (k := .skip) hcan (fun _ => h7) ?_
    rw [if_pos rfl, if_pos rfl, originRefusal_skip hruns, if_pos]
    exact (skipRefused_iff hr _).2 (.inl hm)

end Sys2Proof.Machine
end

section
/-! HOLD, RESUME and RESET SAFE (R124, R128, R130, R133, R138): the change of mode, the exits of RESUME, and the refusals. -/

namespace Sys2Proof.Machine

/-! ## A change of mode by HOLD or RESET SAFE (R130, R138) -/

/-- A HOLD in RUN, or a RESET SAFE in SAFE with the input released, that passes its checks. -/
def HeldBy (s : State) (k : DirectiveKind) (charge code : Word16) : Prop :=
  (k = .hold ∧ s.RunsCharge charge code ∧ s.schedule.mode = .run)
    ∨ (k = .resetSafe ∧ (charge ≠ 0 ∧ s.RunsCharge charge code ∨ charge = 0 ∧ s.schedule.position = .idle)
      ∧ s.schedule.mode = .safe ∧ s.pins.emergency = false)

section
variable {k : DirectiveKind} {charge code : Word16} {s : State}

theorem applyDirective_held (h : HeldBy s k charge code) (p : Option Position) :
    applyDirective k p s = changeMode .held [] s := by
  obtain ⟨rfl, -, hm⟩ | ⟨rfl, -, hm, he⟩ := h
  · exact if_pos hm
  · exact if_pos ⟨hm, he⟩

theorem judgeDirective_held (h : HeldBy s k charge code) (p : Option Position) :
    judgeDirective k charge.toNat code.toNat p s = changeMode .held [] s := by
  rw [← applyDirective_held h p]
  obtain ⟨rfl, hruns, -⟩ | ⟨rfl, ⟨hcharge, hruns⟩ | ⟨rfl, hidle⟩, -⟩ := h
  · exact judgeDirective_of_runs (by decide) nofun hruns
  · exact judgeDirective_of_runs (by decide) (fun _ => hcharge) hruns
  · rw [judgeDirective_reset_zero, if_pos hidle]

theorem originRefusal_held (h : HeldBy s k charge code) (p : Option Position) :
    originRefusal k charge.toNat code.toNat p s = none := by
  obtain ⟨rfl, hruns, -⟩ | ⟨rfl, ⟨hcharge, hruns⟩ | ⟨rfl, hidle⟩, -, he⟩ := h
  · exact rankRefusal_of_runs hruns
  · have h0 : ¬charge.toNat = 0 := fun h0 => hcharge ((toNat_eq_zero_iff charge).1 h0)
    simp [originRefusal, h0, rankRefusal_of_runs hruns, he]
  · simp [originRefusal, hidle, he]

end

theorem climateIn_congr {s u : State} (hc : u.climate = s.climate) (hp : u.schedule = s.schedule)
    (hs : u.straps = s.straps) (hst : u.store = s.store) (m : Mode) : u.climateIn m = s.climateIn m := by
  unfold State.climateIn State.currentRecord
  rw [hc, hp, hs, hst]

/-- What a change of mode without conditions leaves (R130, R146, R156). -/
structure ModeChanged (m : Mode) (s t : State) : Prop where
  schedule : t.schedule = { s.schedule with mode := m }
  writes : s.RingBounded → s.Writes t [{ s.traceRecord .mode with mode := m }]
  climate : t.climate = s.climateIn m

theorem changeMode_changed (m : Mode) (s : State) : ModeChanged m s (changeMode m [] s) := by
  refine ⟨changeMode_schedule m [] s, fun hb => ?_, changeMode_climate m [] s⟩
  simpa using changeMode_writes m (cs := []) (by simp) hb

theorem ModeChanged.taken {m : Mode} {s u t : State} (h : Taken (changeMode m []) s u t) : ModeChanged m s t := by
  obtain ⟨hschedule, hwrites, hclimate⟩ := changeMode_changed m u
  have huschedule : u.schedule = s.schedule := h.source .schedule (by simp)
  have hustraps : u.straps = s.straps := h.source .straps (by simp)
  have hustore : u.store = s.store := h.source .store (by simp)
  have huclimate : u.climate = s.climate := h.source .climate (by simp)
  have hutrace : u.trace = s.trace := h.source .trace (by simp)
  have husensors : u.sensors = s.sensors := h.source .sensors (by simp)
  have hupicture : u.picture = s.picture := h.source .picture (by simp)
  have htschedule : t.schedule = (changeMode m [] u).schedule := h.target .schedule (by simp)
  have httrace : t.trace = (changeMode m [] u).trace := h.target .trace (by simp)
  have htclimate : t.climate = (changeMode m [] u).climate := h.target .climate (by simp)
  have hrecord : u.traceRecord .mode = s.traceRecord .mode :=
    traceRecord_eq (shown_of_eq (by rw [huschedule]) (by rw [huschedule]) hupicture husensors hustraps) (by rw [huschedule]) _
  refine ⟨by rw [htschedule, hschedule, huschedule], fun hb => ?_, ?_⟩
  · have hbu : u.RingBounded := by unfold State.RingBounded at *; rwa [hutrace]
    have hw := ((hwrites hbu).of_source (s := s) (by rw [hutrace])).of_target (t' := t) (by rw [httrace])
    rwa [hrecord] at hw
  · rw [htclimate, hclimate, climateIn_congr huclimate huschedule hustraps hustore]

theorem changeMode_frame {m : Mode} {s u t : State} (h : Taken (changeMode m []) s u t) :
    OnlyChanges [.bus, .schedule, .climate, .attention, .trace, .port] s t :=
  (h.frame (blocks := [.schedule, .climate, .attention, .trace]) ((onlyChanges_iff _ _ _).2 (by simp))).mono (by simp)

/-! ## The exits of RESUME (R124) -/

/-- The entries that a change to RUN tests for at once (R124). -/
def resumeExits (s : State) (r : ChargeRecord) : List (Position × Cause) :=
  if s.schedule.position = .condition then
    (if s.schedule.conditionTimer = 0 then (.cool, .own) :: s.exits r .cool else [])
  else s.exits r s.schedule.position

theorem exitsAtOnce_eq {v : State} {r : RankedRecord} {path : List (Position × Cause)} (hr : v.store.current = some r)
    (hm : v.schedule.mode = .run)
    (hpath : (v.schedule.position = .gather ∧ v.schedule.gatherArmed = true ∧ v.RosterMatched r 0)
          ∧ path = (.warmup, .own) :: v.exits r.record .warmup
        ∨ ¬(v.schedule.position = .gather ∧ v.schedule.gatherArmed = true ∧ v.RosterMatched r 0)
          ∧ path = resumeExits v r.record) :
    exitsAtOnce v = enterAll path v ∧ v.SteadyFrom path := by
  have hrecord : v.currentRecord = some r.record := by simp [State.currentRecord, hr]
  obtain ⟨⟨hp, harmed, hmatched⟩, rfl⟩ | ⟨hnot, rfl⟩ := hpath
  · refine ⟨?_, steadyPath_exits v v r.record .warmup⟩
    unfold exitsAtOnce
    rw [hp]
    exact (testGather_eq hrecord).trans (if_pos ⟨hm, hp, harmed, (gatherMet_iff hr).2 hmatched⟩)
  · have hnone : v.schedule.position ≠ .condition → v.exits r.record v.schedule.position = [] →
        exitsAtOnce v = v → exitsAtOnce v = enterAll (resumeExits v r.record) v ∧ v.SteadyFrom (resumeExits v r.record) :=
      fun hc he hv => by
        rw [resumeExits, if_neg hc, he]
        exact ⟨hv, trivial⟩
    unfold exitsAtOnce at hnone ⊢
    cases hp : v.schedule.position with
    | gather =>
      rw [hp] at hnone
      refine hnone (by decide) (exits_of_still v r.record (by decide)) ?_
      refine (testGather_eq hrecord).trans (if_neg fun ⟨_, _, harmed, hmet⟩ => hnot ⟨hp, harmed, (gatherMet_iff hr).1 hmet⟩)
    | warmup =>
      rw [resumeExits, hp, if_neg (by decide)]
      refine ⟨testWarmup_eq hrecord hp, ?_⟩
      obtain he | ⟨he, -⟩ := exits_warmup_cases v r.record
      · rw [he]
        exact trivial
      · rw [he]
        exact trivial
    | condition =>
      rw [resumeExits, hp, if_pos rfl]
      refine ⟨(testCondition_eq hrecord hp).trans ?_, ?_⟩
      · by_cases ht : v.schedule.conditionTimer = 0
        · rw [if_pos ⟨hm, ht⟩, if_pos ht]
        · rw [if_neg fun h => ht h.2, if_neg ht]
          rfl
      · split_ifs
        · exact steadyPath_exits v v r.record .cool
        · exact trivial
    | cool =>
      rw [resumeExits, hp, if_neg (by decide)]
      refine ⟨testCool_eq hrecord hp, ?_⟩
      unfold State.exits State.onward
      dsimp only
      split_ifs
      · cases v.dryBulb with
        | none => exact trivial
        | some db => dsimp only; split_ifs <;> exact trivial
    | _ =>
      rw [hp] at hnone
      exact hnone (by simp) (exits_of_still v r.record (by simp)) rfl

theorem enterPosition_regime (p : Position) (k : Cause) (cs : List Condition) (s : State) :
    (enterPosition p k cs s).climate.regime = tableRegime s.schedule.mode p := by
  simp only [enterPosition, latchAll_keeps, writeTrace_keeps, climateEntry_eq]
  rw [judgeRegime_climate]
  split_ifs with h
  · exact h.symm
  · rfl

/-- A run of entries leaves the regime of TABLE 9-3. -/
theorem enterAll_regime (path : List (Position × Cause)) {s : State}
    (h : s.climate.regime = tableRegime s.schedule.mode s.schedule.position) :
    (enterAll path s).climate.regime = tableRegime s.schedule.mode (enterAll path s).schedule.position := by
  induction path generalizing s with
  | nil => exact h
  | cons x rest ih =>
    obtain ⟨p, k⟩ := x
    have hmode : (enterPosition p k [] s).schedule.mode = s.schedule.mode := mode_of_shown (enterPosition_shown p k [] s)
    refine (ih (s := enterPosition p k [] s) ?_).trans (by rw [hmode]; rfl)
    rw [enterPosition_regime, hmode, position_enterPosition]

/-- RESUME in HELD (R124, R130). -/
def resumed (s : State) : State := exitsAtOnce (changeMode .run [] s)

theorem resumed_keeps (s : State) : (resumed s).bus = s.bus ∧ (resumed s).port = s.port := by
  simp [resumed]

theorem resume_frame {s u t : State} (h : Taken resumed s u t) :
    OnlyChanges [.bus, .schedule, .climate, .attention, .trace, .port] s t :=
  (h.frame (blocks := [.schedule, .climate, .attention, .trace])
    ((onlyChanges_iff _ _ _).2 (by simp [resumed]))).mono (by simp)

theorem onlyChanges_currentRecord {s u : State} (h : OnlyChanges [.bus] s u) : u.currentRecord = s.currentRecord := by
  have hstore : u.store = s.store := h .store (by simp)
  rw [State.currentRecord, hstore]
  rfl

/-- A RESUME taken: the exits that are met, on the MODE record and the climate of RUN (R124, R146, R156). -/
theorem resume_taken {s u t running : State} {r : RankedRecord} {path : List Position} (h : Taken resumed s u t)
    (hr : s.store.current = some r)
    (hrunning : running = { s with schedule := { s.schedule with mode := .run }, climate := s.climateIn .run })
    (hpath : s.schedule.position = .gather ∧ s.schedule.gatherArmed = true ∧ s.RosterMatched r 0
            ∧ path = .warmup :: running.onward r.record .warmup
        ∨ ¬(s.schedule.position = .gather ∧ s.schedule.gatherArmed = true ∧ s.RosterMatched r 0)
            ∧ path =
              (if s.schedule.position = .condition then
                (if s.schedule.conditionTimer = 0 then .cool :: running.onward r.record .cool else [])
              else running.onward r.record s.schedule.position)) :
    EntersPath running t r.record [{ t.traceRecord .mode with position := s.schedule.position }] (path.map (·, .own))
      ∧ (path = [] → t.climate = s.climateIn .run) ∧ t.climate.regime = tableRegime .run t.schedule.position := by
  obtain ⟨hschedule, hwrites, hclimate⟩ := changeMode_changed .run u
  have huschedule : u.schedule = s.schedule := h.source .schedule (by simp)
  have hustraps : u.straps = s.straps := h.source .straps (by simp)
  have hustore : u.store = s.store := h.source .store (by simp)
  have huclimate : u.climate = s.climate := h.source .climate (by simp)
  have hutrace : u.trace = s.trace := h.source .trace (by simp)
  have hupeers : u.peers = s.peers := h.source .peers (by simp)
  have husensors : u.sensors = s.sensors := h.source .sensors (by simp)
  have hupicture : u.picture = s.picture := h.source .picture (by simp)
  have huattention : u.attention = s.attention := h.source .attention (by simp)
  set v := changeMode .run [] u with hv
  have hvschedule : v.schedule = { s.schedule with mode := .run } := by rw [hschedule, huschedule]
  have hvclimate : v.climate = s.climateIn .run := by
    rw [hclimate, climateIn_congr huclimate huschedule hustraps hustore]
  have hvstore : v.store.current = some r := by rw [← hr, ← hustore, hv]; simp
  have hvsensors : v.sensors = s.sensors := by rw [← husensors, hv]; simp
  have hvstraps : v.straps = s.straps := by rw [← hustraps, hv]; simp
  have hvpeers : v.peers = s.peers := by rw [← hupeers, hv]; simp
  have hvpicture : v.picture = s.picture := by rw [← hupicture, hv]; simp
  have hroster : v.RosterMatched r 0 ↔ s.RosterMatched r 0 := by
    unfold State.RosterMatched
    rw [hvstraps, hvpeers]
  have honward (p : Position) : v.exits r.record p = (running.onward r.record p).map (·, .own) := by
    have hmode : v.schedule.mode = running.schedule.mode := by rw [hvschedule, hrunning]
    have hdry : v.dryBulb = running.dryBulb := dryBulb_of_sensors (by rw [hvsensors, hrunning])
    rw [State.exits, onward_of_same hmode hdry]
  obtain ⟨hexits, hsteady⟩ := exitsAtOnce_eq (v := v) (path := path.map (·, .own)) hvstore (by rw [hvschedule]) (by
    have hposition : v.schedule.position = s.schedule.position := by rw [hvschedule]
    have harmed : v.schedule.gatherArmed = s.schedule.gatherArmed := by rw [hvschedule]
    have htimer : v.schedule.conditionTimer = s.schedule.conditionTimer := by rw [hvschedule]
    rw [hroster, hposition, harmed, resumeExits, hposition, htimer, honward, honward, honward]
    obtain ⟨hp, ha, hm, rfl⟩ | ⟨hnot, rfl⟩ := hpath
    · exact .inl ⟨⟨hp, ha, hm⟩, rfl⟩
    · refine .inr ⟨hnot, ?_⟩
      split_ifs <;> rfl)
  have hA : resumed u = enterAll (path.map (·, .own)) v := hexits
  have htschedule : t.schedule = (enterAll (path.map (·, .own)) v).schedule := hA ▸ h.target .schedule (by simp)
  have httrace : t.trace = (enterAll (path.map (·, .own)) v).trace := hA ▸ h.target .trace (by simp)
  have htclimate : t.climate = (enterAll (path.map (·, .own)) v).climate := hA ▸ h.target .climate (by simp)
  have htattention : t.attention = (enterAll (path.map (·, .own)) v).attention := hA ▸ h.target .attention (by simp)
  have htpicture : t.picture = (enterAll (path.map (·, .own)) v).picture := hA ▸ h.target .picture (by simp)
  have htsensors : t.sensors = (enterAll (path.map (·, .own)) v).sensors := hA ▸ h.target .sensors (by simp)
  have htstraps : t.straps = (enterAll (path.map (·, .own)) v).straps := hA ▸ h.target .straps (by simp)
  have htshown : t.shown = (enterAll (path.map (·, .own)) v).shown :=
    shown_of_eq (by rw [htschedule]) (by rw [htschedule]) htpicture htsensors htstraps
  have hregime : v.climate.regime = tableRegime v.schedule.mode v.schedule.position := by
    rw [hv, changeMode_regime, regimeOf_eq, changeMode_schedule]
  refine ⟨?_, fun hnil => ?_, ?_⟩
  · have hrecord : { t.traceRecord .mode with position := s.schedule.position } = { u.traceRecord .mode with mode := .run } := by
      rw [traceRecord_of_shown (htshown.trans (enterAll_shown _ v))]
      have hvu : v.traceRecord .mode = { u.traceRecord .mode with mode := .run } := by
        simp [State.traceRecord, State.dryBulb, State.wetBulb, State.pictureBasis, hv]
      rw [hvu]
      simp [State.traceRecord, huschedule]
    rw [hrecord]
    refine (entersPath_onto (s := running) (by simp [State.currentRecord, hvstore]) (fun _ => by rw [hvschedule]; exact nofun) hsteady
      (fun hb => ?_) (by rw [hvschedule, hrunning]) (by rw [hvclimate, hrunning])
      (dryBulb_of_sensors (by rw [hvsensors, hrunning])) (by rw [hvstraps, hrunning]) fun c hc => ?_).of_target
      htschedule htclimate (by rw [httrace]) htattention htshown
    · have hbu : u.RingBounded := by unfold State.RingBounded at *; rw [hutrace]; rw [hrunning] at hb; exact hb
      exact (hwrites hbu).of_source (by rw [hutrace, hrunning])
    · have ho : c ≠ .traceOverrun := by rintro rfl; simp at hc
      rw [hv, changeMode_stamp _ _ _ ho, huattention, hrunning]
      simp
  · rw [htclimate, hnil]
    exact hvclimate
  · rw [htclimate, htschedule, enterAll_regime _ hregime, hvschedule]

/-! ## Directives that would change nothing, and refusals (R128, R133) -/

/-- A directive that would change nothing: the mode is not the one it leaves (R130, R131, R138). -/
def Changeless (s : State) (k : DirectiveKind) : Prop :=
  k = .hold ∧ s.schedule.mode ≠ .run ∨ k = .resume ∧ s.schedule.mode ≠ .held ∨ k = .skip ∧ s.schedule.mode = .safe
    ∨ k = .resetSafe ∧ (s.schedule.mode ≠ .safe ∨ s.pins.emergency = true)

theorem applyDirective_changeless {s : State} {k : DirectiveKind} (h : Changeless s k) (p : Option Position) :
    applyDirective k p s = s := by
  obtain ⟨rfl, hm⟩ | ⟨rfl, hm⟩ | ⟨rfl, hm⟩ | ⟨rfl, hm⟩ := h
  · exact if_neg hm
  · exact if_neg hm
  · cases hr : s.currentRecord with
    | none => cases p <;> simp [applyDirective, applySkip, hr]
    | some r => exact applySkip_of_refused hr (.inl hm)
  · refine if_neg fun ⟨hsafe, he⟩ => hm.elim (fun h => h hsafe) fun h => ?_
    rw [h] at he
    cases he

section
variable {k : DirectiveKind} {charge code : Word16} {p : Option Position} {s : State}

theorem judgeDirective_changeless (hk : k ≠ .start) (h : Changeless s k)
    (hruns : s.RunsCharge charge code ∨ k = .resetSafe ∧ charge = 0) :
    judgeDirective k charge.toNat code.toNat p s = s := by
  by_cases hz : k = .resetSafe ∧ charge = 0
  · obtain ⟨rfl, rfl⟩ := hz
    rw [judgeDirective_reset_zero, applyDirective_changeless h, ite_self]
  · rw [judgeDirective_of_runs hk (fun hk h0 => hz ⟨hk, h0⟩) (hruns.resolve_right hz), applyDirective_changeless h]

/-- The origin check of a directive whose checks of the rank refuse it (TABLE 8-3). -/
theorem originRefusal_of_rank (hk : k ≠ .start) (hcharge : k = .resetSafe → charge ≠ 0) {x : Answer × List Condition}
    (h : rankRefusal charge.toNat code.toNat s = some x) : originRefusal k charge.toNat code.toNat p s = some x := by
  have h0 : k = .resetSafe → charge.toNat ≠ 0 := fun hk h0 => hcharge hk ((toNat_eq_zero_iff charge).1 h0)
  cases k with
  | start => exact absurd rfl hk
  | resetSafe => simp [originRefusal, h0 rfl, h]
  | _ => simp [originRefusal, h]

/-- A HOLD, RESUME or RESET SAFE that passes its origin checks and changes no mode (R133). -/
def PassesUnchanged (s : State) (k : DirectiveKind) (charge code : Word16) : Prop :=
  k = .hold ∧ s.RunsCharge charge code ∧ s.schedule.mode ≠ .run
    ∨ k = .resume ∧ s.RunsCharge charge code ∧ s.schedule.mode ≠ .held
    ∨ k = .resetSafe ∧ (charge ≠ 0 ∧ s.RunsCharge charge code ∨ charge = 0 ∧ s.schedule.position = .idle)
      ∧ s.schedule.mode ≠ .safe ∧ s.pins.emergency = false

theorem PassesUnchanged.changeless (h : PassesUnchanged s k charge code) : Changeless s k := by
  obtain ⟨hk, -, hm⟩ | ⟨hk, -, hm⟩ | ⟨hk, -, hm, -⟩ := h
  · exact .inl ⟨hk, hm⟩
  · exact .inr (.inl ⟨hk, hm⟩)
  · exact .inr (.inr (.inr ⟨hk, .inl hm⟩))

theorem PassesUnchanged.kind (h : PassesUnchanged s k charge code) : k ≠ .start ∧ k ≠ .skip := by
  obtain ⟨rfl, -⟩ | ⟨rfl, -⟩ | ⟨rfl, -⟩ := h <;> decide

theorem originRefusal_unchanged (h : PassesUnchanged s k charge code) :
    originRefusal k charge.toNat code.toNat p s = none := by
  obtain ⟨rfl, hruns, -⟩ | ⟨rfl, hruns, -⟩ | ⟨rfl, ⟨hcharge, hruns⟩ | ⟨rfl, hidle⟩, -, he⟩ := h
  · exact rankRefusal_of_runs hruns
  · exact rankRefusal_of_runs hruns
  · have h0 : ¬charge.toNat = 0 := fun h0 => hcharge ((toNat_eq_zero_iff charge).1 h0)
    simp [originRefusal, h0, rankRefusal_of_runs hruns, he]
  · simp [originRefusal, hidle, he]

end

theorem setDirectiveSlot_slots (b : Bus) (d : DirectiveSlot) :
    (b.setDirectiveSlot d).slots.safe = b.slots.safe ∧ (b.setDirectiveSlot d).slots.offer = b.slots.offer
      ∧ (b.setDirectiveSlot d).slots.report = b.slots.report ∧ (b.setDirectiveSlot d).attempt = b.attempt := by
  unfold Bus.setDirectiveSlot
  split_ifs
  · exact ⟨rfl, rfl, rfl, rfl⟩
  · exact ⟨rfl, rfl, rfl, rfl⟩

theorem directiveForm_false {k : DirectiveKind} {payload : List Byte}
    (h : payload.length ≠ 5 ∨ payload.head? ≠ some (BitVec.ofNat 8 k.code) ∨ k = .skip ∧ 7 < (payload.getD 3 0).toNat) :
    directiveForm k payload = false := by
  rw [← Bool.not_eq_true]
  simp only [directiveForm, Bool.and_eq_true, decide_eq_true_eq, beq_iff_eq, directiveOf_eq_some_iff, Bool.or_eq_true, bne_iff_ne]
  rintro ⟨⟨hlen, hkind⟩, hskip⟩
  obtain hl | hhead | ⟨hk, h7⟩ := h
  · exact hl hlen
  · obtain ⟨b, rest, rfl⟩ := List.exists_cons_of_length_eq_add_one hlen
    refine hhead (congrArg some (BitVec.eq_of_toNat_eq ?_))
    rw [BitVec.toNat_ofNat, ← hkind]
    exact (Nat.mod_eq_of_lt b.isLt).symm
  · have : u8 payload 3 ≤ 7 := hskip.resolve_left (not_not_intro hk)
    rw [u8] at this
    omega

theorem receivedRow_of_mem {k : DirectiveKind} {run : List LineByte} {c : Instr}
    (h : (k, c) ∈ [(DirectiveKind.hold, Instr.holdDirectiveReceived run), (.resetSafe, .resetSafeDirectiveReceived run)]) :
    c = receivedRow run k ∧ k ≠ .skip := by
  simp only [List.mem_cons, Prod.mk.injEq, List.not_mem_nil, or_false] at h
  obtain ⟨rfl, rfl⟩ | ⟨rfl, rfl⟩ := h <;> exact ⟨rfl, by decide⟩

theorem originRow_of_mem {k : DirectiveKind} {charge code : Word16} {c : Instr}
    (h : (k, c) ∈ [(DirectiveKind.hold, Instr.directiveHold charge code), (.resetSafe, .directiveResetSafe charge code)]) :
    c = originRow charge code 0 0 k ∧ k ≠ .start ∧ k ≠ .skip := by
  simp only [List.mem_cons, Prod.mk.injEq, List.not_mem_nil, or_false] at h
  obtain ⟨rfl, rfl⟩ | ⟨rfl, rfl⟩ := h <;> exact ⟨rfl, by decide, by decide⟩

/-- A directive without a target, applied and originated. -/
theorem exec_origin_untargeted {k : DirectiveKind} {charge code : Word16} {s : State} (h : s.CanOriginate)
    (hk : k ≠ .start ∧ k ≠ .skip) (phase step : Byte)
    (hrefusal : ∀ p, originRefusal k charge.toNat code.toNat p s = none) :
    exec (originRow charge code phase step k) s
      = .next (originated k charge code 0 0 (applyDirective k (skipTarget 0 0) s)) := by
  rw [exec_origin_applied h (fun hs => absurd hs hk.2) (hrefusal _), applyAtOrigin_eq hk.1, if_neg hk.2, if_neg hk.2]

/-- Settles O48: a directive applied changes the mode by `changeMode`, and RESUME then takes the exits that are met. -/
theorem modeDirectivesChangeMode : Obligations.ModeDirectivesChangeMode := by
  refine fun s charge code => ⟨fun k m hk => ?_, fun r c running path hr hruns hm hc hrunning hpath => ?_,
    fun k run phase step hstart hskip h => ⟨?_, fun hcharge hother => ?_, fun r hcharge hr hn hcode => ?_, fun hless hruns => ?_⟩,
    fun k run f hf hform => exec_received_malformed hf (directiveForm_false hform),
    fun k phase step hidle => ⟨fun hset => ?_, fun hstart hskip hslot => ?_, fun hslot hk => ?_⟩⟩
  · have hheld : HeldBy s k charge code ∧ m = .held := by
      obtain ⟨rfl, hruns, hmode, rfl⟩ | ⟨rfl, hruns, hmode, he, rfl⟩ := hk
      · exact ⟨.inl ⟨rfl, hruns, hmode⟩, rfl⟩
      · exact ⟨.inr ⟨rfl, hruns, hmode, he⟩, rfl⟩
    obtain ⟨hheld, rfl⟩ := hheld
    refine ⟨fun run phase step c h hmem => ?_, fun c hcan hmem => ?_⟩
    · obtain ⟨rfl, hskip⟩ := receivedRow_of_mem hmem
      have htaken := taken_endRun (changeMode .held []) s
      obtain ⟨hschedule, hwrites, hclimate⟩ := ModeChanged.taken htaken
      have hexec := (exec_received h fun hs => absurd hs hskip).trans
        (congrArg Host.Outcome.next (judgeDirective_held (s := endRun s) hheld _))
      exact ⟨_, hexec, hschedule, by simp [endRun], hwrites, hclimate, by simp [onlyChanges_iff, endRun]⟩
    · obtain ⟨rfl, hkind⟩ := originRow_of_mem hmem
      have htaken := taken_originated (changeMode .held []) k charge code 0 0 s
      obtain ⟨hschedule, hwrites, hclimate⟩ := ModeChanged.taken htaken
      have hexec := exec_origin_untargeted hcan hkind 0 0 fun p => originRefusal_held hheld p
      rw [applyDirective_held hheld] at hexec
      exact ⟨_, hexec, hschedule,
        originated_spec charge code (by simp) (by simpa using hcan.2) (by simp) fun _ => ⟨rfl, rfl⟩, hwrites, hclimate,
        changeMode_frame htaken⟩
  · have hresume (u : State) (hu : u.schedule.mode = .held) (p : Option Position) : applyDirective .resume p u = resumed u :=
      if_pos hu
    obtain ⟨run, phase, step, rfl, h⟩ | ⟨rfl, hcan⟩ := hc
    · have htaken := taken_endRun resumed s
      have hexec := (taken_received h (by decide) nofun nofun hruns).trans
        (congrArg Host.Outcome.next (hresume (endRun s) hm _))
      obtain ⟨henters, hstay, hregime⟩ := resume_taken htaken hr hrunning hpath
      obtain ⟨hbus, hport⟩ := resumed_keeps (endRun s)
      exact ⟨_, hexec, henters, hstay, hregime, nofun, fun _ => ⟨hbus, hport⟩, resume_frame htaken⟩
    · have htaken := taken_originated resumed .resume charge code 0 0 s
      have hexec := exec_origin_untargeted (k := .resume) hcan (by decide) 0 0 fun _ => rankRefusal_of_runs hruns
      rw [hresume s hm] at hexec
      obtain ⟨henters, hstay, hregime⟩ := resume_taken htaken hr hrunning hpath
      obtain ⟨hbus, hport⟩ := resumed_keeps s
      refine ⟨_, hexec, henters, hstay, hregime, fun _ => ?_, fun hne => absurd rfl hne, resume_frame htaken⟩
      exact originated_spec charge code (by rw [hbus]) (by rw [hbus]; exact hcan.2) hport fun _ => ⟨rfl, rfl⟩
  · rintro rfl rfl hposition
    rw [exec_received h hskip, judgeDirective_reset_zero, if_neg (show (endRun s).schedule.position ≠ .idle from hposition)]
    rfl
  · rw [exec_received h hskip, judgeDirective_other (s := endRun s) hstart hcharge hother]
    rfl
  · have hexec := exec_received h hskip
    rw [judgeDirective_code (s := endRun s) hstart hcharge hr hn hcode] at hexec
    exact ⟨_, hexec, latched_of_bus (endRun_onlyChanges s) .codeMismatch⟩
  · rw [exec_received h hskip, judgeDirective_changeless (s := endRun s) hstart hless hruns]
    rfl
  · obtain ⟨hsending, hbusy⟩ := hidle
    rw [exec_originRow]
    exact congrArg Host.Outcome.next (request_of_answer hsending hbusy 0x03 (by rw [originate, if_pos hset]))
  · have hcan : s.CanOriginate := ⟨hidle, hslot⟩
    refine ⟨fun hk h0 hp => ?_, fun hcharge hother => ?_, fun r hcharge hr hn hcode => ?_, fun hk hruns hcharge he => ?_⟩
    · subst hk h0
      refine exec_origin_state hcan hskip ?_
      by_cases hposition : s.schedule.position = .idle
      · simp [originRefusal, hposition, hp.resolve_left (not_not_intro hposition)]
      · simp [originRefusal, hposition]
    · exact exec_origin_state hcan hskip (originRefusal_of_rank hstart hcharge (rankRefusal_other hother))
    · have hexec := exec_origin_refused (step := step) hcan hskip (originRefusal_of_rank hstart hcharge (rankRefusal_code hr hn hcode))
      refine ⟨_, hexec, by simp, ?_, by simp [onlyChanges_iff]⟩
      exact latchAll_latched _ _ _ (by simp)
    · subst hk
      refine exec_origin_state hcan hskip ?_
      have h0 : ¬charge.toNat = 0 := fun h0 => hcharge ((toNat_eq_zero_iff charge).1 h0)
      simp [originRefusal, h0, rankRefusal_of_runs hruns, he]
  · have hcan : s.CanOriginate := ⟨hidle, hslot⟩
    have hexec := exec_origin_untargeted hcan (PassesUnchanged.kind hk) phase step fun _ => originRefusal_unchanged hk
    rw [applyDirective_changeless (PassesUnchanged.changeless hk)] at hexec
    obtain ⟨hsafe, hoffer, hreport, hattempt⟩ := setDirectiveSlot_slots s.bus (directiveSetting k charge code 0 0)
    exact ⟨_, hexec, originated_spec charge code rfl hslot rfl fun _ => ⟨rfl, rfl⟩, hsafe, hoffer, hreport, hattempt,
      originated_onlyChanges k charge code 0 0 s⟩

end Sys2Proof.Machine
end

section
/-! START and the late join (R101 to R103, R129): the promotion, the gather watch at once, and the refusals. -/

namespace Sys2Proof.Machine

/-! ## The entry to GATHER with its watch (R101, R111) -/

/-- The state from which a promotion enters GATHER (R101). -/
def promotedFrom (s : State) : State := promoteTimers (requestCalibration (promoteStore s))

/-- The outputs and I at 0. -/
def State.silenced (s : State) : State := s.setClimate { s.climate with integral := 0, heat := 0, spray := 0, vent := 0 }

/-- A regime without loops sets the outputs and I itself (R146). -/
theorem judgeRegime_setClimate {s : State} (h : regimeOf s.schedule.mode s.schedule.position ≠ .loops) {c d : Climate}
    (hc : { c with integral := 0, heat := 0, spray := 0, vent := 0 } = { d with integral := 0, heat := 0, spray := 0, vent := 0 }) :
    judgeRegime (s.setClimate c) = judgeRegime (s.setClimate d) := by
  obtain ⟨_, _, _, _, _, _, _, _, _, _, _⟩ := c
  obtain ⟨_, _, _, _, _, _, _, _, _, _, _⟩ := d
  simp only [Climate.mk.injEq, true_and] at hc
  obtain ⟨rfl, rfl, rfl, rfl, rfl, rfl, rfl⟩ := hc
  unfold judgeRegime
  simp only [State.setClimate_schedule]
  cases hr : regimeOf s.schedule.mode s.schedule.position with
  | loops => exact absurd hr h
  | _ => rfl

/-- GATHER sets its outputs itself, so an entry to it is one from the outputs at 0 (R146). -/
theorem enterPosition_gather_silenced (k : Cause) (s : State) :
    enterPosition .gather k [] s.silenced = enterPosition .gather k [] s := by
  have hentry : climateEntry s.schedule.position (s.silenced.setSchedule (entrySchedule s.currentRecord .gather s.schedule))
      = climateEntry s.schedule.position (s.setSchedule (entrySchedule s.currentRecord .gather s.schedule)) := by
    rw [climateEntry_eq, climateEntry_eq]
    refine judgeRegime_setClimate (s := s.setSchedule (entrySchedule s.currentRecord .gather s.schedule)) ?_ rfl
    rw [regimeOf_eq, Ne, tableRegime_eq_loops]
    rintro ⟨-, hloop⟩
    cases hloop
  unfold enterPosition
  exact congrArg (fun u => latchAll _ (writeTrace _ u)) hentry

theorem promote_eq_testGather (k : Cause) (s : State) :
    promote k s = testGather (enterPosition .gather k [] (promotedFrom s)) := by
  rw [promote_eq, exitsAtOnce, position_enterPosition]
  rfl

theorem testGather_of_position {s : State} (h : s.schedule.position ≠ .gather) : testGather s = s := by
  refine if_neg fun hmet => h ?_
  simp only [Bool.and_eq_true, runningAt_iff] at hmet
  exact hmet.1.1.2

theorem position_testWarmup (s : State) :
    (testWarmup s).schedule.position = s.schedule.position ∨ (testWarmup s).schedule.position = .drying 1 := by
  unfold testWarmup
  split_ifs
  · exact .inr (position_enterPosition _ _ _ _)
  · exact .inl rfl

/-- The watch does not meet twice. -/
theorem testGather_testGather (s : State) : testGather (testGather s) = testGather s := by
  by_cases h : (s.runningAt .gather && s.schedule.gatherArmed && s.gatherMet) = true
  · refine testGather_of_position ?_
    rw [testGather, if_pos h]
    obtain hp | hp := position_testWarmup (enterPosition .warmup .own [] s)
    · rw [hp, position_enterPosition]
      decide
    · rw [hp]
      decide
  · have hs : testGather s = s := if_neg h
    rw [hs, hs]

theorem showSchedule_promote (n : Nat) (d : ReportData) (k : Cause) (s : State) :
    showSchedule n d (promote k s) = showSchedule n d (enterPosition .gather k [] (promotedFrom s)) := by
  rw [promote_eq_testGather, showSchedule, testGather_testGather, showSchedule]

/-! ## A run of entries from GATHER -/

/-- From the outputs at 0 and a position without loops, every run that follows steadily from elsewhere does. -/
theorem steadyPath_of_zero {s u : State} {p : Position} {path : List (Position × Cause)} (hp : u.schedule.position.isLoop = false)
    (hheat : u.climate.heat = 0) (hvent : u.climate.vent = 0) (hspray : u.climate.spray = 0) (h : s.SteadyPath p path) :
    u.SteadyPath p path := by
  induction path generalizing p with
  | nil => exact trivial
  | cons x rest ih =>
    refine ⟨fun hq => ?_, ih h.2⟩
    obtain hloop | ⟨hcool, -⟩ := h.1 hq
    · exact .inl hloop
    · exact .inr ⟨hcool, hp, hheat, hvent, hspray⟩

theorem steadyPath_gather {s u : State} {path : List (Position × Cause)} (hp : u.schedule.position.isLoop = false)
    (hheat : u.climate.heat = 0) (hvent : u.climate.vent = 0) (hspray : u.climate.spray = 0) (h : s.SteadyFrom path) :
    u.SteadyPath .gather path := by
  cases path with
  | nil => exact trivial
  | cons x rest => exact ⟨fun _ => .inr ⟨by decide, hp, hheat, hvent, hspray⟩, steadyPath_of_zero hp hheat hvent hspray h⟩

theorem latch_snapshot (c : Condition) (s : State) : (latch c s).trace.snapshotTimer = s.trace.snapshotTimer := by
  unfold latch
  split_ifs
  · rfl
  · rfl
  · exact writeRecord_snapshot _ _

theorem latchAll_snapshot (cs : List Condition) (s : State) :
    (latchAll cs s).trace.snapshotTimer = s.trace.snapshotTimer := by
  unfold latchAll
  induction Condition.all.filter (· ∈ cs) generalizing s with
  | nil => rfl
  | cons c rest ih => exact (ih (latch c s)).trans (latch_snapshot c s)

theorem enterPosition_snapshot (p : Position) (k : Cause) (cs : List Condition) (s : State) :
    (enterPosition p k cs s).trace.snapshotTimer = s.trace.snapshotTimer := by
  rw [enterPosition, latchAll_snapshot, writeTrace, writeRecord_snapshot]
  simp

theorem enterAll_snapshot (path : List (Position × Cause)) (s : State) :
    (enterAll path s).trace.snapshotTimer = s.trace.snapshotTimer := by
  induction path generalizing s with
  | nil => rfl
  | cons x rest ih => exact (ih _).trans (enterPosition_snapshot x.1 x.2 [] s)

/-- What a promotion and the entries after it do, seen from the state before the event (R101). -/
structure PromotionDone (s t : State) (r : RankedRecord) (path : List (Position × Cause)) : Prop where
  store : t.store = { s.store with staged := none, current := some r }
  path : EntersPath
    { s with
      schedule := { s.schedule with minute := 0, minuteTimer := 1152000 }
      climate := { s.climate with integral := 0, heat := 0, spray := 0, vent := 0 } } t r.record [] path
  snapshot : t.trace.snapshotTimer = r.record.traceInterval
  frontEnd : t.frontEnd =
    (if s.frontEnd.sweep = .idleFe then
      { s.frontEnd with sweep := .calSweep, calRequest := false, samples := [], windowTimer := 9600 }
    else { s.frontEnd with calRequest := true })

theorem requestCalibration_frontEnd (s : State) : (requestCalibration s).frontEnd =
    (if s.frontEnd.sweep = .idleFe then
      { s.frontEnd with sweep := .calSweep, calRequest := false, samples := [], windowTimer := 9600 }
    else { s.frontEnd with calRequest := true }) := by
  unfold requestCalibration
  cases s.frontEnd.sweep <;> rfl

theorem promotion_done {s v : State} {r : RankedRecord} (hv : OnlyChanges [.bus, .peers] s v) (hstaged : s.store.staged = some r)
    (hm : s.schedule.mode ≠ .safe) (hposition : s.schedule.position.isLoop = false) (cause : Cause) {path : List (Position × Cause)}
    (hsteady : (enterPosition .gather cause [] (promotedFrom v)).SteadyFrom path) :
    PromotionDone s (enterAll path (enterPosition .gather cause [] (promotedFrom v))) r ((.gather, cause) :: path) := by
  have hvschedule : v.schedule = s.schedule := hv .schedule (by simp)
  have hvstraps : v.straps = s.straps := hv .straps (by simp)
  have hvstore : v.store = s.store := hv .store (by simp)
  have hvclimate : v.climate = s.climate := hv .climate (by simp)
  have hvtrace : v.trace = s.trace := hv .trace (by simp)
  have hvsensors : v.sensors = s.sensors := hv .sensors (by simp)
  have hvattention : v.attention = s.attention := hv .attention (by simp)
  have hvfrontEnd : v.frontEnd = s.frontEnd := hv .frontEnd (by simp)
  have hstore : (promotedFrom v).store = { s.store with staged := none, current := some r } := by
    simp [promotedFrom, hvstore, hstaged]
  refine ⟨by simp [hstore], ?_, ?_, ?_⟩
  · set u := (promotedFrom v).silenced with hu
    have huschedule : u.schedule = { s.schedule with minute := 0, minuteTimer := 1152000 } := by
      simp [hu, State.silenced, promotedFrom, promoteTimers, seconds, hvschedule]
    have huclimate : u.climate = { s.climate with integral := 0, heat := 0, spray := 0, vent := 0 } := by
      simp [hu, State.silenced, promotedFrom, hvclimate]
    have hurecords : u.trace.records = s.trace.records := by
      simp [hu, State.silenced, promotedFrom, promoteTimers, hvtrace]
    have hsensors : u.sensors = s.sensors := by simp [hu, State.silenced, promotedFrom, hvsensors]
    have hstraps : u.straps = s.straps := by simp [hu, State.silenced, promotedFrom, hvstraps]
    have hattention : u.attention = s.attention := by simp [hu, State.silenced, promotedFrom, hvattention]
    have hrecord : u.currentRecord = some r.record := by
      simp [hu, State.silenced, State.currentRecord, hstore]
    rw [← enterPosition_gather_silenced]
    refine (entersPath_enterAll (s := u) .gather cause path hrecord (by rw [huschedule]; exact hm) eventOrdered_nil
      (.inr (by simp)) (steadyPath_gather (by rw [huschedule]; exact hposition) (by rw [huclimate]) (by rw [huclimate])
        (by rw [huclimate]) hsteady)).after (fun hb => State.Writes.nil hb hurecords) (fun h => by simp at h)
      (fun _ => by rw [huschedule]) huclimate (by rw [huschedule]) (dryBulb_of_sensors hsensors) hstraps
      fun c _ => by rw [hattention]
  · rw [enterAll_snapshot, enterPosition_snapshot]
    simp [promotedFrom, promoteTimers, State.currentRecord, hvstore, hstaged]
  · simp [promotedFrom, requestCalibration_frontEnd, hvfrontEnd]

/-! ## START (R102, R129) -/

theorem startOpen_iff (s : State) : s.startOpen = true ↔
    (s.schedule.position = .idle ∨ s.schedule.position = .complete) ∧ s.schedule.mode ≠ .safe := by
  simp [State.startOpen]

section
variable {s : State} {charge code : Word16}

/-- A START is shut in another position, in SAFE, without a charge, and under the current number (R102, R129). -/
def StartShut (s : State) (charge : Word16) : Prop :=
  (s.schedule.position ≠ .idle ∧ s.schedule.position ≠ .complete) ∨ s.schedule.mode = .safe ∨ charge = 0
    ∨ (∃ c, s.currentRecord = some c ∧ c.chargeNumber = charge.toNat)

theorem any_charge_iff (o : Option ChargeRecord) (n : Nat) :
    (o.any fun c => decide (c.chargeNumber = n)) = true ↔ ∃ c, o = some c ∧ c.chargeNumber = n := by
  cases o <;> simp

theorem any_charge_eq_false (h : ∀ c, s.currentRecord = some c → c.chargeNumber ≠ charge.toNat) :
    (s.currentRecord.any fun c => decide (c.chargeNumber = charge.toNat)) = false := by
  rw [← Bool.not_eq_true, any_charge_iff]
  rintro ⟨c, hc, hn⟩
  exact h c hc hn

theorem judgeDirective_start (p : Option Position) (hopen : s.schedule.position = .idle ∨ s.schedule.position = .complete)
    (hm : s.schedule.mode ≠ .safe) (hcharge : charge ≠ 0) :
    judgeDirective .start charge.toNat code.toNat p s = storeStart charge.toNat code.toNat s := by
  have h0 : charge.toNat ≠ 0 := fun h => hcharge ((toNat_eq_zero_iff charge).1 h)
  rw [judgeDirective, if_pos rfl, if_pos (by simp [(startOpen_iff s).2 ⟨hopen, hm⟩, h0])]

theorem judgeDirective_start_shut (p : Option Position) (h : StartShut s charge) :
    judgeDirective .start charge.toNat code.toNat p s = s := by
  rw [judgeDirective, if_pos rfl]
  split_ifs with hopen
  · rw [Bool.and_eq_true, startOpen_iff, bne_iff_ne] at hopen
    obtain hp | hm | h0 | hc := h
    · exact absurd hopen.1.1 (not_or.2 hp)
    · exact absurd hm hopen.1.2
    · exact absurd ((toNat_eq_zero_iff charge).2 h0) hopen.2
    · exact if_pos ((any_charge_iff _ _).2 hc)
  · rfl

theorem startRefusal_shut (h : StartShut s charge) :
    startRefusal charge.toNat code.toNat s = some (.stateRefused, []) := by
  refine if_pos ?_
  rw [Bool.or_eq_true, Bool.or_eq_true, Bool.not_eq_true', ← Bool.not_eq_true, startOpen_iff, beq_iff_eq, toNat_eq_zero_iff,
    any_charge_iff]
  obtain ⟨hi, hc⟩ | hm | h0 | hc := h
  · exact .inl (.inl fun ⟨hp, _⟩ => hp.elim hi hc)
  · exact .inl (.inl fun ⟨_, hne⟩ => hne hm)
  · exact .inl (.inr h0)
  · exact .inr hc

section
variable (hcurrent : ∀ c, s.currentRecord = some c → c.chargeNumber ≠ charge.toNat)
include hcurrent

theorem storeStart_promotes {r : RankedRecord} (hr : s.store.staged = some r) (hn : r.record.chargeNumber = charge.toNat)
    (hc : r.record.chargeCode = code.toNat) : storeStart charge.toNat code.toNat s = promote .directed s := by
  rw [storeStart, if_neg (by rw [any_charge_eq_false hcurrent]; decide), hr]
  simp only [hn, hc, if_true]

theorem storeStart_missing (h : ∀ r, s.store.staged = some r → r.record.chargeNumber ≠ charge.toNat) :
    storeStart charge.toNat code.toNat s = latch .chargeMissing s := by
  rw [storeStart, if_neg (by rw [any_charge_eq_false hcurrent]; decide)]
  cases hr : s.store.staged with
  | none => rfl
  | some r => exact if_neg (h r hr)

theorem storeStart_mismatch {r : RankedRecord} (hr : s.store.staged = some r) (hn : r.record.chargeNumber = charge.toNat)
    (hc : r.record.chargeCode ≠ code.toNat) : storeStart charge.toNat code.toNat s = latch .codeMismatch s := by
  rw [storeStart, if_neg (by rw [any_charge_eq_false hcurrent]; decide), hr]
  simp only [hn, hc, if_true, if_false]

variable (hopen : s.schedule.position = .idle ∨ s.schedule.position = .complete) (hm : s.schedule.mode ≠ .safe) (hcharge : charge ≠ 0)
include hopen hm hcharge

theorem startRefusal_open : (!s.startOpen || charge.toNat == 0
    || s.currentRecord.any (fun c => decide (c.chargeNumber = charge.toNat))) = false := by
  have h0 : charge.toNat ≠ 0 := fun h => hcharge ((toNat_eq_zero_iff charge).1 h)
  simp only [(startOpen_iff s).2 ⟨hopen, hm⟩, any_charge_eq_false hcurrent, beq_eq_false_iff_ne.2 h0]
  rfl

theorem startRefusal_none {r : RankedRecord} (hr : s.store.staged = some r) (hn : r.record.chargeNumber = charge.toNat)
    (hc : r.record.chargeCode = code.toNat) : startRefusal charge.toNat code.toNat s = none := by
  rw [startRefusal, if_neg (by rw [startRefusal_open hcurrent hopen hm hcharge]; decide), hr]
  simp only [hn, hc, if_true]

theorem startRefusal_missing (h : ∀ r, s.store.staged = some r → r.record.chargeNumber ≠ charge.toNat) :
    startRefusal charge.toNat code.toNat s = some (.stateRefused, [.chargeMissing]) := by
  rw [startRefusal, if_neg (by rw [startRefusal_open hcurrent hopen hm hcharge]; decide)]
  cases hr : s.store.staged with
  | none => rfl
  | some r => exact if_neg (h r hr)

theorem startRefusal_mismatch {r : RankedRecord} (hr : s.store.staged = some r) (hn : r.record.chargeNumber = charge.toNat)
    (hc : r.record.chargeCode ≠ code.toNat) : startRefusal charge.toNat code.toNat s = some (.codeRefused, [.codeMismatch]) := by
  rw [startRefusal, if_neg (by rw [startRefusal_open hcurrent hopen hm hcharge]; decide), hr]
  simp only [hn, hc, if_true, if_false]

end
end

/-- A directive refused at its origin with a condition latched (R133). -/
theorem refused_of_latched {s t : State} {a : Answer} {c : Condition}
    (h : t = (latchAll [c] s).setPort { s.port with sending := some (responseOf 0x03 a) }) :
    t.attention.latched c = true ∧ t.port = { s.port with sending := some (responseOf 0x03 a) }
      ∧ OnlyChanges [.port, .attention, .trace] s t := by
  subst h
  exact ⟨latchAll_latched _ _ _ (by simp), rfl, by simp [onlyChanges_iff]⟩

/-! ## The late join (R103) -/

theorem reportConditions_other {current : Option RankedRecord} (n : Nat) {d : ReportData}
    (h : ∀ r, current = some r → d.charge ≠ r.record.chargeNumber) : reportConditions current n d = [] := by
  cases current with
  | none => rfl
  | some r => exact if_neg (h r rfl)

theorem reoffer_of_closed (n : Nat) (d : ReportData) {s : State}
    (h : s.schedule.position = .idle ∨ s.schedule.position = .complete) : reoffer n d s = s := by
  refine if_neg fun hd => ?_
  unfold State.drawsOffer at hd
  split at hd
  · simp only [Bool.and_eq_true] at hd
    obtain ⟨hidle, hcomplete⟩ := (reoffers_iff _).1 hd.1.1.1
    exact h.elim hidle hcomplete
  · cases hd

/-- The state that the entry to GATHER of a promotion leaves, for the tests that follow it. -/
structure Gathered (v g : State) (r : RankedRecord) : Prop where
  position : g.schedule.position = .gather
  armed : g.schedule.gatherArmed = true
  mode : g.schedule.mode = v.schedule.mode
  current : g.store.current = some r
  straps : g.straps = v.straps
  peers : g.peers = v.peers
  dryBulb : g.dryBulb = v.dryBulb

theorem gathered (k : Cause) {v : State} {r : RankedRecord} (hstaged : v.store.staged = some r) :
    Gathered v (enterPosition .gather k [] (promotedFrom v)) r where
  position := position_enterPosition _ _ _ _
  armed := by simp [entrySchedule]
  mode := by simp [entrySchedule, promotedFrom, promoteTimers]
  current := by simp [promotedFrom, hstaged]
  straps := by simp [promotedFrom]
  peers := by simp [promotedFrom]
  dryBulb := dryBulb_of_sensors (by simp [promotedFrom])

theorem Gathered.exits {v g : State} {r : RankedRecord} (h : Gathered v g r) (p : Position) :
    g.exits r.record p = (v.onward r.record p).map (·, .own) := by
  rw [State.exits, onward_of_same h.mode h.dryBulb]

theorem Gathered.watch_iff {v g : State} {r : RankedRecord} (h : Gathered v g r) :
    (g.schedule.mode = .run ∧ g.schedule.position = .gather ∧ g.schedule.gatherArmed = true ∧ g.gatherMet = true)
      ↔ v.schedule.mode = .run ∧ v.RosterMatched r 0 := by
  have hroster : g.RosterMatched r 0 ↔ v.RosterMatched r 0 := by
    unfold State.RosterMatched
    rw [h.straps, h.peers]
  rw [gatherMet_iff h.current, hroster, h.mode, h.position, h.armed]
  tauto

/-- A START's promotion: GATHER, and the watch's entries (R101, R111). -/
theorem start_done {s v : State} {r : RankedRecord} {own : List (Position × Cause)} (hv : OnlyChanges [.bus] s v)
    (hstaged : s.store.staged = some r) (hm : s.schedule.mode ≠ .safe) (hposition : s.schedule.position.isLoop = false)
    (hown : s.schedule.mode = .run ∧ s.RosterMatched r 0 ∧ own = (.warmup, .own) :: (s.onward r.record .warmup).map (·, .own)
        ∨ ¬(s.schedule.mode = .run ∧ s.RosterMatched r 0) ∧ own = []) :
    PromotionDone s (promote .directed v) r ((.gather, .directed) :: own) := by
  have hvschedule : v.schedule = s.schedule := hv .schedule (by simp)
  have hvstraps : v.straps = s.straps := hv .straps (by simp)
  have hvstore : v.store = s.store := hv .store (by simp)
  have hvpeers : v.peers = s.peers := hv .peers (by simp)
  have hvsensors : v.sensors = s.sensors := hv .sensors (by simp)
  have hg := gathered .directed (v := v) (r := r) (by rw [hvstore]; exact hstaged)
  set g := enterPosition .gather .directed [] (promotedFrom v) with hgdef
  have hexits (p : Position) : g.exits r.record p = (s.onward r.record p).map (·, .own) := by
    rw [hg.exits, onward_of_same (by rw [hvschedule]) (dryBulb_of_sensors hvsensors)]
  have hwatch : (g.schedule.mode = .run ∧ g.schedule.position = .gather ∧ g.schedule.gatherArmed = true ∧ g.gatherMet = true)
      ↔ s.schedule.mode = .run ∧ s.RosterMatched r 0 := by
    rw [hg.watch_iff, hvschedule]
    unfold State.RosterMatched
    rw [hvstraps, hvpeers]
  have hpath : (s.schedule.mode = .run ∧ s.RosterMatched r 0) ∧ own = (.warmup, .own) :: g.exits r.record .warmup
      ∨ ¬(s.schedule.mode = .run ∧ s.RosterMatched r 0) ∧ own = [] := by
    rw [hexits, and_assoc]
    exact hown
  have hpromote : promote .directed v = enterAll own g := by
    rw [promote_eq_testGather, testGather_eq (r := r.record) (by rw [State.currentRecord, hg.current]; rfl)]
    obtain ⟨hmet, rfl⟩ | ⟨hmet, rfl⟩ := hpath
    · rw [if_pos (hwatch.2 hmet)]
    · rw [if_neg fun h => hmet (hwatch.1 h)]
      rfl
  rw [hpromote]
  refine promotion_done (hv.mono (by simp)) hstaged hm hposition .directed ?_
  obtain rfl | ⟨rest, rfl, hrest, -⟩ := watchPath_cases hpath
  · exact trivial
  · exact hrest

/-- A report at a closed store (R63, R68, R69, R100): the entry and the conditions alone, before the late join. -/
theorem acceptReport_closed (n : Nat) (d : ReportData) {s : State}
    (h : s.schedule.position = .idle ∨ s.schedule.position = .complete) :
    acceptReport n d s = showSchedule n d (lateJoin n d (reportTaken n d s)) := by
  have hschedule : (reportTaken n d s).schedule = s.schedule := by simp [reportTaken, writeEntry]
  rw [acceptReport_eq, reoffer_of_closed n d (by rw [hschedule]; exact h)]

/-- A report that joins late (R103): the entry, the promotion, the watch's entries and then the follow rule's. -/
theorem join_done {s : State} {n : Nat} {d : ReportData} {r : RankedRecord} {own followed : List (Position × Cause)}
    (h1 : 1 ≤ n) (h32 : n ≤ 32) (hother : n ≠ s.straps.station) (hstaged : s.store.staged = some r)
    (hm : s.schedule.mode ≠ .safe) (hposition : s.schedule.position.isLoop = false)
    (hcharge : d.charge = r.record.chargeNumber) (hcheck : d.check = r.check)
    (hown : s.schedule.mode = .run ∧ s.RosterMatched r n ∧ own = (.warmup, .own) :: (s.onward r.record .warmup).map (·, .own)
        ∨ ¬(s.schedule.mode = .run ∧ s.RosterMatched r n) ∧ own = [])
    (hfollowed : s.FollowMet r (reachedAfter own .gather) n d
          ∧ followed = (d.position, .followed) :: (s.onward r.record d.position).map (·, .own)
        ∨ ¬s.FollowMet r (reachedAfter own .gather) n d ∧ followed = []) :
    PromotionDone s (showSchedule n d (promote .followed (writeEntry n d (endRun s)))) r
      ((.gather, .followed) :: (own ++ followed)) := by
  set v := writeEntry n d (endRun s) with hv
  have hg := gathered .followed (v := v) (r := r) hstaged
  set g := enterPosition .gather .followed [] (promotedFrom v) with hgdef
  have hexits (p : Position) : g.exits r.record p = (s.onward r.record p).map (·, .own) :=
    hg.exits p
  have hwatch : (g.schedule.mode = .run ∧ g.schedule.position = .gather ∧ g.schedule.gatherArmed = true ∧ g.gatherMet = true)
      ↔ s.schedule.mode = .run ∧ s.RosterMatched r n := by
    rw [hg.watch_iff, rosterMatched_written (s := s) (u := v) (d := d) h1 h32 hother rfl rfl]
    exact and_congr_right fun _ => and_iff_left fun _ => ⟨hcharge, hcheck⟩
  obtain ⟨hshow, hsteady, -⟩ := showSchedule_eq (u := g) (n := n) (d := d) (own := own) (followed := followed) hg.current
    (by rw [hg.position]; decide) (by rw [hg.position]; rfl)
    (by rw [hwatch, hexits, and_assoc]; exact hown)
    (by rw [followMet_congr (s := s) hg.mode, hexits, hg.position]; exact hfollowed)
  rw [showSchedule_promote, ← hgdef, hshow]
  exact promotion_done (by simp [onlyChanges_iff, hv, writeEntry, endRun]) hstaged hm hposition .followed hsteady

/-- Nothing is followed in COMPLETE, nor without a current record (R121, TABLE 7-1). -/
theorem follows_of_closed {s : State} (n : Nat) (d : ReportData)
    (h : s.store.current = none ∨ s.schedule.position = .complete) : s.follows n d = false := by
  unfold State.follows State.currentRecord
  cases hr : s.store.current with
  | none => rfl
  | some r =>
    have hposition := h.resolve_left (by simp [hr])
    have hbeyond : s.isBeyond r.record d.position = false := by
      rw [← Bool.not_eq_true, isBeyond_iff (a := r.record.stepCount + 6) (by rw [hposition]; rfl)]
      rintro ⟨b, hb, hlt⟩
      cases hp : d.position <;> simp_all [positionRank] <;> omega
    simp [hbeyond]

/-- A report that joins nothing at a closed store is shown to no schedule rule (R103). -/
theorem acceptReport_unjoined {n : Nat} {d : ReportData} {s : State}
    (h : s.schedule.position = .idle ∧ s.store.current = none ∨ s.schedule.position = .complete)
    (hjoin : ¬s.LateJoinMet n d) : acceptReport n d s = reportTaken n d s := by
  have hschedule : (reportTaken n d s).schedule = s.schedule := by simp [reportTaken, writeEntry]
  have hlate : lateJoin n d (reportTaken n d s) = reportTaken n d s := by
    refine if_neg ?_
    rw [joinsLate_iff]
    unfold State.LateJoinMet
    rw [hschedule, reportTaken_store]
    exact hjoin
  have hposition : s.schedule.position ≠ .gather := by
    obtain ⟨hp, -⟩ | hp := h <;> rw [hp] <;> decide
  rw [acceptReport_closed n d (h.imp_left And.left), hlate, showSchedule, testGather_of_position (by rw [hschedule]; exact hposition)]
  refine if_neg ?_
  rw [follows_of_closed n d (by rw [hschedule, reportTaken_store]; exact h.imp_left And.right)]
  decide

/-- Settles O51: START and the late join make one promotion; what fails a condition of either joins nothing. -/
theorem startPromotes : Obligations.StartPromotes := by
  intro s charge code
  refine ⟨fun r c cause promoted sender own followed reached hstaged hn hc hcharge hcurrent hopen hm hpromoted hown hreached hcase => ?_,
    fun run f d h hd hclosed hfail => ?_, fun run phase step h => ⟨fun hshut => ?_, fun hopen hm hcharge hcurrent => ⟨fun hstaged => ?_,
      fun r hr hn hc => ?_⟩⟩,
    fun hcan => ⟨fun hshut => ?_, fun hopen hm hcharge hcurrent => ⟨fun hstaged => ?_, fun r hr hn hc => ?_⟩⟩⟩
  · have hloop : s.schedule.position.isLoop = false := by obtain hp | hp := hopen <;> rw [hp] <;> rfl
    subst hpromoted
    obtain ⟨run, phase, step, rfl, h, rfl, rfl, rfl⟩ | ⟨rfl, hcan, rfl, rfl, rfl⟩
      | ⟨run, f, d, rfl, h, hd, hdc, hdk, hdp, hroster, rfl, rfl, hfollowed⟩ := hcase
    · have hexec : exec (.startDirectiveReceived run) s = .next (promote .directed (endRun s)) := by
        refine (exec_received h nofun).trans (congrArg Host.Outcome.next ?_)
        rw [judgeDirective_start (s := endRun s) _ hopen hm hcharge]
        exact storeStart_promotes (s := endRun s) hcurrent hstaged hn hc
      obtain ⟨hstore, hpath, hsnapshot, hfront⟩ := start_done (endRun_onlyChanges s) hstaged hm hloop hown
      refine ⟨_, hexec, hstore, by simpa using hpath, hsnapshot, hfront, by rw [promote_bus]; rfl, nofun, fun _ => by simp [endRun],
        by simp [onlyChanges_iff, endRun]⟩
    · have hexec : exec (.directiveStart charge code) s = .next (originated .start charge code 0 0 (promote .directed s)) := by
        refine (exec_origin_applied (k := .start) (phase := 0) (step := 0) hcan nofun
          (startRefusal_none hcurrent hopen hm hcharge hstaged hn hc)).trans ?_
        exact congrArg (fun u => Host.Outcome.next (originated .start charge code 0 0 u)) (storeStart_promotes hcurrent hstaged hn hc)
      obtain ⟨hstore, hpath, hsnapshot, hfront⟩ := start_done (v := s) ((onlyChanges_iff _ _ _).2 (by simp)) hstaged hm hloop hown
      have htarget := originated_onlyChanges .start charge code 0 0 (promote .directed s)
      refine ⟨_, hexec, hstore, ?_, hsnapshot, hfront, ?_, fun _ => ?_, fun _ => ?_, ?_⟩
      · simpa using hpath.of_bus ((onlyChanges_iff _ _ _).2 (by simp)) htarget
      · rw [originated, State.setPort_bus, State.setBus_bus, (setDirectiveSlot_slots _ _).2.1, promote_bus]
        rfl
      · refine originated_spec charge code ?_ ?_ (by simp) fun _ => ⟨rfl, rfl⟩
        · rw [promote_bus]; rfl
        · rw [promote_bus]; exact hcan.2
      · simp [originated]
      · simp [onlyChanges_iff, originated]
    · obtain ⟨h1, h32⟩ := hears_station h
      have hother : f.station ≠ s.straps.station := hears_report_other h
      have hclosed : (endRun s).schedule.position = .idle ∨ (endRun s).schedule.position = .complete := hopen
      have htaken : reportTaken f.station d (endRun s) = writeEntry f.station d (endRun s) := by
        rw [reportTaken, reportConditions_other, latchAll_nil]
        intro r' hr'
        have := hcurrent r'.record (by
          have hr' : s.store.current = some r' := hr'
          simp [State.currentRecord, hr'])
        omega
      have hjoin : lateJoin f.station d (writeEntry f.station d (endRun s)) = promote .followed (writeEntry f.station d (endRun s)) := by
        refine if_pos ?_
        rw [joinsLate_iff]
        exact ⟨hopen, hm, r, hstaged, by omega, hdk, hdp, hroster⟩
      have hexec := exec_reportReceived h hd
      rw [acceptReport_closed _ _ hclosed, htaken, hjoin] at hexec
      obtain ⟨hstore, hpath, hsnapshot, hfront⟩ := join_done h1 h32 hother hstaged hm hloop (by omega) hdk hown
        (by rw [hreached] at hfollowed; exact hfollowed)
      refine ⟨_, hexec, hstore, hpath, hsnapshot, hfront, ?_, nofun, fun hne => absurd rfl (hne run), ?_⟩
      · rw [showSchedule_bus, promote_bus]
        rfl
      · simp [onlyChanges_iff, writeEntry, endRun]
  · have hexec := exec_reportReceived h hd
    rw [acceptReport_unjoined (s := endRun s) hclosed ?_] at hexec
    · exact ⟨_, hexec, by simp [reportTaken, writeEntry, endRun], by simp [onlyChanges_iff, reportTaken, writeEntry, endRun]⟩
    · rintro ⟨-, hm, r, hr, hc, hk, hp, hroster⟩
      obtain hm' | hp' | hnone | ⟨r', hr', hbad⟩ := hfail
      · exact hm hm'
      · exact hp hp'
      · cases hnone.symm.trans hr
      · obtain rfl := Option.some.inj (hr'.symm.trans hr)
        obtain hc' | hk' | hroster' := hbad
        · exact hc' hc
        · exact hk' hk
        · rw [hroster] at hroster'
          cases hroster'
  · refine (exec_received h nofun).trans (congrArg Host.Outcome.next ?_)
    exact judgeDirective_start_shut (s := endRun s) _ hshut
  · have hexec : exec (.startDirectiveReceived run) s = .next (latch .chargeMissing (endRun s)) := by
      refine (exec_received h nofun).trans (congrArg Host.Outcome.next ?_)
      rw [judgeDirective_start (s := endRun s) _ hopen hm hcharge]
      exact storeStart_missing (s := endRun s) hcurrent hstaged
    obtain ⟨hbus, hlatched, hframe⟩ := latched_of_bus (endRun_onlyChanges s) .chargeMissing
    exact ⟨_, hexec, hlatched, hbus, hframe⟩
  · have hexec : exec (.startDirectiveReceived run) s = .next (latch .codeMismatch (endRun s)) := by
      refine (exec_received h nofun).trans (congrArg Host.Outcome.next ?_)
      rw [judgeDirective_start (s := endRun s) _ hopen hm hcharge]
      exact storeStart_mismatch (s := endRun s) hcurrent hr hn hc
    obtain ⟨hbus, hlatched, hframe⟩ := latched_of_bus (endRun_onlyChanges s) .codeMismatch
    exact ⟨_, hexec, hlatched, hbus, hframe⟩
  · exact exec_origin_state (k := .start) (phase := 0) (step := 0) hcan nofun (startRefusal_shut hshut)
  · exact ⟨_, exec_origin_refused (k := .start) (phase := 0) (step := 0) hcan nofun
      (startRefusal_missing hcurrent hopen hm hcharge hstaged), refused_of_latched rfl⟩
  · exact ⟨_, exec_origin_refused (k := .start) (phase := 0) (step := 0) hcan nofun
      (startRefusal_mismatch hcurrent hopen hm hcharge hr hn hc), refused_of_latched rfl⟩

end Sys2Proof.Machine
end

section
/-! The picture of a probe sweep at the schedule controller (R86, R117, R119). -/

namespace Sys2Proof.Machine

/-- The state in which the picture of a probe sweep is judged (R75). -/
def pictured (s : State) : State := buildPicture (convertReadings s)

theorem pictured_onlyChanges (s : State) : OnlyChanges [.readings, .picture] s (pictured s) := by
  simp [onlyChanges_iff, pictured, buildPicture, convertReadings]

theorem pictured_picture (s : State) : (pictured s).picture =
    some (pictureOf s.currentRecord (s.setReadings (convertSweep s.conversionInputs s.frontEnd.samples)).accepted) := by
  simp [pictured, convertReadings, buildPicture, State.currentRecord]

/-- The end of a probe sweep after the judgement, which no rule of the schedule reads (R75). -/
theorem leave_onlyChanges (s : State) : OnlyChanges [.peers, .frontEnd] s (leaveProbeSweep (writeOwnEntry s)) := by
  unfold leaveProbeSweep startCalSweep
  split <;> simp [onlyChanges_iff, writeOwnEntry]

theorem exec_probeSweepComplete {s : State} (hsweep : s.frontEnd.sweep = .probeSweep) (hlen : s.frontEnd.samples.length = 32) :
    exec .probeSweepComplete s =
      .next (leaveProbeSweep (writeOwnEntry (judgePicture (latchPictureShort (pictured s))))) :=
  congrArg Host.Outcome.next (if_pos (sweepDone_of hsweep hlen))

/-! ## PICTURE SHORT (R86) -/

theorem latchPictureShort_of_none {s : State} (h : s.currentRecord = none) : latchPictureShort s = s := by
  unfold latchPictureShort
  rw [h]
  cases s.picture <;> rfl

theorem judgesShort_iff (p : Position) : judgesShort p = true ↔ (∃ k, p = .drying k) ∨ p = .equalize := by
  cases p <;> simp [judgesShort]

section
variable {s : State} {r : ChargeRecord} {p : Picture} (hr : s.currentRecord = some r) (hp : s.picture = some p)
include hr hp

theorem latchPictureShort_eq :
    latchPictureShort s =
      if p.sufficient = false ∧ judgesShort s.schedule.position = true then latch .pictureShort s else s := by
  unfold latchPictureShort
  rw [hr, hp]
  have hiff : (!p.sufficient && judgesShort s.schedule.position) = true
      ↔ p.sufficient = false ∧ judgesShort s.schedule.position = true := by simp
  simp only [hiff]

/-! ## The judgement (R117, R119) -/

theorem judgePicture_still (h : s.schedule.mode ≠ .run ∨ p.sufficient = false
    ∨ ((∀ k, s.schedule.position ≠ .drying k) ∧ s.schedule.position ≠ .equalize)) : judgePicture s = s := by
  unfold judgePicture
  rw [hr, hp]
  by_cases hrun : s.schedule.mode = .run ∧ p.sufficient = true
  · obtain ⟨hnd, hne⟩ := (h.resolve_left (not_not_intro hrun.1)).resolve_left (by rw [hrun.2]; decide)
    refine (if_pos hrun).trans ?_
    cases hposition : s.schedule.position with
    | drying k => exact absurd hposition (hnd k)
    | equalize => exact absurd hposition hne
    | _ => rfl
  · exact if_neg hrun

theorem judgePicture_drying {k : Nat} (hm : s.schedule.mode = .run) (hs : p.sufficient = true)
    (hposition : s.schedule.position = .drying k) : judgePicture s = judgeDrying r p k s := by
  unfold judgePicture
  rw [hr, hp, hposition]
  exact if_pos ⟨hm, hs⟩

theorem judgePicture_equalize (hm : s.schedule.mode = .run) (hs : p.sufficient = true)
    (hposition : s.schedule.position = .equalize) {w : Extreme} (hw : p.wettest = some w) :
    judgePicture s = if w.mc ≤ r.finalTarget then enter .condition .own s else s := by
  unfold judgePicture
  rw [hr, hp, hposition]
  refine (if_pos ⟨hm, hs⟩).trans ?_
  simp [hw]

end

theorem judgeDrying_eq {s : State} {r : ChargeRecord} {p : Picture} {k : Nat} {st : ScheduleStep} {d : Extreme} {c : Nat}
    (hst : r.stepAt k = some st) (hd : p.driest = some d) (hc : p.controlling = some c) :
    judgeDrying r p k s =
      if (d.mc : Int) ≤ (r.finalTarget : Int) - r.equalizeOffset then enter .equalize .own s
      else if c ≤ st.advanceMc ∧ s.schedule.stepTimer = 0 then
        enter (if k = r.steps.length then .equalize else .drying (k + 1)) .own s
      else s := by
  unfold judgeDrying
  rw [hd, hc, hst]
  simp only [Option.any_some, decide_eq_true_eq]
  rfl

theorem exists_enterAll_judgeDrying (r : ChargeRecord) (p : Picture) (k : Nat) (s : State) :
    ∃ path, judgeDrying r p k s = enterAll path s := by
  unfold judgeDrying
  split
  · exact exists_enterAll_enter _ _ _
  · split
    · exact exists_enterAll_ite (exists_enterAll_enter _ _ _)
    · exact ⟨[], rfl⟩

theorem exists_enterAll_judgePicture (s : State) : ∃ path, judgePicture s = enterAll path s := by
  unfold judgePicture
  split
  · refine exists_enterAll_ite ?_
    split
    · exact exists_enterAll_judgeDrying _ _ _ _
    · exact exists_enterAll_ite (exists_enterAll_enter _ _ _)
    · exact ⟨[], rfl⟩
  · exact ⟨[], rfl⟩

/-- An entry of a judged picture, from the state before the sweep to the one after it. -/
theorem pictureEnters {s v t : State} {r : ChargeRecord} {p : Position} (hr : s.currentRecord = some r)
    (hm : s.schedule.mode = .run) (hp : p ≠ .gather) (hv : OnlyChanges [.readings, .picture] s v)
    (ht : OnlyChanges [.peers, .frontEnd] (enter p .own v) t) :
    EntersPath s t r [] ((p, .own) :: (s.onward r p).map (·, .own)) := by
  have hvschedule : v.schedule = s.schedule := hv .schedule (by simp)
  have hvclimate : v.climate = s.climate := hv .climate (by simp)
  have hvtrace : v.trace = s.trace := hv .trace (by simp)
  have hvsensors : v.sensors = s.sensors := hv .sensors (by simp)
  have hvattention : v.attention = s.attention := hv .attention (by simp)
  have hvstore : v.store = s.store := hv .store (by simp)
  have hdry : v.dryBulb = s.dryBulb := dryBulb_of_sensors hvsensors
  have hrecord : v.currentRecord = some r := (currentRecord_of_store hvstore).trans hr
  have hexits : v.exits r p = (s.onward r p).map (·, .own) := by
    rw [State.exits, onward_of_same (by rw [hvschedule]) hdry]
  have h := entersPath_enter hrecord (by rw [hvschedule, hm]; decide) hp .own
  rw [hexits] at h
  have htschedule : t.schedule = (enter p .own v).schedule := ht .schedule (by simp)
  have httrace : t.trace = (enter p .own v).trace := ht .trace (by simp)
  refine (h.after (fun hb => State.Writes.nil hb (by rw [hvtrace])) (fun _ => hvschedule) (fun _ => by rw [hvschedule]) hvclimate
    (by rw [hvschedule]) hdry (hv .straps (by simp)) fun c _ => by rw [hvattention]).of_target htschedule
    (ht .climate (by simp)) (by rw [httrace]) (ht .attention (by simp)) ?_
  exact shown_of_eq (by rw [htschedule]) (by rw [htschedule]) (ht .picture (by simp)) (ht .sensors (by simp)) (ht .straps (by simp))

/-- An entry to a position that no exit leaves at once is its own alone. -/
theorem pictureEnters_still {s v t : State} {r : ChargeRecord} {p : Position} (hr : s.currentRecord = some r)
    (hm : s.schedule.mode = .run) (hp : p ≠ .gather ∧ p ≠ .warmup ∧ p ≠ .condition ∧ p ≠ .cool)
    (hv : OnlyChanges [.readings, .picture] s v) (ht : OnlyChanges [.peers, .frontEnd] (enter p .own v) t) :
    EntersPath s t r [] [(p, .own)] := by
  have h := pictureEnters hr hm hp.1 hv ht
  have hexits : (s.onward r p).map (·, Cause.own) = [] := exits_of_still s r hp.2
  rwa [hexits] at h

/-- Settles O47: PICTURE SHORT, then the judgement of a SUFFICIENT picture by the position and its levels. -/
theorem pictureAdvancesStep : Obligations.PictureAdvancesStep := by
  intro s p hsweep hlen hp
  set v := pictured s with hv
  have hframe : OnlyChanges [.readings, .picture] s v := pictured_onlyChanges s
  have hvschedule : v.schedule = s.schedule := hframe .schedule (by simp)
  have hvclimate : v.climate = s.climate := hframe .climate (by simp)
  have hvtrace : v.trace = s.trace := hframe .trace (by simp)
  have hvattention : v.attention = s.attention := hframe .attention (by simp)
  have hvpicture : v.picture = some p := by rw [hp]; exact pictured_picture s
  have hvrecord : v.currentRecord = s.currentRecord := currentRecord_of_store (hframe .store (by simp))
  set t := leaveProbeSweep (writeOwnEntry (judgePicture (latchPictureShort v))) with ht
  have htframe : OnlyChanges [.peers, .frontEnd] (judgePicture (latchPictureShort v)) t := leave_onlyChanges _
  have htschedule : t.schedule = (judgePicture (latchPictureShort v)).schedule := htframe .schedule (by simp)
  have htclimate : t.climate = (judgePicture (latchPictureShort v)).climate := htframe .climate (by simp)
  have httrace : t.trace = (judgePicture (latchPictureShort v)).trace := htframe .trace (by simp)
  have htattention : t.attention = (judgePicture (latchPictureShort v)).attention := htframe .attention (by simp)
  refine ⟨t, exec_probeSweepComplete hsweep hlen, ?_, fun hnone => ?_, fun r hr => ?_⟩
  · have htpicture : t.picture = (judgePicture (latchPictureShort v)).picture := htframe .picture (by simp)
    rw [htpicture]
    simpa using hvpicture
  · have hjudge : judgePicture (latchPictureShort v) = v := by
      rw [latchPictureShort_of_none (hvrecord.trans hnone), judgePicture, hvrecord, hnone, hvpicture]
    rw [hjudge] at htschedule htclimate htattention httrace
    exact ⟨htschedule.trans hvschedule, htclimate.trans hvclimate, htattention.trans hvattention, httrace.trans hvtrace⟩
  · have hvr : v.currentRecord = some r := hvrecord.trans hr
    set u := latchPictureShort v with hu
    have hur : u.currentRecord = some r := by rw [hu]; simpa [State.currentRecord] using hvr
    have hup : u.picture = some p := by rw [hu]; simpa using hvpicture
    have huschedule : u.schedule = s.schedule := by rw [hu]; simpa using hvschedule
    have huclimate : u.climate = s.climate := by rw [hu]; simpa using hvclimate
    have hstill (h : s.schedule.mode ≠ .run ∨ p.sufficient = false
        ∨ ((∀ k, s.schedule.position ≠ .drying k) ∧ s.schedule.position ≠ .equalize)) :
        judgePicture u = u ∧ t.schedule = s.schedule ∧ t.climate = s.climate := by
      have hjudge := judgePicture_still hur hup (by rw [huschedule]; exact h)
      rw [hjudge] at htschedule htclimate
      exact ⟨hjudge, htschedule.trans huschedule, htclimate.trans huclimate⟩
    have hshort := latchPictureShort_eq hvr hvpicture
    rw [← hu, hvschedule] at hshort
    have hsame (hs : p.sufficient = true) : u = v := hshort.trans (if_neg fun ⟨hf, _⟩ => by rw [hs] at hf; cases hf)
    refine ⟨fun hs => ⟨(hstill (.inr (.inl hs))).2.1, (hstill (.inr (.inl hs))).2.2, fun hposition => ?_⟩, fun hcase => ?_,
      fun hm => (hstill (.inl hm)).2, fun hnd hne => (hstill (.inr (.inr ⟨hnd, hne⟩))).2,
      fun k st d c hposition hst hm hs hd hc => ?_, fun w hposition hm hs hw => ?_⟩
    · rw [htattention, (hstill (.inr (.inl hs))).1, hshort, if_pos ⟨hs, (judgesShort_iff _).2 hposition⟩]
      exact latch_latched _ _
    · obtain ⟨path, hpath⟩ := exists_enterAll_judgePicture u
      rw [htattention, hpath, enterAll_stamp path u (by decide) (by decide) (by decide), hshort, if_neg, hvattention]
      rintro ⟨hs, hposition⟩
      obtain hs' | ⟨hnd, hne⟩ := hcase
      · rw [hs] at hs'
        cases hs'
      · obtain ⟨k, hk⟩ | he := (judgesShort_iff _).1 hposition
        · exact hnd k hk
        · exact hne he
    · have huv := hsame hs
      have hjudge : judgePicture u = judgeDrying r p k v := by
        rw [huv]
        exact judgePicture_drying hvr hvpicture (by rw [hvschedule]; exact hm) hs (by rw [hvschedule]; exact hposition)
      rw [judgeDrying_eq hst hd hc, hvschedule] at hjudge
      refine ⟨fun hle => ?_, fun hlt hadvance htimer => ?_, fun hlt hwait => ?_⟩
      · rw [if_pos hle] at hjudge
        rw [hjudge] at htframe
        exact pictureEnters_still hr hm (by decide) hframe htframe
      · rw [if_neg (by omega), if_pos ⟨hadvance, htimer⟩] at hjudge
        rw [hjudge] at htframe
        refine pictureEnters_still hr hm ?_ hframe htframe
        split_ifs <;> simp
      · rw [if_neg (by omega), if_neg (by omega)] at hjudge
        rw [hjudge] at htschedule htclimate httrace
        exact ⟨htschedule.trans hvschedule, htclimate.trans hvclimate, httrace.trans hvtrace⟩
    · have huv := hsame hs
      have hjudge : judgePicture u = if w.mc ≤ r.finalTarget then enter .condition .own v else v := by
        rw [huv]
        exact judgePicture_equalize hvr hvpicture (by rw [hvschedule]; exact hm) hs (by rw [hvschedule]; exact hposition) hw
      refine ⟨fun hle => ?_, fun hlt => ?_⟩
      · rw [if_pos hle] at hjudge
        rw [hjudge] at htframe
        exact pictureEnters hr hm (by decide) hframe htframe
      · rw [if_neg (by omega)] at hjudge
        rw [hjudge] at htschedule htclimate httrace
        exact ⟨htschedule.trans hvschedule, htclimate.trans hvclimate, httrace.trans hvtrace⟩

end Sys2Proof.Machine
end

section
/-! The minute tick (R107, R109, R110, R114, R116, R119, R145, R170). -/

namespace Sys2Proof.Machine

/-! ## The parts of a tick -/

/-- The tick loaded again and the charge minute counted (R109, R110). -/
def State.atMinute (s : State) (minute : Nat) : State :=
  s.setSchedule { s.schedule with minute := minute, minuteTimer := 1152000 }

theorem countMinute_eq (s : State) :
    countMinute (s.setSchedule { s.schedule with minuteTimer := seconds 60 })
      = s.atMinute (if s.schedule.position = .idle then s.schedule.minute else min 65535 (s.schedule.minute + 1)) := by
  unfold countMinute
  by_cases h : s.schedule.position = .idle
  · rw [if_pos (show (s.setSchedule { s.schedule with minuteTimer := seconds 60 }).schedule.position = .idle from h), if_pos h]
    rfl
  · rw [if_neg (show ¬(s.setSchedule { s.schedule with minuteTimer := seconds 60 }).schedule.position = .idle from h), if_neg h]
    rfl

/-- The SNAPSHOT record of a tick that ends the snapshot timer (R170). -/
def snapshotsOf (s : State) : List TraceRecord :=
  if s.schedule.position ≠ .idle ∧ s.trace.snapshotTimer = 1 then [s.traceRecord .snapshot] else []

theorem tickSnapshot_still {s : State} (h : s.schedule.position = .idle) : tickSnapshot s = s := if_pos (.inl h)

theorem tickSnapshot_writes {s : State} (hs : s.RingBounded) : s.Writes (tickSnapshot s) (snapshotsOf s) := by
  unfold tickSnapshot snapshotsOf
  by_cases hp : s.schedule.position = .idle
  · rw [if_pos (.inl hp), if_neg (not_and_of_not_left _ (not_not_intro hp))]
    exact State.Writes.nil hs rfl
  · by_cases h1 : s.trace.snapshotTimer = 1
    · rw [if_neg (by simp [hp, h1]), if_pos h1, if_pos ⟨hp, h1⟩]
      exact (writeTrace_writes .snapshot hs).of_target (takeSnapshot_records s)
    · rw [if_neg (not_and_of_not_right _ h1), if_neg h1]
      split_ifs
      · exact State.Writes.nil hs rfl
      · exact State.Writes.nil hs rfl

theorem tickSnapshot_stamp (s : State) {c : Condition} (hc : c ≠ .traceOverrun) :
    (tickSnapshot s).attention.stamp c = s.attention.stamp c := by
  unfold tickSnapshot takeSnapshot
  split_ifs
  · rfl
  · exact writeTrace_stamp .snapshot s hc
  · rfl

theorem tickSnapshot_timer (s : State) : (tickSnapshot s).trace.snapshotTimer =
    if s.schedule.position = .idle then s.trace.snapshotTimer
    else if s.trace.snapshotTimer = 1 then (s.currentRecord.map (·.traceInterval)).getD 0
    else s.trace.snapshotTimer - 1 := by
  unfold tickSnapshot
  by_cases hp : s.schedule.position = .idle
  · rw [if_pos (.inl hp), if_pos hp]
  · rw [if_neg hp]
    by_cases h1 : s.trace.snapshotTimer = 1
    · rw [if_neg (by simp [hp, h1]), if_pos h1, if_pos h1, takeSnapshot_timer]
    · rw [if_neg h1, if_neg h1]
      split_ifs with h0
      · have := h0.resolve_left hp
        omega
      · rfl

/-! ## The step and overtime timers (R114, R116) -/

theorem tickStep_still {s : State} (h : ∀ st, s.currentStep = some st → st.basis = .minutes → s.schedule.mode ≠ .run) :
    tickStep s = s := by
  unfold tickStep
  split
  next st hst => exact if_neg fun hc => h st hst hc.1 hc.2
  next => rfl

theorem tickStep_run {s : State} {st : ScheduleStep} (hst : s.currentStep = some st) (hm : s.schedule.mode = .run) :
    tickStep s = s.setSchedule { s.schedule with
      stepTimer := if st.basis = .minutes then s.schedule.stepTimer - 1 else s.schedule.stepTimer } := by
  unfold tickStep
  rw [hst]
  by_cases hb : st.basis = .minutes
  · rw [if_pos hb]
    exact if_pos ⟨hb, hm⟩
  · rw [if_neg hb]
    exact if_neg fun hc => hb hc.1

theorem tickOvertime_still {s : State} (h : s.overtimeMaximum = none ∨ s.schedule.mode ≠ .run) : tickOvertime s = s := by
  unfold tickOvertime
  split
  next most hmost => exact if_neg fun hc => (h.resolve_left (by simp [hmost])) hc.1
  next => rfl

/-- The overtime count of a tick (R116). -/
def overtimed (s : State) : State :=
  s.setSchedule { s.schedule with overtime := if s.schedule.overtime < 10080 then s.schedule.overtime + 1 else s.schedule.overtime }

theorem tickOvertime_run {s : State} {most : Nat} (hmost : s.overtimeMaximum = some most) (hm : s.schedule.mode = .run) :
    tickOvertime s =
      if most ≠ 0 ∧ s.schedule.overtime + 1 = most ∧ s.schedule.overtime < 10080 then latch .stepOvertime (overtimed s)
      else overtimed s := by
  unfold tickOvertime overtimed
  rw [hmost]
  dsimp only
  by_cases htop : s.schedule.overtime < 10080
  · rw [if_pos ⟨hm, htop⟩, if_pos htop]
    by_cases hlimit : most ≠ 0 ∧ s.schedule.overtime + 1 = most
    · rw [if_pos hlimit, if_pos ⟨hlimit.1, hlimit.2, htop⟩]
    · rw [if_neg hlimit, if_neg fun hc => hlimit ⟨hc.1, hc.2.1⟩]
  · rw [if_neg fun hc => htop hc.2, if_neg htop, if_neg fun hc => htop hc.2.2]
    rfl

/-- The overtime timer counts, with the condition at the limit, or stands. -/
theorem tickOvertime_cases (s : State) :
    tickOvertime s = s ∨ tickOvertime s = overtimed s ∨ tickOvertime s = latch .stepOvertime (overtimed s) := by
  by_cases hm : s.schedule.mode = .run
  · cases hmost : s.overtimeMaximum with
    | none => exact .inl (tickOvertime_still (.inl hmost))
    | some most =>
      rw [tickOvertime_run hmost hm]
      split_ifs
      · exact .inr (.inr rfl)
      · exact .inr (.inl rfl)
  · exact .inl (tickOvertime_still (.inr hm))

/-- The CONDITION record of a STEP OVERTIME that a state has newly latched (R159). -/
def overtimeRecords (s t : State) (x : TraceRecord) : List TraceRecord :=
  if s.attention.stamp .stepOvertime = none ∧ t.attention.stamp .stepOvertime ≠ none then [x] else []

theorem tickOvertime_writes {s : State} (hs : s.RingBounded) :
    s.Writes (tickOvertime s) (overtimeRecords s (tickOvertime s) (s.traceRecord (.condition .stepOvertime))) := by
  unfold overtimeRecords
  obtain h | h | h := tickOvertime_cases s <;> rw [h]
  · rw [if_neg fun hc => hc.2 hc.1]
    exact State.Writes.nil hs rfl
  · rw [if_neg fun hc => hc.2 hc.1]
    exact State.Writes.nil hs rfl
  · have hw := (latch_writes .stepOvertime (s := overtimed s) hs).of_source (s := s) rfl
    rw [latch_stamp_self _ _ (by decide)]
    by_cases hn : s.attention.stamp .stepOvertime = none
    · rw [if_pos ⟨by decide, hn⟩] at hw
      rw [if_pos ⟨hn, by rw [if_pos (show (overtimed s).attention.stamp .stepOvertime = none from hn)]; nofun⟩]
      exact hw
    · rw [if_neg fun hc => hn hc.2] at hw
      rw [if_neg fun hc => hn hc.1]
      exact hw

theorem tickOvertime_stamp (s : State) {c : Condition} (h1 : c ≠ .stepOvertime) (ho : c ≠ .traceOverrun) :
    (tickOvertime s).attention.stamp c = s.attention.stamp c := by
  obtain h | h | h := tickOvertime_cases s <;> rw [h]
  · rfl
  · exact latch_stamp_ne _ _ h1 ho

theorem tickOvertime_snapshot (s : State) : (tickOvertime s).trace.snapshotTimer = s.trace.snapshotTimer := by
  obtain h | h | h := tickOvertime_cases s <;> rw [h]
  · rfl
  · exact latch_snapshot _ _

/-! ## The condition timer (R119) -/

/-- The condition timer counted down in CONDITION in RUN. -/
def lowered (s : State) : State :=
  s.setSchedule { s.schedule with
    conditionTimer := if s.runningAt .condition then s.schedule.conditionTimer - 1 else s.schedule.conditionTimer }

/-- The entries of a tick at which the condition timer ends. -/
def tickExits (s : State) : List (Position × Cause) :=
  if s.runningAt .condition = true ∧ s.schedule.conditionTimer = 1 then
    (.cool, .own) :: (match s.currentRecord with | some r => s.exits r .cool | none => [])
  else []

theorem testCool_of_none {s : State} (h : s.currentRecord = none) : testCool s = s := by
  refine if_neg ?_
  simp [State.coolMet, h]

theorem tickCondition_eq (s : State) : tickCondition s = enterAll (tickExits s) (lowered s) := by
  unfold tickCondition tickExits
  by_cases hrun : s.runningAt .condition = true
  · obtain ⟨hm, hp⟩ := (runningAt_iff s _).1 hrun
    have hlowered : lowered s = s.setSchedule { s.schedule with conditionTimer := s.schedule.conditionTimer - 1 } := by
      rw [lowered, if_pos hrun]
    by_cases h0 : s.schedule.conditionTimer = 0
    · have hsame : s.schedule.conditionTimer - 1 = s.schedule.conditionTimer := by omega
      rw [if_neg (by simp [h0]), if_neg (by omega), hlowered, hsame]
      rfl
    · rw [if_pos (by simp [hrun]; omega), ← hlowered]
      by_cases h1 : s.schedule.conditionTimer = 1
      · rw [if_pos ⟨hrun, h1⟩]
        have hlow : (lowered s).schedule.conditionTimer = 0 := by rw [hlowered]; simp [h1]
        cases hr : s.currentRecord with
        | none =>
          refine (if_pos (by rw [Bool.and_eq_true]; exact ⟨hrun, by simp [hlow]⟩)).trans ?_
          rw [testCool_of_none (by simpa [State.currentRecord, lowered] using hr)]
          rfl
        | some r =>
          rw [testCondition_eq (s := lowered s) hr hp, if_pos ⟨hm, hlow⟩]
          rfl
      · rw [if_neg (fun hc => h1 hc.2)]
        refine if_neg ?_
        rw [Bool.and_eq_true, beq_iff_eq, hlowered]
        rintro ⟨-, hz⟩
        have hz : s.schedule.conditionTimer - 1 = 0 := hz
        omega
  · rw [if_neg (by simp [hrun]), if_neg (fun hc => hrun hc.1), lowered, if_neg hrun]
    rfl

/-! ## The ramp (R145) -/

theorem setpointRamp_still {s : State} (h : s.schedule.mode ≠ .run ∨ s.schedule.position.isLoop = false
    ∨ s.climate.spActive = none) : setpointRamp s = s := by
  unfold setpointRamp
  split
  next r sp target hr hsp htarget =>
    refine if_neg fun hc => ?_
    obtain hm | hloop | hnone := h
    · exact hm hc.2
    · rw [hc.1] at hloop
      cases hloop
    · rw [hsp] at hnone
      cases hnone
  next => rfl

theorem setpointRamp_run {s : State} {r : ChargeRecord} {sp target : Int} (hr : s.currentRecord = some r)
    (hm : s.schedule.mode = .run) (hloop : s.schedule.position.isLoop = true) (hsp : s.climate.spActive = some sp)
    (htarget : s.climate.targetDry = some target) :
    (setpointRamp s).climate = { s.climate with spActive := some (rampToward sp target r.rampRate) } := by
  unfold setpointRamp
  rw [hr, hsp, htarget]
  dsimp only
  rw [if_pos ⟨hloop, hm⟩]
  rfl

/-- The ramp reaches the target or moves toward it by the rate (R145). -/
theorem rampToward_spec (sp target : Int) {rate : Int} (hrate : 0 ≤ rate) :
    (target = rampToward sp target rate
        ∨ sp < target ∧ rampToward sp target rate = sp + rate ∧ rampToward sp target rate < target
        ∨ target < sp ∧ rampToward sp target rate = sp - rate ∧ target < rampToward sp target rate)
      ∧ rampToward sp target rate ≤ sp + rate ∧ sp - rate ≤ rampToward sp target rate := by
  unfold rampToward
  split_ifs <;> omega

/-! ## The state of a tick before the condition timer -/

theorem tickStep_schedule (s : State) :
    (tickStep s).schedule = { s.schedule with stepTimer := (tickStep s).schedule.stepTimer } := by
  unfold tickStep
  split
  · split_ifs <;> rfl
  · rfl

theorem tickOvertime_schedule (s : State) :
    (tickOvertime s).schedule = { s.schedule with overtime := (tickOvertime s).schedule.overtime } := by
  obtain h | h | h := tickOvertime_cases s <;> rw [h]
  · rfl
  · simp [overtimed]

/-- The state of a tick whose minute, snapshot, step and overtime timers have counted. -/
def tickCounted (s : State) (minute : Nat) : State := tickOvertime (tickStep (tickSnapshot (s.atMinute minute)))

theorem minuteTick_eq (s : State) {minute : Nat}
    (h : minute = if s.schedule.position = .idle then s.schedule.minute else min 65535 (s.schedule.minute + 1)) :
    minuteTick s = setpointRamp (enterAll (tickExits (tickCounted s minute)) (lowered (tickCounted s minute))) := by
  rw [minuteTick, countMinute_eq, ← h, tickCondition_eq]
  rfl

section
variable (s : State) (minute : Nat)

theorem tickCounted_schedule : (tickCounted s minute).schedule =
    { s.schedule with
      minute := minute, minuteTimer := 1152000, stepTimer := (tickCounted s minute).schedule.stepTimer
      overtime := (tickCounted s minute).schedule.overtime } := by
  have hsnapshot : (tickSnapshot (s.atMinute minute)).schedule = (s.atMinute minute).schedule := by simp
  rw [tickCounted, tickOvertime_schedule, tickStep_schedule, hsnapshot]
  rfl

theorem tickCounted_onlyChanges : OnlyChanges [.schedule, .trace, .attention] s (tickCounted s minute) := by
  simp [onlyChanges_iff, tickCounted, State.atMinute]

theorem tickCounted_stamp {c : Condition} (h1 : c ≠ .stepOvertime) (ho : c ≠ .traceOverrun) :
    (tickCounted s minute).attention.stamp c = s.attention.stamp c := by
  have hstep : (tickStep (tickSnapshot (s.atMinute minute))).attention = (tickSnapshot (s.atMinute minute)).attention := by simp
  rw [tickCounted, tickOvertime_stamp _ h1 ho, hstep, tickSnapshot_stamp _ ho]
  rfl

theorem tickCounted_shown : (tickCounted s minute).shown = (s.atMinute minute).shown := by
  have hschedule := tickCounted_schedule s minute
  have hframe := tickCounted_onlyChanges s minute
  refine shown_of_eq ?_ ?_ (hframe .picture (by simp)) (hframe .sensors (by simp)) (hframe .straps (by simp))
  · rw [hschedule]; rfl
  · rw [hschedule]; rfl

theorem tickCounted_snapshot : (tickCounted s minute).trace.snapshotTimer =
    if s.schedule.position = .idle then s.trace.snapshotTimer
    else if s.trace.snapshotTimer = 1 then (s.currentRecord.map (·.traceInterval)).getD 0
    else s.trace.snapshotTimer - 1 := by
  have hstep : (tickStep (tickSnapshot (s.atMinute minute))).trace = (tickSnapshot (s.atMinute minute)).trace := by simp
  rw [tickCounted, tickOvertime_snapshot, hstep, tickSnapshot_timer]
  rfl

theorem tickCounted_writes (hs : s.RingBounded) :
    s.Writes (tickCounted s minute) (snapshotsOf (s.atMinute minute)
      ++ overtimeRecords s (tickCounted s minute) { s.traceRecord (.condition .stepOvertime) with minute := minute }) := by
  set u := tickSnapshot (s.atMinute minute) with hu
  have hfirst := (tickSnapshot_writes (s := s.atMinute minute) hs).of_source (s := s) rfl
  have hvtrace : (tickStep u).trace = u.trace := by simp
  have hvattention : (tickStep u).attention = u.attention := by simp
  have hvbounded : (tickStep u).RingBounded := by
    unfold State.RingBounded
    rw [hvtrace]
    exact hfirst.bounded
  have hrecord : (tickStep u).traceRecord (.condition .stepOvertime)
      = { s.traceRecord (.condition .stepOvertime) with minute := minute } := by
    have hschedule : (tickStep u).schedule = { (s.atMinute minute).schedule with stepTimer := (tickStep u).schedule.stepTimer } := by
      have husame : u.schedule = (s.atMinute minute).schedule := by simp [hu]
      rw [tickStep_schedule, husame]
    have hshown : (tickStep u).shown = (s.atMinute minute).shown :=
      shown_of_eq (by rw [hschedule]) (by rw [hschedule]) (by simp [hu]) (by simp [hu]) (by simp [hu])
    exact traceRecord_eq hshown (by rw [hschedule]) _
  have hsecond := (tickOvertime_writes hvbounded).of_source (s := u) (by rw [hvtrace])
  have hstamp : u.attention.stamp .stepOvertime = s.attention.stamp .stepOvertime := tickSnapshot_stamp _ (by decide)
  rw [hrecord, overtimeRecords, hvattention, hstamp] at hsecond
  exact hfirst.trans hsecond

end

/-- Where neither timer counts, the tick leaves the state of the snapshot timer. -/
theorem tickCounted_still {s : State} (minute : Nat)
    (h : s.schedule.mode ≠ .run ∨ (∀ k, s.schedule.position ≠ .drying k) ∧ s.schedule.position ≠ .equalize) :
    tickCounted s minute = tickSnapshot (s.atMinute minute) := by
  set u := tickSnapshot (s.atMinute minute) with hu
  have hschedule : u.schedule = (s.atMinute minute).schedule := by simp [hu]
  have hm (hm : s.schedule.mode ≠ .run) : u.schedule.mode ≠ .run := by rw [hschedule]; exact hm
  have hstep : tickStep u = u := by
    obtain hmode | ⟨hnd, -⟩ := h
    · exact tickStep_still fun _ _ _ => hm hmode
    · refine tickStep_still fun st hst => ?_
      rw [currentStep_none (by rw [hschedule]; exact hnd)] at hst
      cases hst
  rw [tickCounted, ← hu, hstep]
  refine tickOvertime_still ?_
  obtain hmode | ⟨hnd, hne⟩ := h
  · exact .inr (hm hmode)
  · refine .inl ?_
    have hposition : u.schedule.position = s.schedule.position := by rw [hschedule]; rfl
    unfold State.overtimeMaximum
    rw [hposition]
    cases hp : s.schedule.position with
    | drying k => exact absurd hp (hnd k)
    | equalize => exact absurd hp hne
    | _ => rfl

/-- The stamp of STEP OVERTIME after a tick with a maximum that applies (R116, R158). -/
theorem overtime_stamp {s u : State} {most : Nat} (minute : Nat) (hmost : u.overtimeMaximum = some most)
    (hm : u.schedule.mode = .run) (hovertime : u.schedule.overtime = s.schedule.overtime) (hminute : u.schedule.minute = minute)
    (hstamp : u.attention.stamp .stepOvertime = s.attention.stamp .stepOvertime) :
    (tickOvertime u).attention.stamp .stepOvertime =
      if most ≠ 0 ∧ s.schedule.overtime + 1 = most ∧ s.schedule.overtime < 10080 then
        some ((s.attention.stamp .stepOvertime).getD minute)
      else s.attention.stamp .stepOvertime := by
  rw [tickOvertime_run hmost hm, hovertime]
  split_ifs
  · rw [latch_stamp_self _ _ (by decide)]
    change (if u.attention.stamp .stepOvertime = none then some u.schedule.minute else u.attention.stamp .stepOvertime) = _
    rw [hstamp, hminute]
    cases s.attention.stamp .stepOvertime <;> rfl
  · exact hstamp

theorem overtime_count {s u : State} {most : Nat} (hmost : u.overtimeMaximum = some most) (hm : u.schedule.mode = .run)
    (hovertime : u.schedule.overtime = s.schedule.overtime) :
    (tickOvertime u).schedule.overtime =
      if s.schedule.overtime < 10080 then s.schedule.overtime + 1 else s.schedule.overtime := by
  rw [tickOvertime_run hmost hm, ← hovertime]
  split_ifs <;> simp_all [overtimed]

/-! ## The tick whole -/

theorem enterAll_minuteTimer (path : List (Position × Cause)) (s : State) :
    (enterAll path s).schedule.minuteTimer = s.schedule.minuteTimer := by
  induction path generalizing s with
  | nil => rfl
  | cons x rest ih => exact (ih _).trans (by simp [entrySchedule])

section
variable (s : State) (minute : Nat)

/-- The state of a tick before the entries that the condition timer's end makes. -/
def tickLowered : State := lowered (tickCounted s minute)

theorem tickCounted_running : (tickCounted s minute).runningAt .condition = s.runningAt .condition := by
  rw [Bool.eq_iff_iff, runningAt_iff, runningAt_iff, tickCounted_schedule]

theorem tickLowered_schedule : (tickLowered s minute).schedule =
    { s.schedule with
      minute := minute, minuteTimer := 1152000, stepTimer := (tickCounted s minute).schedule.stepTimer
      overtime := (tickCounted s minute).schedule.overtime
      conditionTimer := if s.runningAt .condition then s.schedule.conditionTimer - 1 else s.schedule.conditionTimer } := by
  unfold tickLowered lowered
  rw [tickCounted_running, State.setSchedule_schedule, tickCounted_schedule]

theorem tickLowered_onlyChanges : OnlyChanges [.schedule, .trace, .attention] s (tickLowered s minute) := by
  simp [onlyChanges_iff, tickLowered, lowered, tickCounted, State.atMinute]

theorem tickLowered_shown : (tickLowered s minute).shown = (s.atMinute minute).shown := tickCounted_shown s minute

theorem tickExits_eq {r : ChargeRecord} (hr : s.currentRecord = some r) : tickExits (tickCounted s minute) =
    if s.schedule.mode = .run ∧ s.schedule.position = .condition ∧ s.schedule.conditionTimer = 1 then
      (.cool, .own) :: (s.onward r .cool).map (·, .own)
    else [] := by
  have hframe := tickCounted_onlyChanges s minute
  have hrecord : (tickCounted s minute).currentRecord = some r :=
    (currentRecord_of_store (hframe .store (by simp))).trans hr
  have htimer : (tickCounted s minute).schedule.conditionTimer = s.schedule.conditionTimer := by rw [tickCounted_schedule]
  have honward : (tickCounted s minute).exits r .cool = (s.onward r .cool).map (·, .own) := by
    rw [State.exits, onward_of_same (by rw [tickCounted_schedule]) (dryBulb_of_sensors (hframe .sensors (by simp)))]
  unfold tickExits
  rw [tickCounted_running, htimer, hrecord]
  simp only [runningAt_iff, and_assoc, honward]

theorem tickExits_nil (h : s.schedule.mode ≠ .run ∨ s.schedule.position ≠ .condition ∨ s.schedule.conditionTimer ≠ 1) :
    tickExits (tickCounted s minute) = [] := by
  have htimer : (tickCounted s minute).schedule.conditionTimer = s.schedule.conditionTimer := by rw [tickCounted_schedule]
  refine if_neg ?_
  rw [tickCounted_running, runningAt_iff, htimer]
  tauto

/-- What every tick does (R107, R109, R110, R159, R170). -/
structure Ticked (t : State) : Prop where
  path : t = setpointRamp (enterAll (tickExits (tickCounted s minute)) (tickLowered s minute))
  schedule : t.schedule = (enterAll (tickExits (tickCounted s minute)) (tickLowered s minute)).schedule
  attention : t.attention = (enterAll (tickExits (tickCounted s minute)) (tickLowered s minute)).attention
  shown : t.shown = (s.atMinute minute).shown
  stamp : t.attention.stamp .stepOvertime = (tickCounted s minute).attention.stamp .stepOvertime
  snapshot : t.trace.snapshotTimer = (tickCounted s minute).trace.snapshotTimer
  writes : s.RingBounded → s.Writes t (snapshotsOf (s.atMinute minute)
    ++ (overtimeRecords s t { s.traceRecord (.condition .stepOvertime) with minute := minute }
      ++ pathRecords s t s.schedule.position [] [] (tickExits (tickCounted s minute))))

theorem minuteTick_ticked
    (h : minute = if s.schedule.position = .idle then s.schedule.minute else min 65535 (s.schedule.minute + 1)) :
    Ticked s minute (minuteTick s) := by
  set path := tickExits (tickCounted s minute) with hpath
  set u := tickLowered s minute with hu
  have ht : minuteTick s = setpointRamp (enterAll path u) := minuteTick_eq s h
  have hschedule : (minuteTick s).schedule = (enterAll path u).schedule := by rw [ht]; simp
  have hattention : (minuteTick s).attention = (enterAll path u).attention := by rw [ht]; simp
  have htrace : (minuteTick s).trace = (enterAll path u).trace := by rw [ht]; simp
  have hshown : (minuteTick s).shown = u.shown := by
    refine Eq.trans ?_ (enterAll_shown path u)
    exact shown_of_eq (by rw [hschedule]) (by rw [hschedule]) (by rw [ht]; simp) (by rw [ht]; simp) (by rw [ht]; simp)
  have hstamp : (minuteTick s).attention.stamp .stepOvertime = (tickCounted s minute).attention.stamp .stepOvertime := by
    rw [hattention, enterAll_stamp path u (by decide) (by decide) (by decide)]
    rfl
  refine ⟨ht, hschedule, hattention, hshown.trans (tickLowered_shown s minute), hstamp, ?_, fun hb => ?_⟩
  · rw [htrace, enterAll_snapshot]
    rfl
  · have hfirst := tickCounted_writes s minute hb
    have hsecond := (enterAll_writes (s := s) (t := minuteTick s) path (u := u) (done := []) hfirst.bounded hshown fun c hc => by
      have hc' : c ≠ .stepOvertime ∧ c ≠ .traceOverrun := by
        simp only [List.mem_cons, List.not_mem_nil, or_false] at hc
        obtain rfl | rfl := hc <;> decide
      have hsame : u.attention.stamp c = s.attention.stamp c := tickCounted_stamp s minute hc'.1 hc'.2
      simp [hsame]).of_target (t' := minuteTick s) (by rw [htrace])
    have hposition : u.schedule.position = s.schedule.position := by rw [hu, tickLowered_schedule]
    rw [hposition] at hsecond
    have hall := hfirst.trans hsecond
    rw [List.append_assoc] at hall
    unfold overtimeRecords at hall ⊢
    rwa [hstamp]

theorem minuteTick_onlyChanges : OnlyChanges [.schedule, .climate, .trace, .attention] s (minuteTick s) := by
  simp [onlyChanges_iff]

end

section
variable {s t : State} {minute : Nat} (h : Ticked s minute t)
include h

/-- A tick without an entry keeps the climate controller but for the ramp. -/
theorem Ticked.climate_still (hnil : tickExits (tickCounted s minute) = [])
    (hstill : s.schedule.mode ≠ .run ∨ s.schedule.position.isLoop = false ∨ s.climate.spActive = none) :
    t.climate = s.climate := by
  have hclimate : (tickLowered s minute).climate = s.climate := tickLowered_onlyChanges s minute .climate (by simp)
  rw [h.path, hnil, enterAll, setpointRamp_still, hclimate]
  rw [hclimate, tickLowered_schedule]
  exact hstill

theorem Ticked.schedule_still (hnil : tickExits (tickCounted s minute) = []) : t.schedule = (tickLowered s minute).schedule := by
  rw [h.schedule, hnil]
  rfl

end

theorem overtimeRecords_of_same {s t : State} (x : TraceRecord)
    (h : t.attention.stamp .stepOvertime = s.attention.stamp .stepOvertime) : overtimeRecords s t x = [] := by
  refine if_neg ?_
  rw [h]
  exact fun hc => hc.2 hc.1

/-- A tick outside DRYING and EQUALIZE, or outside RUN, latches no STEP OVERTIME. -/
theorem Ticked.overtime_still {s t : State} {minute : Nat} (h : Ticked s minute t)
    (hstill : s.schedule.mode ≠ .run ∨ (∀ k, s.schedule.position ≠ .drying k) ∧ s.schedule.position ≠ .equalize) :
    t.attention.stamp .stepOvertime = s.attention.stamp .stepOvertime := by
  rw [h.stamp, tickCounted_still minute hstill, tickSnapshot_stamp _ (by decide)]
  rfl

theorem tickLowered_still {s : State} (minute : Nat)
    (h : s.schedule.mode ≠ .run ∨ (∀ k, s.schedule.position ≠ .drying k) ∧ s.schedule.position ≠ .equalize) :
    (tickLowered s minute).schedule =
      { s.schedule with
        minute := minute, minuteTimer := 1152000
        conditionTimer := if s.runningAt .condition then s.schedule.conditionTimer - 1 else s.schedule.conditionTimer } := by
  have hsame : (tickSnapshot (s.atMinute minute)).schedule = (s.atMinute minute).schedule := by simp
  rw [tickLowered_schedule, tickCounted_still minute h, hsame]
  rfl

/-- The tick in a position with an overtime timer, in RUN (R114, R116). -/
theorem Ticked.counts {s t : State} {minute most : Nat} (h : Ticked s minute t) (hm : s.schedule.mode = .run)
    (hcondition : s.schedule.position ≠ .condition) {v : State} (hv : v = tickStep (tickSnapshot (s.atMinute minute)))
    (hmost : v.overtimeMaximum = some most) :
    t.schedule =
        { s.schedule with
          minute := minute, minuteTimer := 1152000, stepTimer := v.schedule.stepTimer
          overtime := if s.schedule.overtime < 10080 then s.schedule.overtime + 1 else s.schedule.overtime }
      ∧ t.attention.stamp .stepOvertime =
        if most ≠ 0 ∧ s.schedule.overtime + 1 = most ∧ s.schedule.overtime < 10080 then
          some ((s.attention.stamp .stepOvertime).getD minute)
        else s.attention.stamp .stepOvertime := by
  have husame : (tickSnapshot (s.atMinute minute)).schedule = (s.atMinute minute).schedule := by simp
  have hvschedule : v.schedule = { (s.atMinute minute).schedule with stepTimer := v.schedule.stepTimer } := by
    rw [hv, tickStep_schedule, husame]
  have hvattention : v.attention.stamp .stepOvertime = s.attention.stamp .stepOvertime := by
    have : v.attention = (tickSnapshot (s.atMinute minute)).attention := by simp [hv]
    rw [this, tickSnapshot_stamp _ (by decide)]
    rfl
  have hcounted : tickCounted s minute = tickOvertime v := by rw [hv]; rfl
  have hovertime : v.schedule.overtime = s.schedule.overtime := by rw [hvschedule]; rfl
  have hvm : v.schedule.mode = .run := by rw [hvschedule]; exact hm
  have hstep : (tickOvertime v).schedule.stepTimer = v.schedule.stepTimer := by rw [tickOvertime_schedule]
  constructor
  · rw [h.schedule_still (tickExits_nil s minute (.inr (.inl hcondition))), tickLowered_schedule,
      if_neg (fun hc => hcondition ((runningAt_iff s _).1 hc).2), hcounted, overtime_count hmost hvm hovertime, hstep]
  · rw [h.stamp, hcounted, overtime_stamp minute hmost hvm hovertime (by rw [hvschedule]; rfl) hvattention]

theorem onward_cool_cases (s : State) (r : ChargeRecord) : s.onward r .cool = [] ∨ s.onward r .cool = [.complete] := by
  unfold State.onward
  dsimp only
  split_ifs
  · cases s.dryBulb with
    | none => exact .inl rfl
    | some db =>
      dsimp only
      split_ifs
      · exact .inr rfl
      · exact .inl rfl
  · exact .inl rfl

/-- The end of the condition timer at a tick: COOL, and COMPLETE where the cool exit is met (R119, R120). -/
theorem Ticked.cools {s t : State} {minute : Nat} (h : Ticked s minute t) {r : ChargeRecord} (hr : s.currentRecord = some r)
    (hm : s.schedule.mode = .run) (hp : s.schedule.position = .condition) (htimer : s.schedule.conditionTimer = 1)
    {path : List (Position × Cause)} (hpath : path = (.cool, .own) :: (s.onward r .cool).map (·, .own)) :
    t.attention.latched .phaseEntered = true
      ∧ ∀ x, path.getLast? = some x →
        t.schedule = { s.schedule.entered r x.1 with minute := minute, minuteTimer := 1152000 } ∧ ClimateEntered s t r x.1 := by
  set u := tickLowered s minute with hu
  have huschedule := tickLowered_still minute (s := s) (.inr ⟨fun k => by rw [hp]; nofun, by rw [hp]; decide⟩)
  rw [← hu] at huschedule
  have hframe := tickLowered_onlyChanges s minute
  rw [← hu] at hframe
  have hexits : tickExits (tickCounted s minute) = path := by
    rw [tickExits_eq s minute hr, if_pos ⟨hm, hp, htimer⟩, hpath]
  have hur : u.currentRecord = some r := (currentRecord_of_store (hframe .store (by simp))).trans hr
  have honward : u.exits r .cool = (s.onward r .cool).map (·, .own) := by
    rw [State.exits, onward_of_same (by rw [huschedule]) (dryBulb_of_sensors (hframe .sensors (by simp)))]
  have henters : EntersPath u (enterAll path u) r [] path := by
    rw [hpath, ← honward]
    exact entersPath_enterAll .cool .own _ hur (by rw [huschedule]; exact fun hc => by rw [hm] at hc; cases hc) eventOrdered_nil
      (.inr (by simp)) (steadyPath_exits u u r .cool)
  obtain ⟨hschedule, hclimate, -, hlatches⟩ := henters
  have htschedule := h.schedule
  rw [hexits, ← hu] at htschedule
  constructor
  · rw [h.attention, hexits, ← hu]
    refine hlatches (.cool, .own) (by rw [hpath]; rfl) .phaseEntered ?_
    have hposition : u.schedule.position = .condition := by rw [huschedule]; exact hp
    rw [hposition]
    simp [entryLatches]
  · intro x hx
    have hentered : t.schedule = u.schedule.entered r x.1 := by rw [htschedule, hschedule, hx]
    have hclimate' := climateEntered_congr (hclimate x hx) (s := s) (hframe .climate (by simp)) (by rw [huschedule])
      (dryBulb_of_sensors (hframe .sensors (by simp))) (hframe .straps (by simp))
    have hlast : x.1 = .cool ∨ x.1 = .complete := by
      subst hpath
      obtain hnil | hone := onward_cool_cases s r
      · rw [hnil] at hx
        cases hx
        exact .inl rfl
      · rw [hone] at hx
        cases hx
        exact .inr rfl
    have hramp : t.climate = (enterAll path u).climate := by
      rw [h.path, hexits, ← hu, setpointRamp_still]
      refine .inr (.inl ?_)
      rw [← htschedule, hentered]
      obtain hx1 | hx1 := hlast <;> rw [hx1] <;> rfl
    refine ⟨by rw [hentered, huschedule]; rfl, ?_⟩
    unfold ClimateEntered LoopEntered at *
    rwa [hramp]

theorem not_running_condition {s : State} (h : s.schedule.mode ≠ .run ∨ s.schedule.position ≠ .condition) :
    ¬s.runningAt .condition = true := fun hc =>
  h.elim (fun hm => hm ((runningAt_iff s _).1 hc).1) fun hp => hp ((runningAt_iff s _).1 hc).2

/-- Settles O44: the tick's parts in order, each where the mode and the position let it count. -/
theorem minuteTickCounts : Obligations.MinuteTickCounts := by
  intro s minute hminute
  have h := minuteTick_ticked s minute hminute
  set t := minuteTick s with ht
  have hmode : t.schedule.mode = s.schedule.mode := mode_of_shown (s := s.atMinute minute) h.shown
  have hcount : t.schedule.minute = minute := congrArg Prod.fst h.shown
  have htimer : t.schedule.minuteTimer = 1152000 := by
    rw [h.schedule, enterAll_minuteTimer, tickLowered_schedule]
  have hsnap : t.trace.snapshotTimer = _ := h.snapshot.trans (tickCounted_snapshot s minute)
  refine ⟨t, overtimeRecords s t { s.traceRecord (.condition .stepOvertime) with minute := minute }
      ++ pathRecords s t s.schedule.position [] [] (tickExits (tickCounted s minute)), snapshotsOf (s.atMinute minute), rfl,
    htimer, hcount, hmode, minuteTick_onlyChanges s, fun hcase => ?_, fun hcase => ?_, fun hidle => ?_, fun hb => ?_, fun hcase => ?_,
    fun hp h1 => ?_, fun r hr hm => ⟨fun k st hp hst => ?_, fun hp => ?_, fun hp => ⟨fun hne => ?_, fun h1 path hpath => ?_⟩,
      fun hcase hsp => ?_, fun sp target hloop hcase hsp htarget => ?_⟩⟩
  · have hother : s.schedule.mode ≠ .run
        ∨ ((∀ k, s.schedule.position ≠ .drying k) ∧ s.schedule.position ≠ .equalize) ∧ s.schedule.position ≠ .condition := by
      refine hcase.imp_right fun hmem => ?_
      simp only [List.mem_cons, List.not_mem_nil, or_false] at hmem
      obtain hp | hp | hp | hp | hp := hmem <;> rw [hp] <;> exact ⟨⟨nofun, nofun⟩, nofun⟩
    have hnil := tickExits_nil s minute (hother.imp_right fun hp => .inl hp.2)
    have hstill := hother.imp_right And.left
    rw [h.schedule_still hnil, tickLowered_still minute hstill, if_neg (not_running_condition (hother.imp_right And.right)),
      overtimeRecords_of_same _ (h.overtime_still hstill), hnil]
    exact ⟨rfl, rfl⟩
  · refine h.climate_still (tickExits_nil s minute (hcase.imp_right fun hloop => .inl fun hp => ?_)) (hcase.imp_right .inl)
    rw [hp] at hloop
    cases hloop
  · have hnil := tickExits_nil s minute (.inr (.inl (by rw [hidle]; decide)))
    have hsnapshot : tickSnapshot (s.atMinute minute) = s.atMinute minute := tickSnapshot_still hidle
    have hcounted : tickCounted s minute = s.atMinute minute :=
      (tickCounted_still minute (.inr ⟨fun k => by rw [hidle]; nofun, by rw [hidle]; decide⟩)).trans hsnapshot
    have hrun : t = setpointRamp (lowered (s.atMinute minute)) := by
      rw [h.path, hnil, tickLowered, hcounted]
      rfl
    rw [hrun]
    exact ⟨by simp [lowered, State.atMinute], by simp [lowered, State.atMinute]⟩
  · exact ⟨[], _, rfl, by rw [List.nil_append]; exact h.writes hb⟩
  · rw [hsnap]
    refine ⟨?_, if_neg fun hc => hcase.elim hc.1 fun hne => hne hc.2⟩
    obtain hp | h1 := hcase
    · rw [if_pos hp, if_pos hp]
    · rw [if_neg h1]
  · rw [hsnap, if_neg hp, if_pos h1]
    refine ⟨fun r hr => by rw [hr]; rfl, s.schedule.position, if_pos ⟨hp, h1⟩, .inl rfl⟩
  · have hvm : (tickSnapshot (s.atMinute minute)).schedule = (s.atMinute minute).schedule := by simp
    have hvr : (tickSnapshot (s.atMinute minute)).currentRecord = some r := by simpa [State.currentRecord, State.atMinute] using hr
    have hrun := tickStep_run (s := tickSnapshot (s.atMinute minute))
      ((currentStep_eq (by rw [hvm]; exact hp) hvr).trans hst) (by rw [hvm]; exact hm)
    obtain ⟨hschedule, hstamp⟩ := h.counts hm (by rw [hp]; nofun) rfl (most := st.maximum)
      (overtimeMaximum_eq (r := r) (by rw [hrun]; exact hvr) (.inl ⟨k, st, by rw [hrun, hvm]; exact hp, hst, rfl⟩))
    rw [hrun, hvm] at hschedule
    refine ⟨hschedule, hstamp, ?_⟩
    rw [tickExits_nil s minute (.inr (.inl (by rw [hp]; nofun))), pathRecords, List.append_nil]
    rfl
  · have hvm : (tickSnapshot (s.atMinute minute)).schedule = (s.atMinute minute).schedule := by simp
    have hvr : (tickSnapshot (s.atMinute minute)).currentRecord = some r := by simpa [State.currentRecord, State.atMinute] using hr
    have hrun : tickStep (tickSnapshot (s.atMinute minute)) = tickSnapshot (s.atMinute minute) := by
      refine tickStep_still fun st hst => ?_
      rw [currentStep_none fun k => by rw [hvm]; exact fun hk => by rw [show s.schedule.position = .drying k from hk] at hp; cases hp] at hst
      cases hst
    obtain ⟨hschedule, hstamp⟩ := h.counts hm (by rw [hp]; nofun) rfl (most := r.equalizeMaximum)
      (overtimeMaximum_eq (r := r) (by rw [hrun]; exact hvr) (.inr ⟨by rw [hrun, hvm]; exact hp, rfl⟩))
    rw [hrun, hvm] at hschedule
    refine ⟨hschedule, hstamp, ?_⟩
    rw [tickExits_nil s minute (.inr (.inl (by rw [hp]; nofun))), pathRecords, List.append_nil]
    rfl
  · have hstill : (∀ k, s.schedule.position ≠ .drying k) ∧ s.schedule.position ≠ .equalize :=
      ⟨fun k => by rw [hp]; nofun, by rw [hp]; decide⟩
    have hnil := tickExits_nil s minute (.inr (.inr hne))
    rw [h.schedule_still hnil, tickLowered_still minute (.inr hstill), if_pos ((runningAt_iff s _).2 ⟨hm, hp⟩),
      overtimeRecords_of_same _ (h.overtime_still (.inr hstill)), hnil]
    exact ⟨rfl, rfl⟩
  · obtain ⟨hlatched, hlast⟩ := h.cools hr hm hp h1 hpath
    refine ⟨?_, hlatched, hlast⟩
    rw [overtimeRecords_of_same _ (h.overtime_still (.inr ⟨fun k => by rw [hp]; nofun, by rw [hp]; decide⟩)),
      tickExits_eq s minute hr, if_pos ⟨hm, hp, h1⟩, hp, ← hpath]
    rfl
  · exact h.climate_still (tickExits_nil s minute (.inr hcase)) (.inr (.inr hsp))
  · have hnil := tickExits_nil s minute (.inr hcase)
    have hframe := tickLowered_onlyChanges s minute
    have hclimate : (tickLowered s minute).climate = s.climate := hframe .climate (by simp)
    have hrun := setpointRamp_run (s := tickLowered s minute) ((currentRecord_of_store (hframe .store (by simp))).trans hr)
      (by rw [tickLowered_schedule]; exact hm) (by rw [tickLowered_schedule]; exact hloop) (by rw [hclimate]; exact hsp)
      (by rw [hclimate]; exact htarget)
    refine ⟨rampToward sp target r.rampRate, ?_, rampToward_spec sp target (Int.natCast_nonneg _)⟩
    rw [h.path, hnil, ← hclimate]
    exact hrun

end Sys2Proof.Machine
end

section
/-! Latching, the stamps, and clearing and masking at the attention unit (R158 to R164, R167). -/

namespace Sys2Proof.Machine

/-! ## Latching (R158, R159, R167) -/

theorem latch_stamp_some {c d : Condition} {s : State} {m : Nat} (h : s.attention.stamp d = some m) :
    (latch c s).attention.stamp d = some m := (latch_latches c s).stamps d m h

theorem foldl_latch_stamp_some (cs : List Condition) {d : Condition} {s : State} {m : Nat} (h : s.attention.stamp d = some m) :
    (cs.foldl (fun s c => latch c s) s).attention.stamp d = some m := by
  induction cs generalizing s with
  | nil => exact h
  | cons c cs ih => exact ih (latch_stamp_some h)

theorem latch_overrun_self (s : State) : (latch .traceOverrun s).attention.stamp .traceOverrun =
    some ((s.attention.stamp .traceOverrun).getD s.schedule.minute) := by
  unfold latch
  cases h : s.attention.stamp .traceOverrun with
  | none => simp [Attention.latched, h, Attention.stamp_latch]
  | some m => simp [Attention.latched, h]

/-- TRACE OVERRUN among the conditions of an event is latched by it, whatever the records before it find (R167). -/
theorem foldl_latch_overrun_mem (cs : List Condition) {s : State} (h : .traceOverrun ∈ cs) :
    (cs.foldl (fun s c => latch c s) s).attention.stamp .traceOverrun =
      some ((s.attention.stamp .traceOverrun).getD s.schedule.minute) := by
  induction cs generalizing s with
  | nil => cases h
  | cons c cs ih =>
    rw [List.foldl_cons]
    by_cases hc : c = .traceOverrun
    · subst hc
      exact foldl_latch_stamp_some cs (latch_overrun_self s)
    · rw [ih ((List.mem_cons.1 h).resolve_left (Ne.symm hc))]
      have hminute : (latch c s).schedule = s.schedule := by simp
      rw [latch_overrun s hc, hminute]
      split_ifs with hn
      · rw [hn.1]; rfl
      · rfl

/-- The conditions with a CONDITION record, in the order of TABLE 10-1 (R159). -/
def recordedConditions : List Condition :=
  [.safe, .addressClash, .wetBulbFault, .climateDeviation, .heatCutoff, .referenceFault, .temperatureFault, .peerStale,
    .rosterShort, .unlistedStation, .recordClash, .offerClash, .badOffer, .frameDropped, .lineBlocked, .stepAdvanced,
    .phaseEntered, .stepOvertime, .pictureShort, .chargeMissing, .codeMismatch]

theorem condition_all_eq : Condition.all = recordedConditions ++ [.traceOverrun] := rfl

theorem ne_traceOverrun_of_recorded {c : Condition} (h : c ∈ recordedConditions) : c ≠ .traceOverrun := by
  rintro rfl
  exact absurd h (by decide)

theorem filter_recorded (events : List Condition) (a : Attention) :
    ((Condition.all.filter (· ∈ events)).filter fun c => decide (c ≠ .traceOverrun ∧ a.stamp c = none))
      = recordedConditions.filter fun c => decide (c ∈ events ∧ a.stamp c = none) := by
  rw [List.filter_filter, condition_all_eq, List.filter_append, List.filter_cons_of_neg (by simp), List.filter_nil,
    List.append_nil]
  refine List.filter_congr fun c hc => ?_
  rw [← Bool.decide_and, decide_eq_decide]
  have := ne_traceOverrun_of_recorded hc
  tauto

theorem latchAll_overrun (events : List Condition) {s : State} (hs : s.RingBounded) :
    (latchAll events s).attention.stamp .traceOverrun =
      if s.attention.stamp .traceOverrun = none
          ∧ (.traceOverrun ∈ events ∨ 512 < s.trace.records.length
            + (recordedConditions.filter fun c => decide (c ∈ events ∧ s.attention.stamp c = none)).length) then
        some s.schedule.minute
      else s.attention.stamp .traceOverrun := by
  rw [← filter_recorded]
  unfold latchAll
  by_cases ho : Condition.traceOverrun ∈ events
  · rw [foldl_latch_overrun_mem _ (by simp [ho, Condition.mem_all])]
    cases hn : s.attention.stamp .traceOverrun <;> simp [ho]
  · have hmem : Condition.traceOverrun ∉ Condition.all.filter (· ∈ events) := by simp [ho]
    rw [foldl_latch_overrun _ hs ((by decide : Condition.all.Nodup).filter _) hmem]
    have hfilter : ((Condition.all.filter (· ∈ events)).filter fun c => decide (s.attention.stamp c = none))
        = (Condition.all.filter (· ∈ events)).filter fun c => decide (c ≠ .traceOverrun ∧ s.attention.stamp c = none) := by
      refine List.filter_congr fun c hc => ?_
      have : c ≠ .traceOverrun := fun h => hmem (h ▸ hc)
      simp [this]
    rw [hfilter]
    simp [ho]

/-! ## The level and the output (R161 to R163) -/

theorem find_min {α : Type} (f : α → Nat) (p : α → Bool) {l : List α} (hl : l.Pairwise fun a b => f a ≤ f b) {k : α}
    (h : l.find? p = some k) : ∀ j ∈ l, p j = true → f k ≤ f j := by
  induction l with
  | nil => cases h
  | cons a l ih =>
    obtain ⟨ha, hl⟩ := List.pairwise_cons.1 hl
    intro j hj hpj
    rw [List.find?_cons] at h
    cases hpa : p a with
    | true =>
      rw [hpa] at h
      cases h
      obtain rfl | hj := List.mem_cons.1 hj
      · exact le_rfl
      · exact ha j hj
    | false =>
      rw [hpa] at h
      obtain rfl | hj := List.mem_cons.1 hj
      · rw [hpa] at hpj
        cases hpj
      · exact ih hl h j hj hpj

theorem mem_condClass_all (k : CondClass) : k ∈ CondClass.all := by cases k <;> decide

theorem condClass_bit_injective {j k : CondClass} (h : j.bit = k.bit) : j = k := by
  cases j <;> cases k <;> first | rfl | cases h

theorem latched_class_iff (a : Attention) (k : CondClass) :
    (Condition.all.any fun c => a.latched c && c.cls == k) = true ↔ ∃ c : Condition, c.cls = k ∧ a.stamp c ≠ none := by
  simp only [List.any_eq_true, Bool.and_eq_true, beq_iff_eq, attention_latched_iff]
  exact ⟨fun ⟨c, _, hs, hk⟩ => ⟨c, hk, hs⟩, fun ⟨c, hk, hs⟩ => ⟨c, Condition.mem_all c, hs, hk⟩⟩

theorem hasLevel_levelOf (a : Attention) : a.HasLevel a.levelOf := by
  unfold Attention.levelOf
  constructor
  · rw [List.find?_eq_none]
    constructor
    · intro h c
      by_contra hc
      exact h c.cls (mem_condClass_all _) ((latched_class_iff a _).2 ⟨c, rfl, hc⟩)
    · intro h k _ hk
      obtain ⟨c, -, hc⟩ := (latched_class_iff a k).1 hk
      exact hc (h c)
  · intro k
    constructor
    · intro h
      have hk := List.find?_some h
      refine ⟨(latched_class_iff a k).1 hk, fun c hc => ?_⟩
      exact find_min CondClass.bit _ (by decide) h c.cls (mem_condClass_all _) ((latched_class_iff a _).2 ⟨c, rfl, hc⟩)
    · rintro ⟨⟨c, rfl, hc⟩, hmin⟩
      cases hfind : CondClass.all.find? fun k => Condition.all.any fun c => a.latched c && c.cls == k with
      | none => exact absurd ((latched_class_iff a c.cls).2 ⟨c, rfl, hc⟩) (List.find?_eq_none.1 hfind _ (mem_condClass_all _))
      | some j =>
        have hj := List.find?_some hfind
        obtain ⟨d, rfl, hd⟩ := (latched_class_iff a j).1 hj
        have hle := find_min CondClass.bit _ (by decide) hfind c.cls (mem_condClass_all _) ((latched_class_iff a _).2 ⟨c, rfl, hc⟩)
        rw [condClass_bit_injective (le_antisymm hle (hmin d hd))]

theorem hasOutput_outputOf (a : Attention) : a.HasOutput a.outputOf := by
  unfold Attention.HasOutput Attention.outputOf Attention.enabled
  simp only [List.any_eq_true, Bool.and_eq_true, Bool.or_eq_true, beq_iff_eq, attention_latched_iff]
  exact ⟨fun ⟨c, _, h⟩ => ⟨c, h⟩, fun ⟨c, h⟩ => ⟨c, Condition.mem_all c, h⟩⟩

theorem outputOf_iff (a : Attention) : a.outputOf = true ↔ ∃ c, a.latched c = true ∧ a.enabled c.cls = true := by
  unfold Attention.outputOf
  simp only [List.any_eq_true, Bool.and_eq_true]
  exact ⟨fun ⟨c, _, h⟩ => ⟨c, h⟩, fun ⟨c, h⟩ => ⟨c, Condition.mem_all c, h⟩⟩

theorem conditionTable : ConditionTable := by
  refine ⟨?_, rfl, rfl, rfl, rfl, rfl, rfl⟩
  simp only [List.forall_mem_cons, List.not_mem_nil, false_imp_iff, implies_true, and_true]
  refine ⟨?_, ?_, ?_, ?_, ?_, ?_⟩ <;> intro c <;> cases c <;> decide

/-! ## Clearing and masking (R160, R161, R164) -/

theorem causeHolds_iff (s : State) (c : Condition) : s.causeHolds c = true ↔ s.PersistentCause c := by
  unfold State.PersistentCause
  cases c <;> simp [State.causeHolds]

theorem mem_clearable (s : State) (classes : Byte) (c : Condition) : c ∈ s.clearable classes ↔
    s.attention.latched c = true ∧ classes.getLsbD c.cls.bit = true ∧ ¬s.PersistentCause c := by
  rw [← causeHolds_iff]
  simp [State.clearable, Condition.mem_all, classSetHas, and_assoc]

theorem maskOf_bit (b : Byte) (k : CondClass) (h : k ≠ .fatal) : (maskOf b).getLsbD k.bit = b.getLsbD k.bit := by
  cases k <;> first | exact absurd rfl h | simp [maskOf, CondClass.bit]

theorem masked_enabled (a : Attention) (b : Byte) (k : CondClass) :
    (a.masked b).enabled k = (k == .fatal || b.getLsbD k.bit) := by
  unfold Attention.enabled Attention.masked
  by_cases h : k = .fatal
  · rw [h]; rfl
  · rw [maskOf_bit b k h]

/-! ## The stamps under every command (R158, R164) -/

/-- A state whose conditions keep the stamps of another's. -/
def State.Stamped (s t : State) : Prop := ∀ c m, s.attention.stamp c = some m → t.attention.stamp c = some m

theorem stamped_of_eq {s t : State} (h : t.attention = s.attention) : s.Stamped t := fun c m hc => by rw [h]; exact hc

theorem request_stamped {owner : State → State × Answer} {s : State} (h : s.Stamped (owner s).1) (kind : Byte) :
    s.Stamped (request kind owner s) := by
  unfold request
  split
  · exact h
  · split <;> exact stamped_of_eq rfl

theorem takeRun_stamped {k : FrameKind} {owner : Frame → State → State} (h : FrameOwner k owner) (run : List LineByte)
    (s : State) : s.Stamped (takeRun k owner run s) :=
  (takeRun_latches k owner run s fun f u => h.latches f u).stamps

theorem loadCharge_stamped (payload : List Byte) (s : State) : s.Stamped (ownerLoadCharge payload s).1 := by
  unfold ownerLoadCharge
  repeat' split
  all_goals exact stamped_of_eq rfl

theorem calibrate_stamped (s : State) : s.Stamped (ownerCalibrate s).1 := by
  unfold ownerCalibrate
  split
  · exact stamped_of_eq rfl
  · exact stamped_of_eq (requestCalibration_attention s)

theorem readPeer_stamped (n : Byte) (s : State) : s.Stamped (ownerReadPeer n s).1 := by
  unfold ownerReadPeer
  split <;> exact stamped_of_eq rfl

theorem setAttentionMask_stamped (b : Byte) (s : State) : s.Stamped (ownerSetAttentionMask b s).1 := by
  unfold ownerSetAttentionMask
  split <;> exact fun c m hc => hc

theorem gapTimerExpiry_stamped (s : State) : s.Stamped (gapTimerExpiry s) := by
  unfold gapTimerExpiry
  split <;> exact stamped_of_eq rfl

/-- Every command but POWER_ON, CLEAR_CONDITIONS and a service byte keeps the stamps. -/
theorem exec_stamped {c : Instr} {s t : State} (h : exec c s = .next t) (hpower : ∀ n k r e f, c ≠ .powerOn n k r e f)
    (hclear : ∀ classes, c ≠ .clearConditions classes) (hbyte : ∀ b stop, c ≠ .serviceByteReceived b stop) :
    s.Stamped t := by
  cases c
  case powerOn => exact absurd rfl (hpower _ _ _ _ _)
  case clearConditions => exact absurd rfl (hclear _)
  case serviceByteReceived => exact absurd rfl (hbyte _ _)
  case peerEntryStale =>
    rw [exec_peerEntryStale] at h
    split_ifs at h
    cases h
    exact (BlockEffect.entryStale _ _).latches.stamps
  case peerEntryEmptied =>
    rw [exec_peerEntryEmptied] at h
    split_ifs at h
    cases h
    exact (BlockEffect.entryEmptied _ _).latches.stamps
  all_goals cases h
  case measurementWindowEnd => exact (BlockEffect.windowEnd _ _).latches.stamps
  case calibrationSweepComplete => exact (BlockEffect.calibrationComplete _).latches.stamps
  case probeSweepComplete => exact (BlockEffect.probeComplete _).latches.stamps
  case sweepIntervalExpiry => exact (BlockEffect.sweepInterval _).latches.stamps
  case calibrationTimerExpiry => exact (BlockEffect.calibrationTimer _).latches.stamps
  case controlPeriod => exact (BlockEffect.controlPeriod _ _ _).latches.stamps
  case holdTimerExpiry => exact (BlockEffect.holdTimer _ _).latches.stamps
  case deviationLimit => exact (BlockEffect.deviationLimit _).latches.stamps
  case settleTimerExpiry => exact (BlockEffect.settleTimer _).latches.stamps
  case frameDiscarded => exact (BusEffect.discardRun _).latches.stamps
  case reportReceived => exact takeRun_stamped .report _ _
  case offerReceived => exact takeRun_stamped .offer _ _
  case safeFrameReceived => exact takeRun_stamped .safe _ _
  case startDirectiveReceived => exact takeRun_stamped (.directive _) _ _
  case holdDirectiveReceived => exact takeRun_stamped (.directive _) _ _
  case resumeDirectiveReceived => exact takeRun_stamped (.directive _) _ _
  case skipDirectiveReceived => exact takeRun_stamped (.directive _) _ _
  case abortDirectiveReceived => exact takeRun_stamped (.directive _) _ _
  case resetSafeDirectiveReceived => exact takeRun_stamped (.directive _) _ _
  case attemptBegin => exact (BusEffect.attemptBegin _).latches.stamps
  case attemptFail => exact (BusEffect.attemptFailTold _).latches.stamps
  case attemptComplete => exact (BusEffect.attemptComplete _).latches.stamps
  case spacingTimerExpiry => exact (BusEffect.spacingTimer _).latches.stamps
  case quietGap => exact (BusEffect.quietGap _).latches.stamps
  case lineBlockedTimerExpiry => exact (BusEffect.lineBlockedTimer _).latches.stamps
  case reportTimerExpiry => exact (BusEffect.reportTimer _).latches.stamps
  case reofferHoldoffExpiry => exact (BlockEffect.reofferHoldoff _).latches.stamps
  case minuteTick => exact (BlockEffect.minuteTick _).latches.stamps
  case stepTimerExpiry => exact (BlockEffect.stepTimer _).latches.stamps
  case overtimeLimit => exact (BlockEffect.overtimeLimit _).latches.stamps
  case conditionTimerExpiry => exact (BlockEffect.conditionTimer _).latches.stamps
  case gatherTimerExpiry => exact (BlockEffect.gatherTimer _).latches.stamps
  case snapshotTimerExpiry => exact (BlockEffect.snapshotTimer _).latches.stamps
  case fanReversal => exact (BlockEffect.fanReversal _).latches.stamps
  case emergencyAssertion => exact (BusEffect.emergencyAssertion _).latches.stamps
  case emergencyRelease => exact (BlockEffect.emergencyRelease _).latches.stamps
  case startBitSeen => exact (BusEffect.startBit _).latches.stamps
  case loadCharge => exact request_stamped (loadCharge_stamped _ _) _
  case directiveStart => exact request_stamped (originate_latches _ _ _ _ _ _).stamps _
  case directiveHold => exact request_stamped (originate_latches _ _ _ _ _ _).stamps _
  case directiveResume => exact request_stamped (originate_latches _ _ _ _ _ _).stamps _
  case directiveSkip => exact request_stamped (originate_latches _ _ _ _ _ _).stamps _
  case directiveAbort => exact request_stamped (originate_latches _ _ _ _ _ _).stamps _
  case directiveResetSafe => exact request_stamped (originate_latches _ _ _ _ _ _).stamps _
  case calibrate => exact request_stamped (calibrate_stamped _) _
  case readPeer => exact request_stamped (readPeer_stamped _ _) _
  case setAttentionMask => exact request_stamped (setAttentionMask_stamped _ _) _
  case gapTimerExpiry => exact gapTimerExpiry_stamped _
  case responseEnd => exact stamped_of_eq (by simp)
  -- The other requests leave the attention unit as it is.
  all_goals exact request_stamped (stamped_of_eq rfl) _

/-! ## The two requests -/

theorem classSetValid_of {b : Byte} (h6 : b.getLsbD 6 = false) (h7 : b.getLsbD 7 = false) : classSetValid b = true := by
  rw [classSetValid, h6, h7]
  rfl

theorem exec_clearConditions {s : State} {classes : Byte} (hsending : s.port.sending = none) (hbusy : s.port.busy = [])
    (h : classSetValid classes = true) :
    exec (.clearConditions classes) s = .next ((s.setAttention (clearedAttention s classes)).setPort
      { s.port with sending := some (responseOf 0x0B (.done [])) }) := by
  refine congrArg Host.Outcome.next ((request_of_idle hsending hbusy _ _).trans ?_)
  rw [ownerClearConditions, if_pos h]
  rfl

theorem exec_setAttentionMask {s : State} {classes : Byte} (hsending : s.port.sending = none) (hbusy : s.port.busy = [])
    (h : classSetValid classes = true) :
    exec (.setAttentionMask classes) s = .next ((s.setAttention (s.attention.masked classes)).setPort
      { s.port with sending := some (responseOf 0x0C (.done [])) }) := by
  refine congrArg Host.Outcome.next ((request_of_idle hsending hbusy _ _).trans ?_)
  rw [ownerSetAttentionMask, if_pos h]
  rfl

/-- A judged attention unit has the level and output of R162 and R163. -/
theorem judged_spec {a : Attention} (h : a.Judged) : a.HasLevel a.level ∧ a.HasOutput a.output
    ∧ (a.output = true ↔ ∃ c, a.latched c = true ∧ a.enabled c.cls = true) := by
  obtain ⟨-, hout, hlevel⟩ := h
  rw [hout, hlevel]
  exact ⟨hasLevel_levelOf a, hasOutput_outputOf a, outputOf_iff a⟩

theorem clearedAttention_mask (s : State) (classes : Byte) : (clearedAttention s classes).mask = s.attention.mask := by
  have hfold (cs : List Condition) (a : Attention) : (cs.foldl (fun a c => a.setStamp c none) a).mask = a.mask := by
    induction cs generalizing a with
    | nil => rfl
    | cons c cs ih => exact (ih _).trans rfl
  unfold clearedAttention
  split
  · rfl
  · exact hfold _ _

/-- Settles O53: the order of a latching's records, the stamps under every command, and the two requests. -/
theorem clearAndMaskActOnAttention : Obligations.ClearAndMaskActOnAttention := by
  refine ⟨fun events order xs s hs horder hxs => ?_, fun c s t h hpower hclear hbyte k m hk => exec_stamped h hpower hclear hbyte k m hk,
    conditionTable, fun a => ⟨hasLevel_levelOf a, hasOutput_outputOf a, fun k => rfl⟩, fun s classes hj hsending hbusy h6 h7 => ?_⟩
  · have hxs' : xs = (recordedConditions.filter fun c => decide (c ∈ events ∧ s.attention.stamp c = none)).map
        fun c => s.traceRecord (.condition c) := by rw [hxs, horder]; rfl
    refine ⟨?_, fun c hc => latchAll_stamp events s hc, ?_, by simp [onlyChanges_iff]⟩
    · have hw := latchAll_writes events hs
      rwa [filter_recorded, ← hxs'] at hw
    · rw [latchAll_overrun events hs, hxs', List.length_map]
  · have hvalid := classSetValid_of h6 h7
    have hjudged : s.attention.Judged := hj
    refine ⟨⟨_, exec_clearConditions hsending hbusy hvalid, fun c hc => ?_, fun c hc => ?_, ?_⟩,
      ⟨_, exec_setAttentionMask hsending hbusy hvalid, fun k => masked_enabled _ _ k, rfl, rfl, ?_⟩⟩
    · refine (clearedAttention_stamp s classes c).trans ?_
      split_ifs with hmem
      · rfl
      · by_contra hn
        exact hmem ((mem_clearable s classes c).2 ⟨(attention_latched_iff _ _).2 hn, hc⟩)
    · refine (clearedAttention_stamp s classes c).trans (if_neg fun hmem => ?_)
      obtain ⟨-, hbit, hcause⟩ := (mem_clearable s classes c).1 hmem
      obtain h | h := hc
      · rw [h] at hbit
        cases hbit
      · exact hcause h
    · obtain ⟨hlevel, hout, hiff⟩ := judged_spec (clearedAttention_judged hjudged classes)
      exact ⟨hlevel, hout, clearedAttention_mask s classes, hiff, rfl, by simp [onlyChanges_iff]⟩
    · obtain ⟨hlevel, hout, hiff⟩ := judged_spec (masked_judged hjudged classes)
      exact ⟨hlevel, hout, hiff, rfl, by simp [onlyChanges_iff]⟩

end Sys2Proof.Machine
end

section
/-! The requests of the service port at an idle and an occupied transmitter, and the data of the responses (12). -/

namespace Sys2Proof.Machine

/-! ## The data of the responses (TABLE 12-4) -/

theorem pictureLayout : PictureLayout := by
  refine ⟨rfl, fun p => ?_⟩
  have hsufficient : boolByte p.sufficient = if p.sufficient then 1 else 0 := by cases p.sufficient <;> rfl
  rw [pictureData, hsufficient]
  simp only [extremeData, ← List.append_assoc]
  rfl

theorem readingsLayout : ReadingsLayout := by
  refine ⟨fun r => ?_, fun rs => rfl⟩
  rw [readingData, flags_toByte, optTemp_eq_tempBytes]
  rfl

theorem peerLayout : PeerLayout := by
  refine fun s n => ⟨fun h => by rw [peerData, h]; rfl, fun e h => ?_⟩
  have hreadings : e.data.readings.flatMap encodeReported
      = (e.data.readings.map fun r => BitVec.ofNat 8 r.channel :: (countBytes r.mc ++ [flagByte r.flags])).flatten := by
    rw [List.flatMap, funext encodeReported_bytes]
  have hstate : byteOf (entryStateCode e.state) = match e.state with | .fresh => 1 | .stale => 2 := by
    cases e.state <;> rfl
  have hstanding : byteOf (if n = s.straps.station then 4 else standingCode (standing s.store.current n e.data))
      = if n = s.straps.station then 4
        else match standing s.store.current n e.data with | .matched => 1 | .foreign => 2 | .unlisted => 3 := by
    split_ifs
    · rfl
    · cases standing s.store.current n e.data <;> rfl
  rw [peerData, h]
  dsimp only
  rw [hreadings, optTemp_eq_tempBytes, hstate, hstanding]
  rfl

theorem sensorCode_byte (x : SensorState) : byteOf (sensorCode x) = sensorByte x := by cases x <;> rfl

theorem climateLayout : ClimateLayout := by
  intro s
  have hregime : byteOf (regimeCode s.climate.regime)
      = match s.climate.regime with | .off => 0 | .loops => 1 | .cooling => 2 | .safe => 3 := by
    cases s.climate.regime <;> rfl
  simp only [climateData, hregime, optTemp_eq_tempBytes, sensorCode_byte]
  rfl

theorem stateLayout : StateLayout := by
  intro s
  have hbool (b : Bool) : boolByte b = if b then 1 else 0 := by cases b <;> rfl
  have hbasis : s.basisByte = match s.currentStep with
      | some st => (match st.basis with | .minutes => (0 : Byte) | .reversals => 1)
      | none => 0 := by
    unfold State.basisByte
    cases s.currentStep with
    | none => rfl
    | some st => cases hb : st.basis <;> simp [hb, basisCode, byteOf]
  have hcheck (r : Option RankedRecord) :
      ((r.map RankedRecord.check).getD 0).toNat = (r.map fun r => r.check.toNat).getD 0 := by
    cases r <;> rfl
  simp only [stateData, hbool, hbasis, rankData, hcheck, ← List.append_assoc]
  rfl

theorem traceKindData_eq (k : TraceKind) : traceKindData k = kindBytes k := by
  cases k with
  | step c => cases c <;> rfl
  | phase c => cases c <;> rfl
  | calibration ok lo hi => cases ok <;> rfl
  | _ => rfl

theorem kindBytes_length (k : TraceKind) : (kindBytes k).2.length = 5 := by cases k <;> rfl

theorem tempBytes_length (x : Option Int) : (tempBytes x).length = 2 := by cases x <;> rfl

theorem traceLayout : TraceLayout := by
  intro r
  have heq : traceRecordData r = (kindBytes r.kind).1 :: (twoBytes r.minute
          ++ [BitVec.ofNat 8 (phaseCode r.position), BitVec.ofNat 8 (stepCode r.position), BitVec.ofNat 8 (modeCode r.mode)]
          ++ twoBytes r.basis ++ countBytes r.controlling ++ countBytes (r.wettest.map (·.mc))
          ++ [BitVec.ofNat 8 ((r.wettest.map (·.station)).getD 0), BitVec.ofNat 8 ((r.wettest.map (·.channel)).getD 0)]
          ++ countBytes r.driest ++ tempBytes r.dryBulb ++ tempBytes r.wetBulb ++ (kindBytes r.kind).2) := by
    simp only [traceRecordData, traceKindData_eq, optTemp_eq_tempBytes, extremeData, ← List.append_assoc]
    rfl
  refine ⟨heq, ?_⟩
  rw [heq]
  simp [kindBytes_length, tempBytes_length, twoBytes, countBytes]

/-! ## The latched set (R177) -/

/-- The number whose bits are a list's, the first at bit 0. -/
def bitsNumber (bs : List Bool) : Nat := bs.foldr (fun b n => b.toNat + 2 * n) 0

theorem testBit_bitsNumber (bs : List Bool) (i : Nat) : (bitsNumber bs).testBit i = bs.getD i false := by
  induction bs generalizing i with
  | nil => simp [bitsNumber]
  | cons b bs ih =>
    have hcons : bitsNumber (b :: bs) = b.toNat + 2 * bitsNumber bs := rfl
    rw [hcons]
    cases i with
    | zero => cases b <;> simp [Nat.testBit_zero]
    | succ i =>
      have hhalf : (b.toNat + 2 * bitsNumber bs) / 2 = bitsNumber bs := by
        have := b.toNat_lt
        omega
      rw [Nat.testBit_succ, hhalf, ih]
      rfl

theorem condition_all_index (c : Condition) : Condition.all[c.index.val]'c.index.isLt = c := by cases c <;> rfl

/-- The sum of the latched conditions' bits is the number with those bits (R177). -/
theorem latchedBits_eq (a : Attention) :
    (Condition.all.map fun c => if a.latched c then 2 ^ c.index.val else 0).foldl (· + ·) 0
      = bitsNumber (Condition.all.map a.latched) := by
  have hbit (c : Condition) : (if a.latched c then 2 ^ c.index.val else 0) = 2 ^ c.index.val * (a.latched c).toNat := by
    cases a.latched c <;> simp
  rw [List.map_congr_left fun c _ => hbit c]
  simp only [bitsNumber, Condition.all, List.map_cons, List.map_nil, List.foldl_cons, List.foldl_nil, List.foldr_cons,
    List.foldr_nil, Condition.index]
  norm_num
  ring

theorem byteOf_getLsbD (n i : Nat) (h : i < 8) : (byteOf n).getLsbD i = n.testBit i := by
  rw [byteOf, BitVec.getLsbD_ofNat]
  simp [h]

theorem latchedSet_getLsbD (a : Attention) {n : Nat} (h : n < 24) :
    ((latchedSet a).getD (n / 8) 0).getLsbD (n % 8) = (Condition.all.map a.latched).getD n false := by
  have hmod : n % 8 < 8 := Nat.mod_lt _ (by omega)
  rw [← testBit_bitsNumber, ← latchedBits_eq]
  unfold latchedSet
  set bits := (Condition.all.map fun c => if a.latched c then 2 ^ c.index.val else 0).foldl (· + ·) 0
  have hn := Nat.div_add_mod n 8
  have hbyte : ([byteOf bits, byteOf (bits / 256), byteOf (bits / 65536)].getD (n / 8) 0) = byteOf (bits / 2 ^ (8 * (n / 8))) := by
    have hq : n / 8 < 3 := by omega
    generalize n / 8 = q at hq ⊢
    interval_cases q
    · simp
    · rfl
    · rfl
  rw [hbyte, byteOf_getLsbD _ _ hmod, Nat.testBit_div_two_pow]
  congr 1
  omega

theorem latchedList_flatMap (a : Attention) (f : Condition → Nat → List Byte) :
    (a.latchedList.flatMap fun x => f x.1 x.2) = (Condition.all.filter a.latched).flatMap fun c => f c ((a.stamp c).getD 0) := by
  unfold Attention.latchedList
  induction Condition.all with
  | nil => rfl
  | cons c cs ih =>
    rw [List.filterMap_cons, List.filter_cons, Attention.latched]
    cases hc : a.stamp c with
    | none => simpa using ih
    | some m => simpa [hc] using ih

theorem conditionsLayout : ConditionsLayout := by
  refine fun a => ⟨latchedSet a, ?_, rfl, fun c => ?_, ?_, ?_⟩
  · have hlevel : byteOf (levelCode a.level) = match a.level with
        | none => 0
        | some .fatal => 1 | some .climate => 2 | some .probe => 3 | some .peer => 4 | some .schedule => 5 | some .trace => 6 := by
      rcases a.level with _ | k
      · rfl
      · cases k <;> rfl
    rw [conditionsData, hlevel, latchedList_flatMap a fun c m => byteOf (c.index.val + 1) :: be16 m]
    rfl
  · rw [latchedSet_getLsbD a (by omega), List.getD_eq_getElem _ _ (by rw [List.length_map]; exact c.index.isLt), List.getElem_map]
    exact congrArg a.latched (condition_all_index c)
  · exact latchedSet_getLsbD a (n := 22) (by omega)
  · exact latchedSet_getLsbD a (n := 23) (by omega)

/-! ## The request slot (R174, R175) -/

/-- The payload of a DIRECTIVE request (TABLE 12-3). -/
def directiveRequest (byte : Byte) (charge code : Word16) (phase step : Byte) : List Byte :=
  byte :: (twoBytes charge.toNat ++ twoBytes code.toNat ++ [phase, step])

theorem directiveRequest_fields (byte : Byte) (charge code : Word16) (phase step : Byte) :
    u8 (directiveRequest byte charge code phase step) 0 = byte.toNat
      ∧ BitVec.ofNat 16 (u16 (directiveRequest byte charge code phase step) 1) = charge
      ∧ BitVec.ofNat 16 (u16 (directiveRequest byte charge code phase step) 3) = code
      ∧ (directiveRequest byte charge code phase step).getD 5 0 = phase
      ∧ (directiveRequest byte charge code phase step).getD 6 0 = step := by
  have hword (w : Word16) : u16 (be16 w.toNat) 0 = w.toNat := by
    have hw := w.isLt
    have h := u16_be16 (n := w.toNat) [] (by omega)
    rwa [List.append_nil] at h
  refine ⟨rfl, ?_, ?_, rfl, rfl⟩
  · exact (congrArg (BitVec.ofNat 16) (hword charge)).trans (by rw [BitVec.ofNat_toNat, BitVec.setWidth_eq])
  · exact (congrArg (BitVec.ofNat 16) (hword code)).trans (by rw [BitVec.ofNat_toNat, BitVec.setWidth_eq])

/-- A DIRECTIVE request with the code of a directive is that directive's (R133). -/
theorem ownerDirective_of_code {byte : Byte} {k : DirectiveKind} (h : byte.toNat = k.code) (charge code : Word16)
    (phase step : Byte) :
    ownerDirective (directiveRequest byte charge code phase step) = originate k charge code phase step := by
  obtain ⟨hbyte, hcharge, hcode, hphase, hstep⟩ := directiveRequest_fields byte charge code phase step
  funext s
  rw [ownerDirective, (directiveOf_eq_some_iff _ k).2 (hbyte.trans h), hcharge, hcode, hphase, hstep]

theorem request_directive {byte : Byte} {k : DirectiveKind} (h : byte.toNat = k.code) (charge code : Word16)
    (phase step : Byte) (s : State) :
    request 0x03 (originate k charge code phase step) s
      = request 0x03 (ownerOf 0x03 (directiveRequest byte charge code phase step) false) s := by
  rw [← ownerDirective_of_code h]
  rfl

/-- A row's request, whole and good, is taken by the owner that its kind and payload name (TABLE 12-3). -/
theorem exec_of_requestBytes {c : Instr} {kind : Byte} {payload : List Byte} (h : requestBytes c = some (kind, payload))
    (s : State) : exec c s = .next (request kind (ownerOf kind payload false) s) := by
  cases c
  case directiveStart charge code => cases h; exact congrArg Host.Outcome.next (request_directive (k := .start) rfl _ _ _ _ s)
  case directiveHold charge code => cases h; exact congrArg Host.Outcome.next (request_directive (k := .hold) rfl _ _ _ _ s)
  case directiveResume charge code => cases h; exact congrArg Host.Outcome.next (request_directive (k := .resume) rfl _ _ _ _ s)
  case directiveSkip charge code phase step =>
    cases h; exact congrArg Host.Outcome.next (request_directive (k := .skip) rfl _ _ _ _ s)
  case directiveAbort charge code => cases h; exact congrArg Host.Outcome.next (request_directive (k := .abort) rfl _ _ _ _ s)
  case directiveResetSafe charge code =>
    cases h; exact congrArg Host.Outcome.next (request_directive (k := .resetSafe) rfl _ _ _ _ s)
  case loadCharge => cases h; rfl
  case clearStaged => cases h; rfl
  case calibrate => cases h; rfl
  case readPicture => cases h; rfl
  case readReadings => cases h; rfl
  case readPeer => cases h; rfl
  case readClimate => cases h; rfl
  case readState => cases h; rfl
  case readConditions => cases h; rfl
  case clearConditions => cases h; rfl
  case setAttentionMask => cases h; rfl
  case readTrace => cases h; rfl
  -- The other rows stand for no request.
  all_goals cases h

/-- A request of an occupied port joins the BUSY list or goes unanswered (R174). -/
theorem request_of_occupied {s : State} (h : s.port.sending.isSome = true ∨ s.port.busy ≠ []) (kind : Byte)
    (owner : State → State × Answer) :
    request kind owner s = if s.port.busy.length < 4 then s.setPort { s.port with busy := s.port.busy ++ [kind] } else s := by
  refine if_neg ?_
  rw [Port.idle, Bool.and_eq_true, Option.isNone_iff_eq_none, List.isEmpty_iff]
  rintro ⟨hsending, hbusy⟩
  rw [hsending, hbusy] at h
  simp at h

theorem answerBytes_eq (a : Answer) : a.payload = answerBytes a := by cases a <;> rfl

theorem responseOf_eq (kind : Byte) (a : Answer) : responseOf kind a =
    { bytes := frameOfBytes (kind ||| 0x80) (answerBytes a), bitsLeft := 10 * (5 + (answerBytes a).length) } := by
  have hbytes : serviceFrame (responseKind kind) a.payload = frameOfBytes (kind ||| 0x80) (answerBytes a) := by
    rw [answerBytes_eq]
    rfl
  have hlength : (frameOfBytes (kind ||| 0x80) (answerBytes a)).length = 5 + (answerBytes a).length := by
    simp [frameOfBytes, twoBytes]
    omega
  rw [responseOf, hbytes, serviceBits, hlength]

section
variable {s : State} (h : s.PortIdle)
include h

/-- A request that an idle port answers without an effect. -/
theorem exec_answered {c : Instr} {kind : Byte} {owner : State → State × Answer} {a : Answer}
    (hexec : exec c s = .next (request kind owner s)) (howner : owner s = (s, a)) : exec c s = .next (s.answered kind a) :=
  hexec.trans (congrArg Host.Outcome.next (request_of_answer h.1 h.2 kind howner))

theorem exec_readPeer (n : Byte) :
    (1 ≤ n.toNat → n.toNat ≤ 32 → exec (.readPeer n) s = .next (s.answered 0x07 (.done (peerData s n.toNat))))
      ∧ (n.toNat = 0 ∨ 32 < n.toNat → exec (.readPeer n) s = .next (s.answered 0x07 (.range 1))) := by
  refine ⟨fun h1 h32 => exec_answered h rfl (if_pos ?_), fun hout => exec_answered h rfl (if_neg ?_)⟩
  · simp [inRange, h1, h32]
  · simp only [inRange, Bool.and_eq_true, decide_eq_true_eq]
    omega

theorem exec_classes_range {classes : Byte} (hset : classes.getLsbD 6 = true ∨ classes.getLsbD 7 = true) :
    exec (.clearConditions classes) s = .next (s.answered 0x0B (.range 1))
      ∧ exec (.setAttentionMask classes) s = .next (s.answered 0x0C (.range 1)) := by
  have hvalid : ¬classSetValid classes = true := by
    rw [classSetValid]
    obtain h6 | h7 := hset
    · simp only [h6, Bool.not_true, Bool.false_and, Bool.false_eq_true, not_false_eq_true]
    · simp only [h7, Bool.not_true, Bool.and_false, Bool.false_eq_true, not_false_eq_true]
  exact ⟨exec_answered h rfl (if_neg hvalid), exec_answered h rfl (if_neg hvalid)⟩

theorem exec_readTrace : exec .readTrace s =
    .next ((s.setTrace { s.trace with records := s.trace.records.drop 6 }).answered 0x0D
      (.done (BitVec.ofNat 8 (min 6 s.trace.records.length) :: (s.trace.records.take 6).flatMap traceRecordData))) := by
  have hdata : traceData s.trace.records
      = BitVec.ofNat 8 (min 6 s.trace.records.length) :: (s.trace.records.take 6).flatMap traceRecordData := by
    rw [traceData, List.length_take]
    rfl
  rw [← hdata]
  exact congrArg Host.Outcome.next (request_of_idle h.1 h.2 0x0D ownerReadTrace)

theorem exec_calibrate_clear (hclear : s.frontEnd.calRequest = false) : exec .calibrate s =
    .next ((s.setFrontEnd
      (if s.frontEnd.sweep = .idleFe then
        { s.frontEnd with sweep := .calSweep, calRequest := false, samples := [], windowTimer := 9600 }
      else { s.frontEnd with calRequest := true })).answered 0x04 (.done [])) := by
  have howner : ownerCalibrate s = (requestCalibration s, .done []) := if_neg (by rw [hclear]; decide)
  have hcal : requestCalibration s = s.setFrontEnd (if s.frontEnd.sweep = .idleFe then
        { s.frontEnd with sweep := .calSweep, calRequest := false, samples := [], windowTimer := 9600 }
      else { s.frontEnd with calRequest := true }) := by
    unfold requestCalibration
    cases s.frontEnd.sweep <;> rfl
  refine congrArg Host.Outcome.next ((request_of_idle h.1 h.2 0x04 ownerCalibrate).trans ?_)
  rw [howner, hcal]
  rfl

end

/-- Settles O54: each request's row at an idle port, the BUSY list, and the bytes of the responses. -/
theorem idlePortAnswersRequests : Obligations.IdlePortAnswersRequests := by
  refine ⟨fun s h => ⟨fun x hx => ?_, exec_readPeer h, fun classes hset => exec_classes_range h hset, exec_readTrace h,
      fun kind => exec_answered h rfl rfl, exec_calibrate_clear h, fun hset => exec_answered h rfl (if_pos hset)⟩,
    fun s c kind hoccupied hc => ?_, responseOf_eq, pictureLayout, readingsLayout, peerLayout, climateLayout, stateLayout,
    conditionsLayout, traceLayout⟩
  · simp only [List.mem_cons, List.not_mem_nil, or_false] at hx
    obtain rfl | rfl | rfl | rfl | rfl := hx <;> exact exec_answered h rfl rfl
  · obtain hbytes | rfl := hc
    · obtain ⟨⟨kind', payload⟩, hrow, rfl⟩ := Option.map_eq_some_iff.1 hbytes
      exact (exec_of_requestBytes hrow s).trans (congrArg Host.Outcome.next (request_of_occupied hoccupied _ _))
    · exact congrArg Host.Outcome.next (request_of_occupied hoccupied kind ownerMalformed)

end Sys2Proof.Machine
end

section
/-! The service receiver: a request assembled byte by byte and executed, and the BUSY answers (R133, R172, R174, R175). -/

namespace Sys2Proof.Machine

/-- The service receiver back in HUNT (R172). -/
def State.hunting (s : State) : State := s.setPort { s.port with rx := .hunt, gapTimer := 0 }

section
variable {s : State} {bs : List Byte} {error : Bool} (h : s.port.rx = .assembling bs error) (b : Byte) (stop : Bool)
include h

/-- A byte that completes no request is taken, and the gap timer is loaded (R172). -/
theorem exec_byte_taken (hmore : requestComplete (bs ++ [b]) = false) :
    exec (.serviceByteReceived b stop) s =
      .next (s.setPort { s.port with rx := .assembling (bs ++ [b]) (error || !stop), gapTimer := 1920 }) := by
  refine congrArg Host.Outcome.next ?_
  unfold serviceByteReceived
  rw [h]
  exact if_neg (by rw [hmore]; decide)

/-- A byte that completes a request has it taken by its owner (R172, R174, R175). -/
theorem exec_byte_completes (hwhole : requestComplete (bs ++ [b]) = true) :
    exec (.serviceByteReceived b stop) s =
      .next (request ((bs ++ [b]).getD 0 0)
        (ownerOf ((bs ++ [b]).getD 0 0) (((bs ++ [b]).drop 2).take (u8 (bs ++ [b]) 1)) (requestBad (bs ++ [b]) (error || !stop)))
        s.hunting) := by
  refine congrArg Host.Outcome.next ?_
  unfold serviceByteReceived
  rw [h]
  exact if_pos hwhole

end

theorem requestComplete_iff (bytes : List Byte) :
    requestComplete bytes = true ↔ 2 ≤ bytes.length ∧ (250 < u8 bytes 1 ∨ bytes.length = 4 + u8 bytes 1) := by
  simp [requestComplete]

theorem requestComplete_eq_false (bytes : List Byte) :
    requestComplete bytes = false ↔ ¬(2 ≤ bytes.length ∧ (250 < u8 bytes 1 ∨ bytes.length = 4 + u8 bytes 1)) := by
  rw [← Bool.not_eq_true, requestComplete_iff]

theorem u8_append_of_lt {bs : List Byte} {i : Nat} (h : i < bs.length) (cs : List Byte) : u8 (bs ++ cs) i = u8 bs i := by
  rw [u8, u8, List.getD_append _ _ _ _ h]

theorem u8_append_length (bs : List Byte) (b : Byte) : u8 (bs ++ [b]) bs.length = b.toNat := by
  rw [u8, List.getD_append_right _ _ _ _ le_rfl, Nat.sub_self]
  rfl

/-! ## A whole request (R175) -/

/-- The bytes of a request after its start byte. -/
def requestFrame (kind : Byte) (payload : List Byte) (crc1 crc2 : Byte) : List Byte :=
  kind :: BitVec.ofNat 8 payload.length :: payload ++ [crc1] ++ [crc2]

theorem toNat_eq_pair_iff (w : Word16) (a b : Byte) : w.toNat = a.toNat * 256 + b.toNat ↔ [a, b] = twoBytes w.toNat := by
  have hw := w.isLt
  have ha := a.isLt
  have hb := b.isLt
  rw [twoBytes, List.cons.injEq, List.cons.injEq, ← BitVec.toNat_inj, ← BitVec.toNat_inj, BitVec.toNat_ofNat, BitVec.toNat_ofNat]
  simp only [and_true]
  omega

section
variable (kind : Byte) {payload : List Byte} (crc1 crc2 : Byte) (hlen : payload.length ≤ 250)
include hlen

theorem requestFrame_count : u8 (requestFrame kind payload crc1 crc2) 1 = payload.length := by
  change (BitVec.ofNat 8 payload.length).toNat = _
  rw [BitVec.toNat_ofNat]
  omega

theorem requestFrame_complete : requestComplete (requestFrame kind payload crc1 crc2) = true := by
  rw [requestComplete_iff, requestFrame_count kind crc1 crc2 hlen]
  simp [requestFrame]
  omega

theorem requestFrame_payload : ((requestFrame kind payload crc1 crc2).drop 2).take (u8 (requestFrame kind payload crc1 crc2) 1)
    = payload := by
  rw [requestFrame_count kind crc1 crc2 hlen]
  simp [requestFrame]

theorem requestFrame_bad (error : Bool) : requestBad (requestFrame kind payload crc1 crc2) error = false ↔
    error = false ∧ [crc1, crc2] = twoBytes (crc (kind :: BitVec.ofNat 8 payload.length :: payload)).toNat := by
  have hhead : (requestFrame kind payload crc1 crc2).take (2 + payload.length)
      = kind :: BitVec.ofNat 8 payload.length :: payload := by
    simp [requestFrame, Nat.add_comm 2]
  have htail : u16 (requestFrame kind payload crc1 crc2) (2 + payload.length) = crc1.toNat * 256 + crc2.toNat := by
    have happend : requestFrame kind payload crc1 crc2
        = (kind :: BitVec.ofNat 8 payload.length :: payload) ++ [crc1, crc2] := by simp [requestFrame]
    have hhere : 2 + payload.length - (kind :: BitVec.ofNat 8 payload.length :: payload).length = 0 := by
      simp only [List.length_cons]
      omega
    rw [happend, u16_append_right _ (by simp only [List.length_cons]; omega), hhere]
    rfl
  rw [requestBad, requestFrame_count kind crc1 crc2 hlen, hhead, htail]
  have hnot : ¬250 < payload.length := by omega
  simp only [hnot, decide_false, Bool.or_false, Bool.or_eq_false_iff, decide_eq_false_iff_not, not_not]
  exact and_congr_right fun _ => toNat_eq_pair_iff _ crc1 crc2

end

/-- The kinds and payload lengths that are no request of TABLE 12-3 (R175). -/
def NoRequest (kind : Byte) (payload : List Byte) : Prop :=
  kind.toNat = 0 ∨ 13 < kind.toNat ∨ kind ∈ [0x02#8, 0x04, 0x05, 0x06, 0x08, 0x09, 0x0A, 0x0D] ∧ payload ≠ []
    ∨ kind ∈ [0x07#8, 0x0B, 0x0C] ∧ payload.length ≠ 1 ∨ kind = 0x03 ∧ payload.length ≠ 7

theorem ownerOf_noRequest {kind : Byte} {payload : List Byte} (h : NoRequest kind payload) :
    ownerOf kind payload false = ownerMalformed := by
  obtain h0 | h13 | ⟨hmem, hne⟩ | ⟨hmem, hne⟩ | ⟨rfl, hne⟩ := h
  · delta ownerOf
    rw [h0]
    rfl
  · obtain ⟨n, hn⟩ := Nat.exists_eq_add_of_lt h13
    have hn : kind.toNat = n + 14 := by omega
    delta ownerOf
    rw [hn]
    rfl
  · obtain ⟨x, xs, rfl⟩ := List.exists_cons_of_ne_nil hne
    simp only [List.mem_cons, List.not_mem_nil, or_false] at hmem
    obtain rfl | rfl | rfl | rfl | rfl | rfl | rfl | rfl := hmem <;> rfl
  · simp only [List.mem_cons, List.not_mem_nil, or_false] at hmem
    match payload, hne with
    | [], _ => obtain rfl | rfl | rfl := hmem <;> rfl
    | [_], hne => exact absurd rfl hne
    | _ :: _ :: _, _ => obtain rfl | rfl | rfl := hmem <;> rfl
  · match payload, hne with
    | [], _ => rfl
    | [_], _ => rfl
    | [_, _], _ => rfl
    | [_, _, _], _ => rfl
    | [_, _, _, _], _ => rfl
    | [_, _, _, _, _], _ => rfl
    | [_, _, _, _, _, _], _ => rfl
    | [_, _, _, _, _, _, _], hne => exact absurd rfl hne
    | _ :: _ :: _ :: _ :: _ :: _ :: _ :: _ :: _, _ => rfl

/-- The target of a DIRECTIVE request counts for SKIP alone (R127). -/
theorem originate_target (k : DirectiveKind) (charge code : Word16) (phase step : Byte) :
    originate k charge code phase step = originate k charge code (if k = .skip then phase else 0) (if k = .skip then step else 0) := by
  cases k <;> rfl

/-- A DIRECTIVE request with no code of TABLE 8-1 (R133). -/
theorem ownerDirective_of_no_code {byte : Byte} (h : ∀ k : DirectiveKind, byte.toNat ≠ k.code) (charge code : Word16)
    (phase step : Byte) (s : State) :
    ownerDirective (directiveRequest byte charge code phase step) s
      = (s, if s.bus.slots.directive = none then .malformed else .busy) := by
  have hnone : directiveOf (u8 (directiveRequest byte charge code phase step) 0) = none := by
    cases hk : directiveOf (u8 (directiveRequest byte charge code phase step) 0) with
    | none => rfl
    | some k => exact absurd ((directiveOf_eq_some_iff _ k).1 hk) (h k)
  rw [ownerDirective, hnone]
  cases s.bus.slots.directive <;> rfl

/-! ## The receiver's rows -/

section
variable {s : State} {bs : List Byte} {error : Bool} (h : s.port.rx = .assembling bs error) (b : Byte) (stop : Bool)
include h

theorem exec_byte_whole {kind : Byte} {payload : List Byte} {crc1 : Byte} (hlen : payload.length ≤ 250)
    (hbs : bs = kind :: BitVec.ofNat 8 payload.length :: payload ++ [crc1]) {bad : Bool}
    (hbad : requestBad (requestFrame kind payload crc1 b) (error || !stop) = bad) :
    exec (.serviceByteReceived b stop) s = .next (request kind (ownerOf kind payload bad) s.hunting) := by
  have hframe : bs ++ [b] = requestFrame kind payload crc1 b := by rw [hbs]; rfl
  have hexec := exec_byte_completes h b stop (by rw [hframe]; exact requestFrame_complete kind crc1 b hlen)
  rw [hframe, requestFrame_payload kind crc1 b hlen, hbad] at hexec
  exact hexec

/-- A whole request without an error is taken by the owner of its kind and payload. -/
theorem exec_byte_good {kind : Byte} {payload : List Byte} {crc1 : Byte} (hlen : payload.length ≤ 250)
    (hbs : bs = kind :: BitVec.ofNat 8 payload.length :: payload ++ [crc1]) (herror : error = false) (hstop : stop = true)
    (hcrc : [crc1, b] = twoBytes (crc (kind :: BitVec.ofNat 8 payload.length :: payload)).toNat) :
    exec (.serviceByteReceived b stop) s = .next (request kind (ownerOf kind payload false) s.hunting) := by
  refine exec_byte_whole h b stop hlen hbs ((requestFrame_bad kind crc1 b hlen _).2 ⟨?_, hcrc⟩)
  rw [herror, hstop]
  rfl

/-- A whole request with a byte error or another CRC is malformed. -/
theorem exec_byte_bad {kind : Byte} {payload : List Byte} {crc1 : Byte} (hlen : payload.length ≤ 250)
    (hbs : bs = kind :: BitVec.ofNat 8 payload.length :: payload ++ [crc1])
    (hbad : error = true ∨ stop = false
      ∨ [crc1, b] ≠ twoBytes (crc (kind :: BitVec.ofNat 8 payload.length :: payload)).toNat) :
    exec (.serviceByteReceived b stop) s = exec (.unknownRequest kind) s.hunting := by
  refine (exec_byte_whole h b stop hlen hbs (bad := true) ?_).trans rfl
  rw [← Bool.not_eq_false, requestFrame_bad kind crc1 b hlen]
  rintro ⟨herror, hcrc⟩
  obtain ⟨he, hs⟩ := Bool.or_eq_false_iff.1 herror
  obtain h' | h' | h' := hbad
  · rw [he] at h'
    cases h'
  · rw [h'] at hs
    cases hs
  · exact h' hcrc

end

/-- Settles O55: the receiver by the bytes it holds, the whole request by its kind and payload, and the response's end. -/
theorem servicePortAssemblesAndAnswers : Obligations.ServicePortAssemblesAndAnswers := by
  refine fun s => ⟨fun hunt => ⟨?_, fun b stop hb => ?_⟩, fun bs error b stop h => ⟨fun hmore => ?_, fun h2 hwhole hlen hsending => ?_,
    fun h1 hlen => ?_, fun kind payload crc1 hlen hbs => ⟨fun herror hstop hcrc => ⟨fun c hc => ?_, fun hno => ?_,
      fun byte phase step charge code hkind hpayload => ⟨fun k hk => ?_, fun hno hidle => ?_⟩⟩,
      fun hbad => exec_byte_bad h b stop hlen hbs hbad⟩, ?_⟩, fun r hr => ⟨fun hbusy => ?_, fun k rest hbusy => ?_⟩⟩
  · refine congrArg Host.Outcome.next ?_
    unfold serviceByteReceived
    rw [hunt]
    rfl
  · refine congrArg Host.Outcome.next ?_
    unfold serviceByteReceived
    rw [hunt]
    refine if_neg ?_
    rw [Bool.and_eq_true, beq_iff_eq]
    rintro ⟨hs, hbyte⟩
    obtain hne | hf := hb
    · exact hne hbyte
    · rw [hs] at hf
      cases hf
  · refine exec_byte_taken h b stop ((requestComplete_eq_false _).2 ?_)
    rw [List.length_append, List.length_singleton]
    obtain h0 | ⟨h1, hb⟩ | ⟨h2, hlen, hshort⟩ := hmore
    · omega
    · have hcount := u8_append_length bs b
      rw [h1] at hcount
      omega
    · rw [u8_append_of_lt h2, u8]
      omega
  · have hcount : u8 (bs ++ [b]) 1 = (bs.getD 1 0).toNat := u8_append_of_lt h2 [b]
    have hkind : (bs ++ [b]).getD 0 0 = bs.getD 0 0 := List.getD_append _ _ _ _ (by omega)
    have hexec := exec_byte_completes h b stop ((requestComplete_iff _).2 (by
      rw [List.length_append, List.length_singleton, hcount]
      omega))
    rw [hexec, hkind]
    refine congrArg Host.Outcome.next ((request_of_occupied (s := s.hunting) (.inl hsending) _ _).trans ?_)
    change (if s.port.busy.length < 4 then _ else _) = _
    split_ifs <;> rfl
  · have hcount : u8 (bs ++ [b]) 1 = b.toNat := by rw [← h1]; exact u8_append_length bs b
    have hkind : (bs ++ [b]).getD 0 0 = bs.getD 0 0 := List.getD_append _ _ _ _ (by omega)
    have hexec := exec_byte_completes h b stop ((requestComplete_iff _).2 (by
      rw [List.length_append, List.length_singleton, hcount]
      omega))
    have hbad : requestBad (bs ++ [b]) (error || !stop) = true := by
      rw [requestBad, hcount, decide_eq_true hlen]
      simp
    rw [hexec, hkind, hbad]
    rfl
  · exact (exec_byte_good h b stop hlen hbs herror hstop hcrc).trans (exec_of_requestBytes hc s.hunting).symm
  · rw [exec_byte_good h b stop hlen hbs herror hstop hcrc, ownerOf_noRequest hno]
    rfl
  · subst hkind hpayload
    refine (exec_byte_good h b stop hlen hbs herror hstop hcrc).trans ?_
    refine Eq.trans ?_ (exec_originRow charge code phase step k s.hunting).symm
    rw [← originate_target]
    exact congrArg Host.Outcome.next (request_directive hk charge code phase step s.hunting).symm
  · subst hkind hpayload
    refine (exec_byte_good h b stop hlen hbs herror hstop hcrc).trans (congrArg Host.Outcome.next ?_)
    exact request_of_answer (s := s.hunting) hidle.1 hidle.2 0x03 (ownerDirective_of_no_code hno charge code phase step s.hunting)
  · refine congrArg Host.Outcome.next ?_
    unfold gapTimerExpiry
    rw [h]
    rfl
  · refine congrArg Host.Outcome.next ?_
    unfold responseEnd
    rw [hr, hbusy]
  · refine congrArg Host.Outcome.next ?_
    unfold responseEnd
    rw [hr, hbusy]

end Sys2Proof.Machine
end

section
/-! The clock (0.7.7): the state of an idle bit time at which no event falls, and what one event alone does (R37 to R39, R43,
R44, R47 to R49, R56, R64, R112, R172). -/

namespace Sys2Proof.Machine

/-! ## The line and the receive wire one bit time later -/

theorem Bus.drives_eq (b : Bus) :
    b.drives =
      match b.attempt with
      | some a =>
        if a.released then .recessive
        else (a.bytes.flatMap byteLevels).getD (11 * a.bytes.length - b.byteBits) .recessive
      | none => .recessive := by
  unfold Bus.drives
  cases b.attempt <;> rfl

theorem Level.wired_eq (own others : Level) :
    own.wired others = if own = .dominant ∨ others = .dominant then .dominant else .recessive := by
  cases own <;> cases others <;> rfl

/-- R38, R39: a level between bytes counts, begins a byte, or is a stop bit that is held. -/
theorem Bus.between_eq (b : Bus) (l : Level) :
    b.between l =
      if l = .recessive then { b with quiet := b.quiet + 1, lastLevel := .recessive }
      else if b.lastLevel = .recessive then
        { b with
          quiet := 0, byteBits := 10, levels := [], lastLevel := .dominant
          runOpen := b.runOpen || decide (20 < b.quiet)
          runBytes := if 20 < b.quiet then some [] else b.runBytes
          ownSent := if 20 < b.quiet then none else b.ownSent }
      else b := by
  unfold Bus.between
  split
  · rfl
  next hlast => rw [hlast]; rfl
  next hlast => rw [hlast]; rfl

/-- R38: a level in a byte is sampled, but for the start bit's own, and the tenth ends the byte. -/
theorem Bus.sampled_eq (b : Bus) (l : Level) :
    b.sampled l =
      { b with
        byteBits := b.byteBits - 1, lastLevel := l
        levels := if b.byteBits % 11 = 0 then b.levels else if b.byteBits % 11 = 1 then [] else b.levels ++ [l]
        runBytes :=
          if b.byteBits % 11 = 1 ∧ b.runOpen = true then b.runBytes.map fun bs => bs ++ [sampledByte (b.levels ++ [l])]
          else b.runBytes } := by
  unfold Bus.sampled
  simp only [byteTime]
  by_cases h0 : b.byteBits % 11 = 0
  · simp [h0]
  by_cases h1 : b.byteBits % 11 = 1
  · simp [h1, Bus.takeByte]
  · simp [h0, h1]

/-- R37 to R39, R49: the line one bit time later, from the level that all of them make of it. -/
theorem Bus.lineTick_eq (b : Bus) (others : Level) :
    b.lineTick others =
      if b.byteBits = 0 then b.between (b.drives.wired others)
      else
        { b.sampled (b.drives.wired others) with
          attempt := b.attempt.map fun a => { a with released := a.released || decide (b.drives ≠ b.drives.wired others) } } := by
  unfold Bus.lineTick
  by_cases h : b.byteBits = 0
  · rw [if_pos h, if_pos h]
  · rw [if_neg h, if_neg h]; rfl

/-! ## A bit time with no event -/

theorem countDown_of_ne_one {t : Nat} (h : t ≠ 1) : countDown t = t - 1 := by
  unfold countDown
  split <;> omega

theorem step_of_idle {s : State} (h : s.pending = []) : step s = .next (tick s) := by
  unfold step
  rw [h]

theorem tick_of_none {s : State} (h : fallingEvents s (countAll s) = []) : tick s = countAll s := by
  unfold tick
  dsimp only
  rw [h]

theorem tick_of_one {s : State} {e : ClockEvent} (h : fallingEvents s (countAll s) = [e]) :
    tick s = takeIfDue (countAll s) e := by
  unfold tick
  dsimp only
  rw [h]

/-- No timer is in its last bit time where no event falls. -/
theorem timer_ne_one_of_none {s c : State} (h : fallingEvents s c = []) {e : ClockEvent} (he : e ∈ ClockEvent.all)
    {t : Nat} (ht : e.timer s = some t) : t ≠ 1 := by
  rintro rfl
  have hfalls := List.filter_eq_nil_iff.1 h e he
  rw [ht] at hfalls
  exact hfalls rfl

/-- The timers one bit time later where none is in its last one. -/
theorem countDown_of_none {s c : State} (h : fallingEvents s c = []) {e : ClockEvent} (he : e ∈ ClockEvent.all)
    {t : Nat} (ht : e.timer s = some t) : countDown t = t - 1 := countDown_of_ne_one (timer_ne_one_of_none h he ht)

/-- R112: the gather timer counts in RUN alone. -/
theorem schedule_tick_of_none {s c : State} (h : fallingEvents s c = []) :
    s.schedule.tick =
      { s.schedule with
        minuteTimer := s.schedule.minuteTimer - 1
        gatherTimer := if s.schedule.mode = .run then s.schedule.gatherTimer - 1 else s.schedule.gatherTimer } := by
  unfold Schedule.tick
  rw [countDown_of_none h (e := .minuteTick) (by decide) rfl]
  by_cases hrun : s.schedule.mode = .run
  · rw [if_pos hrun, if_pos hrun, countDown_of_none h (e := .gatherTimer) (by decide) (if_pos hrun)]
  · rw [if_neg hrun, if_neg hrun]

theorem sending_of_none {s c : State} (h : fallingEvents s c = []) :
    (s.port.sending.map fun r => { r with bitsLeft := countDown r.bitsLeft }) =
      s.port.sending.map fun r => { r with bitsLeft := r.bitsLeft - 1 } := by
  refine Option.map_congr fun r hr => ?_
  rw [countDown_of_none h (e := .responseEnd) (by decide) (t := r.bitsLeft)]
  simp [ClockEvent.timer, hr]

/-- R172: a start bit stops the gap timer, and the bits after it are sampled. -/
theorem port_tick_of_none {s c : State} (h : fallingEvents s c = []) (bit : Bool) :
    s.port.tick bit =
      { (match s.port.rxBits with
          | some bits =>
            { s.port with rxBits := some (bits ++ [bit]), rxLast := bit, gapTimer := s.port.gapTimer - 1 }
          | none =>
            if bit = false ∧ s.port.rxLast = true then
              { s.port with rxBits := some [], rxLast := bit, gapTimer := 0 }
            else { s.port with rxLast := bit, gapTimer := s.port.gapTimer - 1 }) with
        sending := s.port.sending.map fun r => { r with bitsLeft := r.bitsLeft - 1 } } := by
  have hgap : countDown s.port.gapTimer = s.port.gapTimer - 1 := countDown_of_none h (e := .gapTimer) (by decide) rfl
  unfold Port.tick Port.wireTick
  simp only [sending_of_none h, hgap]
  cases s.port.rxBits with
  | some bits => rfl
  | none =>
    by_cases hstart : bit = false ∧ s.port.rxLast = true
    · simp [hstart]
    · simp only [if_neg hstart]
      rw [if_neg]
      rintro hb
      exact hstart (by simpa using hb)

/-- The kiln bus one bit time later, with the two timers of the slots. -/
theorem bus_tick_of_none {s c : State} (h : fallingEvents s c = []) (others : Level) :
    s.bus.tick others =
      { s.bus.lineTick others with
        slots := { s.bus.slots with spacing := s.bus.slots.spacing - 1 }
        blockedTimer := s.bus.blockedTimer - 1 } := by
  rw [← countDown_of_none h (e := .spacingTimer) (by decide) rfl,
    ← countDown_of_none h (e := .lineBlockedTimer) (by decide) rfl]
  simp [Bus.tick]

/-- Settles O2: no timer is in its last bit time, so each counts; the line and the wire take the level and the bit. -/
theorem idleBitTimeOnlyCounts : Obligations.IdleBitTimeOnlyCounts := by
  intro s own others l bit hpending hnone hown hothers hl hbit
  have howns : own = s.bus.drives := hown.trans s.bus.drives_eq.symm
  have hlevel : own.wired others = l := (Level.wired_eq own others).trans hl.symm
  have hline : s.bus.lineTick others = _ := s.bus.lineTick_eq others
  rw [← howns, hlevel, Bus.between_eq, Bus.sampled_eq] at hline
  refine ⟨_, _, rfl, rfl, ?_⟩
  rw [step_of_idle hpending, tick_of_none hnone]
  refine congrArg Host.Outcome.next ?_
  unfold countAll SensorChannel.tick
  rewrite [← hothers, ← hbit, bus_tick_of_none hnone, hline, port_tick_of_none hnone, schedule_tick_of_none hnone,
    countDown_of_none hnone (e := .windowEnd) (by decide) rfl,
    countDown_of_none hnone (e := .sweepInterval) (by decide) rfl,
    countDown_of_none hnone (e := .calibrationTimer) (by decide) rfl,
    countDown_of_none hnone (e := .controlPeriod) (by decide) rfl,
    countDown_of_none hnone (e := .holdTimer .dryBulb) (by decide) rfl,
    countDown_of_none hnone (e := .holdTimer .wetBulb) (by decide) rfl,
    countDown_of_none hnone (e := .settleTimer) (by decide) rfl,
    countDown_of_none hnone (e := .reportTimer) (by decide) rfl,
    countDown_of_none hnone (e := .reofferHoldoff) (by decide) rfl, ← List.drop_one, ← List.drop_one]
  rfl

/-! ## One event alone -/

/-- What falls alone is an event of the clock: its timer is in its last bit time, or the counting has reached it. -/
theorem falls_of_one {s c : State} {e : ClockEvent} (h : fallingEvents s c = [e]) :
    e ∈ ClockEvent.all ∧ (∀ t, e.timer s = some t → t = 1) ∧ (e.timer s = none → e.reached c = true) := by
  have hmem : e ∈ fallingEvents s c := by rw [h]; exact List.mem_singleton_self e
  obtain ⟨hall, hfalls⟩ := List.mem_filter.1 hmem
  refine ⟨hall, fun t ht => ?_, fun ht => ?_⟩ <;> rw [ht] at hfalls
  · exact beq_iff_eq.1 hfalls
  · exact hfalls

/-- Counting takes every event's timer one down, but the gap timer, which a start bit may stop. -/
theorem timer_countAll {e : ClockEvent} (he : e ≠ .gapTimer) (s : State) :
    e.timer (countAll s) = (e.timer s).map countDown := by
  cases e
  case gapTimer => exact absurd rfl he
  case holdTimer sensor => cases sensor <;> rfl
  case spacingTimer => exact congrArg some (by rw [countAll_bus])
  case lineBlockedTimer => exact congrArg some (by rw [countAll_bus])
  case gatherTimer =>
    by_cases hrun : s.schedule.mode = .run
    · simp [ClockEvent.timer, countAll, Schedule.tick, hrun]
    · simp [ClockEvent.timer, countAll, Schedule.tick, hrun, countDown]
  case responseEnd =>
    have hsending : (countAll s).port.sending = s.port.sending.map fun r => { r with bitsLeft := countDown r.bitsLeft } := by
      change (s.port.tick _).sending = _
      unfold Port.tick Port.wireTick
      dsimp only
      split
      · rfl
      · split <;> rfl
    unfold ClockEvent.timer
    rw [hsending]
    cases s.port.sending <;> rfl
  all_goals rfl

/-- R172: the gap timer's end stands unless a start bit has just stopped the timer; every other event that falls stands. -/
theorem due_of_one {s : State} {e : ClockEvent} (h : fallingEvents s (countAll s) = [e]) (he : e ≠ .gapTimer) :
    e.due (countAll s) = true := by
  obtain ⟨-, htimer, hreached⟩ := falls_of_one h
  unfold ClockEvent.due
  rw [timer_countAll he]
  cases ht : e.timer s with
  | none => exact hreached ht
  | some t => rw [htimer t ht]; rfl

theorem step_of_one {s : State} {e : ClockEvent} (hidle : s.pending = []) (h : fallingEvents s (countAll s) = [e])
    (he : e ≠ .gapTimer) : step s = .next (takeEvent e (countAll s)) := by
  rw [step_of_idle hidle, tick_of_one h, takeIfDue, if_pos (due_of_one h he)]

/-- The events that are taken as their rows are, with nothing for a row to tell. -/
theorem step_of_row {s : State} (hidle : s.pending = []) :
    ∀ x ∈ [(ClockEvent.reportTimer, Instr.reportTimerExpiry), (.sweepInterval, .sweepIntervalExpiry),
        (.calibrationTimer, .calibrationTimerExpiry), (.holdTimer .dryBulb, .holdTimerExpiry .dryBulb),
        (.holdTimer .wetBulb, .holdTimerExpiry .wetBulb), (.settleTimer, .settleTimerExpiry),
        (.attemptComplete, .attemptComplete), (.spacingTimer, .spacingTimerExpiry), (.quietGap, .quietGap),
        (.lineBlockedTimer, .lineBlockedTimerExpiry), (.reofferHoldoff, .reofferHoldoffExpiry),
        (.minuteTick, .minuteTick), (.gatherTimer, .gatherTimerExpiry), (.responseEnd, .responseEnd)],
      fallingEvents s (countAll s) = [x.1] → step s = exec x.2 (countAll s) := by
  simp only [List.forall_mem_cons, List.not_mem_nil, false_implies, implies_true, and_true]
  and_intros <;> exact (step_of_one hidle · nofun)

/-- R46: the REPORT slot after a setting, which the address-clash latch discards. -/
theorem setReportSlot_slots (b : Bus) :
    b.setReportSlot.slots = { b.slots with report := if b.clash then b.slots.report else some (b.slots.report.getD 0) } := by
  unfold Bus.setReportSlot
  cases hc : b.clash <;> cases hr : b.slots.report <;> simp <;> rw [← hr]

/-- R56: the report timer is loaded and the REPORT slot set. -/
theorem step_of_reportTimer {s : State} (hidle : s.pending = []) (h : fallingEvents s (countAll s) = [.reportTimer]) :
    ∃ t, step s = .next t ∧ t.peers.reportTimer = 192000
      ∧ t.bus.slots.report = (if s.bus.clash then s.bus.slots.report else some (s.bus.slots.report.getD 0))
      ∧ t.bus.slots.offer = s.bus.slots.offer ∧ t.bus.slots.safe = s.bus.slots.safe
      ∧ t.bus.slots.directive = s.bus.slots.directive := by
  have hslots : (reportTimerExpiry (countAll s)).bus.slots = _ := setReportSlot_slots (countAll s).bus
  rw [countAll_bus] at hslots
  refine ⟨_, step_of_one hidle h nofun, rfl, ?_⟩
  simp only [takeEvent, hslots, Bus.lineTick_clash, and_self]

/-- R64: the entries that the clock ages are those of stations that exist. -/
theorem validStation_of_entry {s c : State} {n : Nat}
    (h : fallingEvents s c = [.entryStale n] ∨ fallingEvents s c = [.entryEmptied n]) : validStation n = true := by
  have hmem : ClockEvent.entryStale n ∈ ClockEvent.all ∨ ClockEvent.entryEmptied n ∈ ClockEvent.all :=
    h.imp (fun h => (falls_of_one h).1) fun h => (falls_of_one h).1
  simp [ClockEvent.all] at hmem
  simp [validStation]
  omega

/-- No command moves the free-value index. -/
theorem nextFree_of_exec {c : Instr} {s t : State} (h : exec c s = .next t) : nextFree t = t.setFreeIndex (s.freeIndex + 1) := by
  obtain ⟨-, -, hindex, -⟩ := commandsKeepStrapsAndQueue c s t h
  rw [nextFree, hindex]

/-- The sweep whose last window has ended is completed as its row is. -/
theorem completeSweep_eq (s : State) :
    (.next (completeSweep s) : Host.Outcome State Fault Refusal) =
      match s.frontEnd.sweep with
      | .idleFe => .next s
      | .calSweep => exec .calibrationSweepComplete s
      | .probeSweep => exec .probeSweepComplete s := by
  unfold completeSweep
  cases s.frontEnd.sweep <;> rfl

/-- R49: a failed attempt keeps the bytes of the run, which the line has shown. -/
theorem attemptFail_runBytes (s : State) : (attemptFail s).bus.runBytes = s.bus.runBytes := by
  unfold attemptFail
  split
  · rfl
  · dsimp only
    split
    · rfl
    · split
      · rfl
      · simp [Bus.withSlots, Bus.lineReleased]

theorem attemptFail_of_told {s : State} (h : s.bus.attempt.isSome = true) :
    attemptFail s =
      (attemptFailTold s).setBus { (attemptFailTold s).bus with runBytes := s.bus.runBytes } := by
  rw [attemptFailTold, if_pos h, ← attemptFail_runBytes]
  rfl

/-- R48: with another start bit at its first bit time an attempt begins or waits, as the free order says. -/
theorem beginOrWait_eq (s : State) :
    (.next (beginOrWait s) : Host.Outcome State Fault Refusal) =
      if s.wires.kiln.headD .recessive = .recessive then exec .attemptBegin s
      else if Config.freeOrder s.freeIndex then exec .attemptBegin (s.setFreeIndex (s.freeIndex + 1))
      else .next (s.setFreeIndex (s.freeIndex + 1)) := by
  unfold beginOrWait
  cases s.wires.kiln.headD .recessive with
  | recessive => rfl
  | dominant =>
    rw [if_pos rfl, if_neg (show ¬ Level.dominant = .recessive from nofun)]
    cases Config.freeOrder s.freeIndex <;> rfl

/-! ## The run whose end the line shows -/

/-- What is handed to an owner is the frame of the run. -/
theorem judgeRun_of_heardFrame {s : State} {k : FrameKind} {run : List LineByte} {f : Frame}
    (h : s.heardFrame k run = some f) : judgeRun run = some f := by
  obtain ⟨g, hg, hif⟩ := Option.bind_eq_some_iff.1 h
  split at hif
  · rw [hg, hif]
  · exact absurd hif nofun

/-- Owners that agree on the frame of a run take the run alike. -/
theorem takeRun_congr {owner owner' : Frame → State → State} {run : List LineByte}
    (h : ∀ f, judgeRun run = some f → owner f = owner' f) (k : FrameKind) (s : State) :
    takeRun k owner run s = takeRun k owner' run s := by
  unfold takeRun takeMeanwhile
  cases hf : s.heardFrame k run with
  | none => rfl
  | some f => simp only [h f (judgeRun_of_heardFrame hf)]

theorem directiveOf_none {n : Nat} (h : 6 < n ∨ n = 0) : directiveOf n = none := by
  rw [Option.eq_none_iff_forall_ne_some]
  rintro k hk
  rw [directiveOf_eq_some_iff] at hk
  cases k <;> simp only [DirectiveKind.code] at hk <;> omega

theorem ownAnyDirective_of_code {k : DirectiveKind} {f : Frame} (h : f.payload.head? = some (BitVec.ofNat 8 k.code)) :
    ownAnyDirective f = ownDirective k f := by
  obtain ⟨rest, hp⟩ := List.head?_eq_some_iff.1 h
  have hcode : directiveOf (u8 f.payload 0) = some k := by
    rw [directiveOf_eq_some_iff, hp]
    cases k <;> rfl
  funext s
  unfold ownAnyDirective
  rw [hcode]

/-- R127: a directive with no code of TABLE 8-1 is ignored, whatever row would take it. -/
theorem ownAnyDirective_of_no_code {f : Frame} (h : ∀ b, f.payload.head? = some b → 6 < b.toNat ∨ b = 0)
    (k : DirectiveKind) : ownAnyDirective f = ownDirective k f := by
  have hnone : directiveOf (u8 f.payload 0) = none := by
    refine directiveOf_none ?_
    cases hp : f.payload with
    | nil => exact .inr rfl
    | cons b rest =>
      refine (h b (by rw [hp]; rfl)).imp id ?_
      rintro rfl
      rfl
  have hform : directiveForm k f.payload = false := by simp [directiveForm, hnone]
  funext s
  unfold ownAnyDirective ownDirective
  rw [hnone, hform]
  rfl

theorem takeHeardRun_of_kind {run : List LineByte} {f : Frame} {k : FrameKind} (h : judgeRun run = some f)
    (hk : FrameKind.ofCode f.kind = some k) (s : State) :
    takeHeardRun run s =
      match k with
      | .report => takeRun .report ownReport run s
      | .offer => takeRun .offer ownOffer run s
      | .safe => takeRun .safe ownSafeFrame run s
      | .directive => takeRun .directive ownAnyDirective run s := by
  have hkind : ((judgeRun run).bind fun f => FrameKind.ofCode f.kind) = some k := by rw [h]; exact hk
  unfold takeHeardRun
  rw [hkind]
  cases k <;> rfl

theorem takeHeardRun_of_no_kind {run : List LineByte}
    (h : judgeRun run = none ∨ ∃ f, judgeRun run = some f ∧ f.kind ∉ [0x1E#8, 0x2D, 0x3C, 0x4B]) (s : State) :
    takeHeardRun run s = discardRun s := by
  have hkind : ((judgeRun run).bind fun f => FrameKind.ofCode f.kind) = none := by
    obtain hj | ⟨f, hj, hnot⟩ := h
    · rw [hj]; rfl
    · rw [hj, Option.bind_some, FrameKind.ofCode, List.find?_eq_none]
      intro k hk heq
      refine hnot (beq_iff_eq.1 heq ▸ ?_)
      cases k <;> decide
  unfold takeHeardRun
  rw [hkind]

/-- R43, R44: a run whose end the line shows is taken as the row of its frame's kind, or discarded. -/
theorem step_of_runEnd {s : State} (hidle : s.pending = []) {run : List LineByte}
    (h : fallingEvents s (countAll s) = [.runEnd]) (hrun : (countAll s).bus.runBytes = some run) :
    step s = .next (takeHeardRun run (countAll s)) := by
  have hends : (countAll s).bus.runOpen = true := by
    have hreached := (falls_of_one h).2.2 rfl
    simp only [ClockEvent.reached, Bus.runEnds, Bool.and_eq_true] at hreached
    obtain ⟨⟨⟨⟨hopen, -⟩, -⟩, -⟩, -⟩ := hreached
    exact hopen
  have hheard : (countAll s).bus.heardRun.getD [] = run := by
    rw [Bus.heardRun, if_pos hends, hrun]; rfl
  rw [step_of_one hidle h nofun, takeEvent, hheard]

/-- Settles O3: the event alone stands to be taken in the counted state, and is taken as its row is. -/
theorem idleBitTimeTakesReportTimer : Obligations.IdleBitTimeTakesReportTimer := by
  intro s hidle
  refine ⟨step_of_reportTimer hidle, step_of_row hidle, fun n => ⟨fun h => ?_, fun h => ?_⟩, fun h => ?_,
    fun bits h hbits => ?_, fun h => ?_, fun h => ?_, fun h => ?_, fun h => ?_, fun run h hrun => ⟨fun hkind => ?_,
    fun f hf => ⟨fun hkind => ?_, fun hkind => ?_, fun hkind => ?_, fun k hkind hcode => ?_⟩⟩⟩
  · rw [step_of_one hidle h nofun, exec_peerEntryStale, if_pos (validStation_of_entry (.inl h))]; rfl
  · rw [step_of_one hidle h nofun, exec_peerEntryEmptied, if_pos (validStation_of_entry (.inr h))]; rfl
  · rw [step_of_idle hidle, tick_of_one h, takeIfDue]
    by_cases hgap : (countAll s).port.gapTimer = 1
    · rw [if_pos hgap, if_pos (show ClockEvent.gapTimer.due (countAll s) = true from beq_iff_eq.2 hgap)]; rfl
    · rw [if_neg hgap, if_neg (show ¬ ClockEvent.gapTimer.due (countAll s) = true from fun hdue => hgap (beq_iff_eq.1 hdue))]
  · rw [step_of_one hidle h nofun]
    refine congrArg Host.Outcome.next ?_
    rw [takeEvent, wireByteReceived, hbits]
  · have hrow : exec (.measurementWindowEnd (Config.freeGrade s.freeIndex)) (countAll s) =
        .next (measurementWindowEnd (Config.freeGrade s.freeIndex) (countAll s)) := rfl
    refine ⟨_, _, hrow, rfl, (step_of_one hidle h nofun).trans ?_⟩
    exact (congrArg (fun u => Host.Outcome.next (completeSweep u)) (nextFree_of_exec hrow)).trans (completeSweep_eq _)
  · have hrow : exec (.controlPeriod (Config.freeDryBulb s.freeIndex) (Config.freeWetBulb s.freeIndex)) (countAll s) =
        .next (controlPeriod (Config.freeDryBulb s.freeIndex) (Config.freeWetBulb s.freeIndex) (countAll s)) := rfl
    have hnext := nextFree_of_exec hrow
    exact ⟨_, hrow, (step_of_one hidle h nofun).trans (congrArg Host.Outcome.next hnext)⟩
  · refine ⟨_, rfl, (step_of_one hidle h nofun).trans (congrArg Host.Outcome.next (attemptFail_of_told ?_))⟩
    have hreached := (falls_of_one h).2.2 rfl
    simp only [ClockEvent.reached, Option.any_eq_true] at hreached
    obtain ⟨a, ha, -⟩ := hreached
    rw [ha]; rfl
  · exact (step_of_one hidle h nofun).trans (beginOrWait_eq _)
  · exact (step_of_runEnd hidle h hrun).trans (congrArg Host.Outcome.next (takeHeardRun_of_no_kind hkind _))
  · exact (step_of_runEnd hidle h hrun).trans
      (congrArg Host.Outcome.next (takeHeardRun_of_kind hf (k := .report) (by rw [hkind]; rfl) _))
  · exact (step_of_runEnd hidle h hrun).trans
      (congrArg Host.Outcome.next (takeHeardRun_of_kind hf (k := .offer) (by rw [hkind]; rfl) _))
  · exact (step_of_runEnd hidle h hrun).trans
      (congrArg Host.Outcome.next (takeHeardRun_of_kind hf (k := .safe) (by rw [hkind]; rfl) _))
  · rw [step_of_runEnd hidle h hrun, takeHeardRun_of_kind hf (k := .directive) (by rw [hkind]; rfl), exec_receivedRow]
    refine congrArg Host.Outcome.next (takeRun_congr (fun g hg => ?_) _ _)
    obtain rfl : f = g := Option.some.inj (hf.symm.trans hg)
    exact hcode.elim ownAnyDirective_of_code (ownAnyDirective_of_no_code · k)

end Sys2Proof.Machine
end
